-- ==== Sys2Proof/Word.lean ====
section
/-! DEFINITION. The word types of the KN72 (R12, R18): registers and descriptor words are 64 bits, memory is
addressed in bytes, sequencer program words are 32 bits. -/
namespace Sys2Proof

/-- A 64-bit register, descriptor word or sequencer word (R12, R18, R52). -/
abbrev U64 := BitVec 64

/-- A byte of memory (R187). -/
abbrev Byte := BitVec 8

end Sys2Proof
end

