-- ==== Sys2Proof/Syntax/Messages.lean ====
section
/-! DEFINITION. What arrives from outside a unit of the device and is an operand of a command: mesh flits and elastic packets. -/
namespace Sys2Proof

/-- A mesh flit (R335): the 48-bit sideband and its data bytes (128, or 64 with HALF). -/
structure Flit where
  sb   : BitVec 48
  data : List Byte
  deriving DecidableEq, Repr

/-- Whose a service flit is, as R346 ranks them within an input: signals first, then the other users in the order of R230, those that
order does not name last (DESIGN CHOICE, log entry 131). -/
inductive ServiceUser where
  | signal
  | commit
  | writeBack
  | gateway
  | ingest
  | other
  deriving DecidableEq, Repr

/-- A codeword as it comes in on a physical lane of a port (R359, R362): its 544 symbols of 10 bits. -/
structure LaneWord where
  lane : Fin 8
  sym  : List (BitVec 10)
  deriving DecidableEq, Repr

/-- An elastic packet (R415, R416): header words 0 to 3 (words 4 to 7 are 0) and the data that follows. -/
structure Packet where
  w0   : U64
  w1   : U64
  w2   : U64
  w3   : U64
  data : List Byte
  deriving DecidableEq, Repr

/-- Eight 64-bit words of host memory: a submission entry (R522) or an input-ring entry (R530). -/
structure Entry where
  w0 : U64
  w1 : U64
  w2 : U64
  w3 : U64
  w4 : U64
  w5 : U64
  w6 : U64
  w7 : U64
  deriving DecidableEq, Repr

/-- The host's words of a function's doorbell page as a poll reads them (R517): the submission producer count, the completion
consumer count, and ring counts by ring id; and the telemetry ring's consumer count, which every poll of the management
function reads (R617). -/
structure HostPoll where
  sqProd : BitVec 32
  cqCons : BitVec 32
  rings  : List (Nat × BitVec 32)
  tel    : U64
  deriving DecidableEq, Repr

/-- A mirror entry as its partner holds it (R485), brought to a quadrant that restores the slot (R496): the record's fields, the admission
block (R484), the count table and token log; `whole` is false when the partner failed before the copy was complete (R497). -/
structure MirrorCopy where
  slot   : Fin 128
  step   : Nat
  pos    : Nat
  left   : Nat
  frame  : Nat
  d0     : Nat
  block  : List Byte
  counts : List (Nat × Nat)
  log    : List (Nat × Nat)
  evict  : Nat
  full   : Bool
  whole  : Bool
  deriving DecidableEq, Repr

/-- Bytes copied into a core's mirrored range: virtual core, address, bytes (R491, R494). -/
structure RangeCopy where
  core : Fin 256
  addr : BitVec 48
  data : List Byte
  deriving DecidableEq, Repr

/-- What the memory controller finds on the HBM words a command reads (R223, R224): words it newly finds uncorrectable, and the single-bit
corrections of its own code and of the stack. -/
structure HbmFinds where
  bad   : List Nat
  sec   : Nat
  ondie : Nat
  deriving DecidableEq, Repr

/-- What a RoCEv2 frame of a storage port carries (R237): an RDMA READ response, an acknowledgement, a negative one, or a transport
function the port does not have. -/
inductive StoragePdu where
  | readResponse (data : List Byte)
  | ack
  | nak
  | other
  deriving DecidableEq, Repr

/-- A frame that arrives at a storage port, layer by layer (R237): its 802.1Q tags, whether it is a pause or priority flow control frame,
its length, the IP version (0 for another protocol), IP options or extension headers, the UDP destination port, a CE mark, and what it
carries. -/
structure StorageFrame where
  tags    : Nat
  pause   : Bool
  length  : Nat
  ip      : Nat
  options : Bool
  udpPort : Nat
  ce      : Bool
  pdu     : StoragePdu
  deriving DecidableEq, Repr

end Sys2Proof
end

