-- ==== Sys2Proof/Syntax.lean ====
section
/-! DEFINITION. The commands the block takes (opcode_table.json): one constructor per row, in the table's order, with the
row's operands. What a command brings from outside the device (a received message, fetched host memory, the drip and
cycle counts of an event) is an operand. -/
namespace Sys2Proof

/-- The commands of the KN72, one per row of the table of operations and events (DESIGN CHOICE, log entry 10). -/
inductive Instr where
  /-- ADD (R57): ALU fn 0: rd is set to rs1 plus rs2. -/
  | add (v : Fin 256) (rd rs1 rs2 : Fin 32)
  /-- SUB (R57): ALU fn 1: rd is set to rs1 minus rs2. -/
  | sub (v : Fin 256) (rd rs1 rs2 : Fin 32)
  /-- AND (R57): ALU fn 2: bitwise AND of rs1 and rs2. -/
  | and (v : Fin 256) (rd rs1 rs2 : Fin 32)
  /-- OR (R57): ALU fn 3: bitwise OR of rs1 and rs2. -/
  | or (v : Fin 256) (rd rs1 rs2 : Fin 32)
  /-- XOR (R57): ALU fn 4: bitwise XOR of rs1 and rs2. -/
  | xor (v : Fin 256) (rd rs1 rs2 : Fin 32)
  /-- SLL (R57): ALU fn 5: logical left shift by rs2[5:0]. -/
  | sll (v : Fin 256) (rd rs1 rs2 : Fin 32)
  /-- SRL (R57): ALU fn 6: logical right shift by rs2[5:0]. -/
  | srl (v : Fin 256) (rd rs1 rs2 : Fin 32)
  /-- SRA (R57): ALU fn 7: arithmetic right shift by rs2[5:0]. -/
  | sra (v : Fin 256) (rd rs1 rs2 : Fin 32)
  /-- SLT (R57): ALU fn 8: signed less-than comparison. -/
  | slt (v : Fin 256) (rd rs1 rs2 : Fin 32)
  /-- SLTU (R57): ALU fn 9: unsigned less-than comparison. -/
  | sltu (v : Fin 256) (rd rs1 rs2 : Fin 32)
  /-- MIN (R57): ALU fn 10: signed minimum. -/
  | min (v : Fin 256) (rd rs1 rs2 : Fin 32)
  /-- MAX (R57): ALU fn 11: signed maximum. -/
  | max (v : Fin 256) (rd rs1 rs2 : Fin 32)
  /-- MUL (R57): ALU fn 12: low 64 bits of the product. -/
  | mul (v : Fin 256) (rd rs1 rs2 : Fin 32)
  /-- MULHU (R57): ALU fn 13: high 64 bits of the unsigned product. -/
  | mulhu (v : Fin 256) (rd rs1 rs2 : Fin 32)
  /-- ADDI (R57): rd is set to rs1 plus the sign-extended imm15. -/
  | addi (v : Fin 256) (rd rs1 : Fin 32) (imm : BitVec 15)
  /-- ANDI (R57): rd is set to rs1 AND the sign-extended imm15. -/
  | andi (v : Fin 256) (rd rs1 : Fin 32) (imm : BitVec 15)
  /-- ORI (R57): rd is set to rs1 OR the sign-extended imm15. -/
  | ori (v : Fin 256) (rd rs1 : Fin 32) (imm : BitVec 15)
  /-- XORI (R57): rd is set to rs1 XOR the sign-extended imm15. -/
  | xori (v : Fin 256) (rd rs1 : Fin 32) (imm : BitVec 15)
  /-- SLLI (R57): Logical left shift by an immediate. -/
  | slli (v : Fin 256) (rd rs1 : Fin 32) (imm : BitVec 15)
  /-- SRLI (R57): Logical right shift by an immediate. -/
  | srli (v : Fin 256) (rd rs1 : Fin 32) (imm : BitVec 15)
  /-- SRAI (R57): Arithmetic right shift by an immediate. -/
  | srai (v : Fin 256) (rd rs1 : Fin 32) (imm : BitVec 15)
  /-- SLTI (R57): rd is set to 1 if rs1 is below imm15 (signed), else to 0. -/
  | slti (v : Fin 256) (rd rs1 : Fin 32) (imm : BitVec 15)
  /-- LUI (R57): rd is set to the sign-extended imm20 times 4,096. -/
  | lui (v : Fin 256) (rd : Fin 32) (imm : BitVec 20)
  /-- LD (R59): Loads a data-memory word at an aligned byte address. -/
  | ld (v : Fin 256) (rd rs1 : Fin 32) (imm : BitVec 15)
  /-- ST (R59): Stores a word to data memory at an aligned byte address. -/
  | st (v : Fin 256) (rs rs1 : Fin 32) (imm : BitVec 15)
  /-- BEQ (R57): Branches if rs1 equals rs2. -/
  | beq (v : Fin 256) (rs1 rs2 : Fin 32) (off : BitVec 15)
  /-- BNE (R57): Branches if rs1 differs from rs2. -/
  | bne (v : Fin 256) (rs1 rs2 : Fin 32) (off : BitVec 15)
  /-- BLT (R57): Branches if rs1 is below rs2, signed. -/
  | blt (v : Fin 256) (rs1 rs2 : Fin 32) (off : BitVec 15)
  /-- BGE (R57): Branches if rs1 is at least rs2, signed. -/
  | bge (v : Fin 256) (rs1 rs2 : Fin 32) (off : BitVec 15)
  /-- BLTU (R57): Branches if rs1 is below rs2, unsigned. -/
  | bltu (v : Fin 256) (rs1 rs2 : Fin 32) (off : BitVec 15)
  /-- BGEU (R57): Branches if rs1 is at least rs2, unsigned. -/
  | bgeu (v : Fin 256) (rs1 rs2 : Fin 32) (off : BitVec 15)
  /-- JAL (R57): Jumps PC-relative and links the return address. -/
  | jal (v : Fin 256) (rd : Fin 32) (off : BitVec 20)
  /-- JALR (R57): Jumps to a register plus an offset and links the return address. -/
  | jalr (v : Fin 256) (rd rs1 : Fin 32) (imm : BitVec 15)
  /-- ASET (R57): Sets an address register's BASE and clears its OFF. -/
  | aset (v : Fin 256) (a : Fin 16) (sr : Fin 32) (imm : BitVec 16)
  /-- ASTR (R57): Sets an address register's STRIDE. -/
  | astr (v : Fin 256) (a : Fin 16) (sr : Fin 32) (imm : BitVec 16)
  /-- AWRP (R57): Sets an address register's WRAP. -/
  | awrp (v : Fin 256) (a : Fin 16) (sr : Fin 32) (imm : BitVec 16)
  /-- AOFF (R57): Sets an address register's OFF. -/
  | aoff (v : Fin 256) (a : Fin 16) (sr : Fin 32) (imm : BitVec 16)
  /-- ASTEP (R58): Steps OFF by a register value, folding at WRAP. -/
  | astep (v : Fin 256) (a : Fin 16) (sr : Fin 32) (imm : BitVec 16)
  /-- AINC (R58): Steps OFF by STRIDE, folding at WRAP. -/
  | ainc (v : Fin 256) (a : Fin 16) (sr : Fin 32) (imm : BitVec 16)
  /-- ARD (R57): Reads an address register's effective address into a scalar register. -/
  | ard (v : Fin 256) (a : Fin 16) (sr : Fin 32) (imm : BitVec 16)
  /-- LIC (R57): Loads a loop count register from an immediate. -/
  | lic (v : Fin 256) (c : Fin 4) (imm : BitVec 20)
  /-- MVC (R57): Moves a scalar value into a loop count register. -/
  | mvc (v : Fin 256) (c : Fin 4) (sr : Fin 32) (imm : BitVec 16)
  /-- RDC (R66): Reads a loop count register's value. -/
  | rdc (v : Fin 256) (c : Fin 4) (sr : Fin 32)
  /-- LOOP (R64): Latches a count and enters a hardware loop, or skips the body when the count is 0. -/
  | loop (v : Fin 256) (c : Fin 4) (len : BitVec 12)
  /-- LIDX (R57): Reads the iteration index of a loop level. -/
  | lidx (v : Fin 256) (level : Fin 4) (sr : Fin 32)
  /-- TLD (R70): Loads a template into a staging buffer. -/
  | tld (v : Fin 256) (b : Fin 4) (idx : Fin 1024)
  /-- PATCH (R68): Writes a field of a staging buffer, with optional post-increment of an address register. -/
  | patch (v : Fin 256) (b : Fin 4) (word : Fin 8) (lsb width : BitVec 6) (src : Fin 32) (kind post : Bool)
  /-- PUSH (R69): Copies a staging buffer to the tail of an engine queue and records its claims, stalling while there is no room. -/
  | push (v : Fin 256) (b q : Fin 4)
  /-- PUSH_STALL_END (R69): A PUSH stalled on a full queue or claim table issues once room frees. -/
  | pushStallEnd (v : Fin 256) (stall : U64)
  /-- WAITDRIP (R73): Form 0: waits for VALID and the next epoch's launch count. -/
  | waitdrip (v : Fin 256)
  /-- FRAME_OPEN (R73): A form-0 WAITDRIP returns, latches the next-epoch values, clears VALID and opens the frame. -/
  | frameOpen (v : Fin 256) (t stall : U64)
  /-- WAITDRIP_FORM_1 (R75): Form 1: waits until the drip view reaches a target. -/
  | waitdripForm1 (v : Fin 256) (sr : Fin 32) (imm : BitVec 19)
  /-- WAITDRIP_FORM_1_RETURN (R75): A form-1 WAITDRIP ends when the drip view reaches its target. -/
  | waitdripForm1Return (v : Fin 256) (t stall : U64)
  /-- WAITQ (R57): Waits until a queue holds at most a given count of uncompleted descriptors. -/
  | waitq (v : Fin 256) (q : Fin 4) (count : Fin 16)
  /-- WAITQ_RETURN (R57): A WAITQ ends once the queue occupancy falls to the count. -/
  | waitqReturn (v : Fin 256) (stall : U64)
  /-- WAITEV (R57): Waits until an event counter reaches a register value. -/
  | waitev (v : Fin 256) (ev : Fin 16) (sr : Fin 32) (imm : BitVec 16)
  /-- WAITEV_RETURN (R78): A WAITEV ends in the cycle after the counter reaches the value. -/
  | waitevReturn (v : Fin 256) (stall : U64)
  /-- EPOCHEND (R76): Closes the epoch frame and tags the last pushed descriptor of each queue with the epoch marker. -/
  | epochend (v : Fin 256) (t : U64)
  /-- GETE (R74): Reads the current or next epoch index, launch count, variant or epoch slot. -/
  | gete (v : Fin 256) (sr : Fin 32) (sel : BitVec 16)
  /-- EVRD (R57): Reads an event counter into a scalar register. -/
  | evrd (v : Fin 256) (ev : Fin 16) (sr : Fin 32) (imm : BitVec 16)
  /-- ASON (R79): Enters KN40 address-stream mode. -/
  | ason (v : Fin 256)
  /-- RDDRIP (R75): Diagnostic read of the drip view, legal only with DIAG set. -/
  | rddrip (v : Fin 256) (rd : Fin 32) (t : U64)
  /-- NOP (R57): No operation. -/
  | nop (v : Fin 256)
  /-- HALT (R57): Stops the sequencer as a write of RUN = 0 does, legal only with DIAG set. -/
  | halt (v : Fin 256)
  /-- SPUSH (R81): Expands a KN40 template into a KN72 descriptor and pushes it. -/
  | spush (v : Fin 256) (idx : Fin 1024) (q : Fin 4)
  /-- SDEF (R79): Defines a KN40 stream in an address register. -/
  | sdef (v : Fin 256) (a : Fin 16) (sr : Fin 32) (imm : BitVec 16)
  /-- SLOOP (R79): KN40 loop with a 16-bit count. -/
  | sloop (v : Fin 256) (c : Fin 4) (len : BitVec 12)
  /-- ASOFF (R79): Leaves address-stream mode. -/
  | asoff (v : Fin 256)
  /-- CONTROL_STATE_ERROR (R53, R63): An uncorrectable (double-bit) error in sequencer control state stops the sequencer and leads to a
  cordon; a single-bit error is corrected and counted. -/
  | controlStateError (p : Fin 288) (t : U64) (double : Bool)
  /-- SEQUENCER_WATCHDOG (R77): A frame is still open or its marker is still unraised WDOG_EPOCHS launches later, so exception 0x11
  fires. -/
  | sequencerWatchdog (v : Fin 256) (t : U64)
  /-- SEQ_RUN_START (R83): A write of SEQ_CTRL.RUN = 1 clears the sequencer state and starts it at SEQ_ENTRY with the frame closed. -/
  | seqRunStart (v : Fin 256)
  /-- SEQ_RUN_STOP (R83): A write of SEQ_CTRL.RUN = 0 stops the sequencer at the next boundary and abandons any wait. -/
  | seqRunStop (v : Fin 256)
  /-- NEXT_EPOCH_WRITE (R72): The supervisor writes a core's next-epoch index, launch count and selection with VALID last. -/
  | nextEpochWrite (v : Fin 256) (t : U64)
  /-- MMUL (R104): A matrix multiply descriptor starts and accumulates anchored exact terms into a slot. -/
  | mmul (v : Fin 256) (waited : U64)
  /-- ANCHOR (R140): An anchor pass computes the tile anchor and writes it to an anchor register. -/
  | anchor (v : Fin 256) (waited : U64)
  /-- WPADD (R147): Adds a tile of wide partials from memory into an accumulator slot. -/
  | wpadd (v : Fin 256) (waited : U64)
  /-- RESIDUE_MISMATCH (R153): A residue or shifter mismatch at the end of a matrix descriptor restores the slot and replays the
  descriptor. -/
  | residueMismatch (v : Fin 256) (i : Fin 2)
  /-- VEW_ADD (R168): Element-wise a + b, rounded once. -/
  | vewAdd (v : Fin 256) (waited : U64)
  /-- VEW_SUB (R168): Element-wise a − b, rounded once. -/
  | vewSub (v : Fin 256) (waited : U64)
  /-- VEW_MUL (R168): Element-wise a × b, rounded once. -/
  | vewMul (v : Fin 256) (waited : U64)
  /-- VEW_DIV (R168): Element-wise a / b, rounded once. -/
  | vewDiv (v : Fin 256) (waited : U64)
  /-- VEW_FMA (R168): Element-wise a × b + c, rounded once. -/
  | vewFma (v : Fin 256) (waited : U64)
  /-- VEW_FMS (R168): Element-wise a × b − c, rounded once. -/
  | vewFms (v : Fin 256) (waited : U64)
  /-- VEW_FMAI (R168): Element-wise a × IMM + b, rounded once. -/
  | vewFmai (v : Fin 256) (waited : U64)
  /-- VEW_MAXIMUM (R168): Element-wise IEEE maximum. -/
  | vewMaximum (v : Fin 256) (waited : U64)
  /-- VEW_MINIMUM (R168): Element-wise IEEE minimum. -/
  | vewMinimum (v : Fin 256) (waited : U64)
  /-- VEW_ABS (R168): Element-wise absolute value. -/
  | vewAbs (v : Fin 256) (waited : U64)
  /-- VEW_NEG (R168): Element-wise negation. -/
  | vewNeg (v : Fin 256) (waited : U64)
  /-- VEW_MOV (R168): Element-wise copy, rounded to the destination format. -/
  | vewMov (v : Fin 256) (waited : U64)
  /-- VEW_MULFRAC (R168): Element-wise exact fraction of a turn of a × b. -/
  | vewMulfrac (v : Fin 256) (waited : U64)
  /-- VEW_SQRT (R168): Element-wise square root. -/
  | vewSqrt (v : Fin 256) (waited : U64)
  /-- VEW_EXP2 (R168): Element-wise 2^a. -/
  | vewExp2 (v : Fin 256) (waited : U64)
  /-- VEW_LOG2 (R168): Element-wise log2 a. -/
  | vewLog2 (v : Fin 256) (waited : U64)
  /-- VEW_RECIP (R168): Element-wise 1 / a. -/
  | vewRecip (v : Fin 256) (waited : U64)
  /-- VEW_RSQRT (R168): Element-wise 1 / √a. -/
  | vewRsqrt (v : Fin 256) (waited : U64)
  /-- VEW_STURN (R168): Element-wise sin(2πa). -/
  | vewSturn (v : Fin 256) (waited : U64)
  /-- VEW_CTURN (R168): Element-wise cos(2πa). -/
  | vewCturn (v : Fin 256) (waited : U64)
  /-- VEW_TANH (R168): Element-wise tanh a. -/
  | vewTanh (v : Fin 256) (waited : U64)
  /-- VEW_SIGMOID (R168): Element-wise logistic sigmoid. -/
  | vewSigmoid (v : Fin 256) (waited : U64)
  /-- VEW_ERF (R168): Element-wise erf a. -/
  | vewErf (v : Fin 256) (waited : U64)
  /-- VEW_SILU (R168): Element-wise a / (1 + e^−a). -/
  | vewSilu (v : Fin 256) (waited : U64)
  /-- VCVT (R171): Converts the elements of A into the destination format, including block formats with scales. -/
  | vcvt (v : Fin 256) (waited : U64)
  /-- VRED_SUM (R175): Exact row sum, written as a single rounding or as a partial. -/
  | vredSum (v : Fin 256) (waited : U64)
  /-- VRED_SUMSQ (R175): Exact row sum of truncated squares. -/
  | vredSumsq (v : Fin 256) (waited : U64)
  /-- VRED_MAX (R175): Row maximum. -/
  | vredMax (v : Fin 256) (waited : U64)
  /-- VRED_MIN (R175): Row minimum. -/
  | vredMin (v : Fin 256) (waited : U64)
  /-- VRED_PSUM (R177): Checks exact-sum partials and combines them with one rounding. -/
  | vredPsum (v : Fin 256) (waited : U64)
  /-- VGATHER (R178): Copies the table rows named by indexes into consecutive rows of D. -/
  | vgather (v : Fin 256) (waited : U64)
  /-- COPY (R683): Move engine copies rows from source to destination in ascending order. -/
  | copy (v : Fin 256) (waited : U64)
  /-- FILL (R111): Move engine fills a destination with a repeated 64-bit pattern. -/
  | fill (v : Fin 256) (waited : U64)
  /-- SLOW_IN (R220): Moves data from HBM into a sump buffer in the core's owned HBM slots. -/
  | slowIn (v : Fin 256) (waited : U64) (found : HbmFinds)
  /-- SLOW_OUT (R220): Moves data from a sump buffer to HBM in the core's owned HBM slots. -/
  | slowOut (v : Fin 256) (waited : U64) (bad : List Nat)
  /-- PULL (R684): Sends a read request to a peer core's crystal region and receives the data on its kind-5 flow. -/
  | pull (v : Fin 256) (waited : U64)
  /-- PULL_REQUEST (R684): A peer receives a PULL request flit and reads the range in its free exchange read slots. -/
  | pullRequest (v : Fin 256)
  /-- SEND (R113): Sends a planned flow's data in its owned injection slots. -/
  | send (v : Fin 256) (waited : U64)
  /-- RECV (R114): Starts receiving a planned flow's granules into the destination. -/
  | recv (v : Fin 256) (waited : U64)
  /-- ESEND (R416): Sends an elastic write request to a remote core as packets. -/
  | esend (v : Fin 256) (waited : U64)
  /-- EREAD (R416): Sends an elastic read request to a remote core. -/
  | eread (v : Fin 256) (waited : U64)
  /-- DESCRIPTOR_COMPLETE (R100): A descriptor completes: its writes become visible, its claims are released, its event is raised and
  its signal is sent. -/
  | descriptorComplete (v : Fin 256) (q : Fin 4) (pos : Fin 8) (t : U64)
  /-- PEER_EVENT_SIGNAL (R101): A SIG 2 signal arrives at a peer core and raises its event counter. -/
  | peerEventSignal (v : Fin 256) (ev : Fin 16)
  /-- SUPERVISOR_SIGNAL (R101): A SIG 1 signal arrives and is appended to the supervisor's signal queue. -/
  | supervisorSignal (v : Fin 256) (tag : BitVec 16)
  /-- PLANNED_DATA_ARRIVAL (R114): Planned-flow data reaches an exchange engine and is held or written under its RECV. -/
  | plannedDataArrival (v : Fin 256) (flow : Fin 1024) (data : List Byte) (crcs : List (BitVec 16))
  /-- FLUSH (R120): CORE_QUEUE_CTRL.FLUSH discards every uncompleted descriptor and releases their claims. -/
  | flush (v : Fin 256)
  /-- FAULT_RECORD_FORWARD (R123): The supervisor takes a record from its fault queue, forwards it and posts a notice. -/
  | faultRecordForward (q : Fin 4)
  /-- PLAN_FAULT_NOTICE (R119): A plan-fault notice on the control flow sets PLAN_FAULT on a quadrant. -/
  | planFaultNotice (q : Fin 4)
  /-- CRYSTAL_WRITE_BACK (R206): A queued corrected unit is rewritten in a free move-engine slot. -/
  | crystalWriteBack (p : Fin 288)
  /-- RECRYSTALLISATION_DONE (R208): Re-crystallisation of poisoned or moved rows completes and the digest is compared. -/
  | recrystallisationDone (v : Fin 256) (found : HbmFinds)
  /-- CORE_REGION_WRITE (R203): A CORE_REGION write takes effect only when the core is quiescent, or at the next launch for keeper
  crystal changes. -/
  | coreRegionWrite (v : Fin 256) (n : Fin 16) (val : U64) (keeper : Bool)
  /-- PORT_SHARE_WRITE (R196): A CORE_PORT_SHARE write takes effect whole, or is ignored with REG_REJ. -/
  | portShareWrite (v : Fin 256) (val : U64)
  /-- HBM_REFRESH (R219): Per-bank refresh runs in controller slots. -/
  | hbmRefresh (q : Fin 4) (hot : Bool)
  /-- PATROL_SCRUB (R219): Patrol scrub reads HBM in controller slots. -/
  | patrolScrub (q : Fin 4) (sec ondie : Nat) (bad : List Nat)
  /-- LOAD (R232): A load command starts ingest of a shard. -/
  | load (q : Fin 4) (entry : Entry) (block : Option (List Byte))
  /-- STORAGE_READ_RESPONSE (R238): An RDMA READ response or frame arrives at a storage port and feeds the ingest stream. -/
  | storageReadResponse (q : Fin 4) (port : Fin 2) (frame : StorageFrame) (t : U64)
  /-- STORAGE_READ_TIMEOUT (R238): An unanswered READ is retried, then moved to the other port, or the load fails. -/
  | storageReadTimeout (q : Fin 4)
  /-- OUTSTANDING_LIMIT_RAISE (R238): After 100 µs without marks the READ limit of a queue pair rises by 1. -/
  | outstandingLimitRaise (q : Fin 4) (t : U64)
  /-- INGEST_STREAM_DONE (R232): The stored form is fully streamed, its digests are checked and the piece images are copied to crystal. -/
  | ingestStreamDone (q : Fin 4) (found : HbmFinds)
  /-- BAR2_WRITE (R239): A PCIe write to BAR2 lands in the staging area, or is discarded while STAGE_BUSY is set. -/
  | bar2Write (q : Fin 4) (off : BitVec 32) (data : List Byte)
  /-- BAR2_READ (R516): A PCIe read of BAR2 returns staging data, or zeros beyond its size. -/
  | bar2Read (q : Fin 4) (off : BitVec 32) (len : Fin 4097) (found : HbmFinds)
  /-- UNLOAD (R252): Returns an unreferenced shard's residency record to free. -/
  | unload (q : Fin 4) (entry : Entry)
  /-- RETIRE (R255): Moves a LIVE adapter or prefix version to RETIRING. -/
  | retire (q : Fin 4) (entry : Entry)
  /-- DIGEST_RECHECK (R250): Each recheck interval, the ingest engine starts rereading live shards' piece images. -/
  | digestRecheck (q : Fin 4) (t : U64)
  /-- RECHECK_DONE (R251): A recheck completes and any digest mismatch is repaired as tabled. -/
  | recheckDone (q : Fin 4) (t : U64) (found : HbmFinds)
  /-- BOUNDARY_SNAPSHOT (R273): At each launch the hub scans commits, posts outputs, polls, applies commands, starts steps, admits and
  writes the batch table. -/
  | boundarySnapshot (q : Fin 4) (poll : HostPoll) (no : List (Fin 1024))
  /-- IDLE_POLL (R275): With no plan running, the hub polls every 2,048 drips and applies plan-free commands. -/
  | idlePoll (f : Fin 5) (poll : HostPoll) (t : U64)
  /-- HOST_FETCH_COMPLETE (R274): A fetch of entries or payloads from host memory completes. -/
  | hostFetchComplete (f : Fin 5) (entry : Entry) (block : Option (List Byte))
  /-- ADMIT (R287): Places an admission entry in the quadrant's admission queue. -/
  | admitSequence (q : Fin 4) (entry : Entry) (block : Option (List Byte))
  /-- CANCEL (R289): Removes a queued admission entry. -/
  | cancel (q : Fin 4) (entry : Entry)
  /-- END (R278): Moves a sequence to DRAIN, posting its in-flight outputs. -/
  | endSequence (q : Fin 4) (entry : Entry)
  /-- ABORT (R278): Moves a sequence to DRAIN, discarding its in-flight outputs. -/
  | abort (q : Fin 4) (entry : Entry)
  /-- CUT (R325): Requests a rewind of a sequence to a position, pending while a step is in flight. -/
  | cut (q : Fin 4) (entry : Entry)
  /-- ACCT_SET (R298): Sets an account's RATE, BURST and weights. -/
  | acctSet (q : Fin 4) (entry : Entry)
  /-- ACCT_CREDIT (R298): Adds an amount to an account's balance. -/
  | acctCredit (q : Fin 4) (entry : Entry)
  /-- VARIANT_REQ (R300): Names or clears the host's requested variant. -/
  | variantReq (q : Fin 4) (entry : Entry)
  /-- CREATE_RING (R523): Creates a stream ring. -/
  | createRing (q : Fin 4) (entry : Entry)
  /-- DELETE_RING (R532): Deletes an unbound stream ring. -/
  | deleteRing (q : Fin 4) (entry : Entry)
  /-- BIND_RINGS (R532): Binds stream rings to a restored slot. -/
  | bindRings (q : Fin 4) (entry : Entry)
  /-- INPUT_FRAME (R279): A fetched input-ring entry is applied, or discarded with a stream error. -/
  | inputFrame (q : Fin 4) (ring : Fin 256) (entry : Entry) (payload : List Byte)
  /-- GATEWAY_FRAME_WRITE (R280): The gateway writes a frame into the slot's input buffer in free move slots. -/
  | gatewayFrameWrite (q : Fin 4) (slot : Fin 128)
  /-- PROMPT_CHUNK_WRITE (R685): The gateway writes a fetched prompt chunk into the prompt buffer. -/
  | promptChunkWrite (q : Fin 4) (slot : Fin 128) (chunk : Fin 16384) (data : List Byte)
  /-- ADM_HEAD_READ (R290): A read of ADM_HEAD delivers and removes the next entry in priority order. -/
  | admHeadRead (q : Fin 4)
  /-- ADM_RETURN (R290): A write of ADM_RETURN puts an entry back in its place. -/
  | admReturn (q : Fin 4) (val : U64)
  /-- ADM_WMARK_WRITE (R304): Sets the watermarks, or is ignored with REG_REJ when LOW is at least HIGH. -/
  | admWmarkWrite (q : Fin 4) (val : U64)
  /-- LOAD_REPORT (R299): The partition master receives a quadrant's load report on the report flow. -/
  | loadReport (q : Fin 4) (k : U64) (metrics : List (BitVec 32))
  /-- COMMIT_SIGNAL (R319): The commit unit receives a SIG 3 step-write signal as a group member, or discards it. -/
  | commitSignal (v : Fin 256) (tag : BitVec 16)
  /-- DRAW_REQUEST (R314): A SIG 3 draw request is queued at the sampler. -/
  | drawRequest (v : Fin 256) (tag : BitVec 16)
  /-- SAMPLER_DRAW (R316): The sampler serves the next draw, reading the logits row and choosing a token. -/
  | samplerDraw (q : Fin 4)
  /-- DRAW_COMPLETE (R315): The draw result is written at RESULT and REV is raised on RCORE. -/
  | drawComplete (q : Fin 4)
  /-- COMMIT_APPLY (R321): With every member received, the group is applied and a mirror delta is sent. -/
  | commitApply (q : Fin 4) (row : Fin 256) (t : U64)
  /-- MESH_FLIT_ARRIVAL (R340): A flit arrives at a router and is forwarded in its owned or elastic slot, or discarded. -/
  | meshFlitArrival (p : Fin 288) (input : Fin 5) (cycle : U64) (flit : Flit) (response : Bool) (user : ServiceUser) (exit : Fin 5)
  /-- SLOT_TABLE_PARITY_ERROR (R353): A parity error in a slot-table entry resets the quadrant. -/
  | slotTableParityError (q : Fin 4)
  /-- MSH_SWAP_ARM (R352): A write of MSH_SWAP_AT arms or disarms the mesh bank swap. -/
  | mshSwapArm (q : Fin 4) (count : U64)
  /-- MESH_BANK_SWAP (R352): At the first frame boundary at or after the swap count, every router swaps banks. -/
  | meshBankSwap (q : Fin 4) (t : U64)
  /-- LINK_UNIT_TRANSMIT (R370): A port sends a unit in a slot according to its owner, or a replay, control or idle unit. -/
  | linkUnitTransmit (port : Fin 12) (t : U64)
  /-- LINK_UNIT_RECEIVE (R374): A port receives a link unit, checks it, handles its items and releases or NAKs it. -/
  | linkUnitReceive (port : Fin 12) (words : List LaneWord) (t : U64)
  /-- ACK_TIMER (R373): 400 drips after the last ACK, an ACK is queued if P has advanced. -/
  | ackTimer (port : Fin 12) (t : U64)
  /-- REPLAY_TIMEOUT (R376): An unacknowledged oldest unit is replayed once its timer expires. -/
  | replayTimeout (port : Fin 12) (t : U64)
  /-- PROBE_BURST (R381): In DETECT, a 2 µs burst of PROBE codewords is sent on lane 0 every 10 ms. -/
  | probeBurst (port : Fin 12)
  /-- PROBE_RECEIVE (R381): PROBE codewords received in two consecutive bursts move the port to ACQUIRE. -/
  | probeReceive (port : Fin 12) (probe : Bool)
  /-- LANES_LOCKED (R381): Lanes of the target width lock and the port enters ALIGN. -/
  | lanesLocked (port : Fin 12) (lanes : BitVec 8)
  /-- ALIGN_DONE (R381): Both directions are aligned and the port enters EXCHANGE. -/
  | alignDone (port : Fin 12) (skew : BitVec 16)
  /-- ACQUIRE_TIMEOUT (R381): After 50 ms in ACQUIRE the port returns to DETECT and counts a failure. -/
  | acquireTimeout (port : Fin 12)
  /-- ALIGN_TIMEOUT (R381): After 1 ms in ALIGN the port returns to ACQUIRE. -/
  | alignTimeout (port : Fin 12)
  /-- EXCHANGE_TIMEOUT (R381): After 5 ms in EXCHANGE the port returns to DETECT. -/
  | exchangeTimeout (port : Fin 12)
  /-- IDENT (R383): An IDENT message gives the peer's identity, widths and table digests. -/
  | ident (port : Fin 12) (id : BitVec 20) (valid : Bool) (factory : U64) (peerPort : Fin 16) (digestActive digestInactive : BitVec 32)
  /-- SYNC (R383): A SYNC message gives the peer's acknowledgement point and lanes, completing training or a retrain phase. -/
  | sync (port : Fin 12) (point : BitVec 16) (t : U64)
  /-- DIGEST (R384): A DIGEST message gives the armed bank's digest for comparison at the swap. -/
  | digest (port : Fin 12) (digest : BitVec 32)
  /-- LOSS_OF_SIGNAL (R382): All lanes dark for 100 µs send the port to DETECT and declare the link down. -/
  | lossOfSignal (port : Fin 12) (t : U64)
  /-- RETRAIN_SYMBOL (R387): A received RETRAIN symbol starts or joins a retrain. -/
  | retrainSymbol (port : Fin 12) (t : U64)
  /-- RETRAIN_PHASE_DONE (R388): A retrain phase completes and the next phase starts, or ACTIVE resumes. -/
  | retrainPhaseDone (port : Fin 12) (lanes : BitVec 8) (skew : BitVec 16) (t : U64)
  /-- RETRAIN_PHASE_TIMEOUT (R388): A retrain phase over its bound sends the port to ACQUIRE. -/
  | retrainPhaseTimeout (port : Fin 12)
  /-- RECONFIG_SYMBOL (R392): A RECONFIG symbol requests or announces a width or rate change. -/
  | reconfigSymbol (port : Fin 12) (data : BitVec 4)
  /-- ERROR_WINDOW (R387): The uncorrectable-codeword window ends, and a count over the limit starts a retrain. -/
  | errorWindow (port : Fin 12) (t : U64)
  /-- LINK_ENABLE (R394): A write of LNK_CTRL.ENABLE = 1 moves the port from OFF to DETECT. -/
  | linkEnable (port : Fin 12)
  /-- LINK_DISABLE (R394): A write of LNK_CTRL.ENABLE = 0 darkens the lasers and enters OFF. -/
  | linkDisable (port : Fin 12) (t : U64)
  /-- APPLY (R392): LNK_CTRL.APPLY requests the written width and rate. -/
  | apply (port : Fin 12)
  /-- RETRAIN (R394): LNK_CTRL.RETRAIN retrains an active link or trains a down one. -/
  | retrain (port : Fin 12) (t : U64)
  /-- LNK_SWAP_ARM (R397): A write of LNK_SWAP_AT arms the transmit bank swap and sends DIGEST. -/
  | lnkSwapArm (port : Fin 12) (count : U64)
  /-- LINK_BANK_SWAP (R397): The transmitter swaps banks at a frame boundary and toggles TX_BANK. -/
  | linkBankSwap (port : Fin 12) (t : U64)
  /-- TX_BANK_TOGGLE (R397): The receiver sees the toggle and swaps its receive bank at its next frame boundary. -/
  | txBankToggle (port : Fin 12)
  /-- ELASTIC_PACKET_RECEIVE (R417): A device routes an elastic packet onward or delivers it, or discards it. -/
  | elasticPacketReceive (port : Fin 12) (pkt : Packet)
  /-- ELASTIC_TARGET_ARRIVAL (R426): The target writes a request packet, delivers a complete request and sends its response. -/
  | elasticTargetArrival (q : Fin 4) (pkt : Packet) (t : U64)
  /-- FLAGGED_HOLD_TIMEOUT (R423): A flagged request held ORDER_US is delivered with STATUS 1. -/
  | flaggedHoldTimeout (v : Fin 256) (win : Fin 1024) (id : BitVec 16) (t : U64)
  /-- ELASTIC_RESPONSE (R427): A response completes an elastic request, or asks for a retry. -/
  | elasticResponse (q : Fin 4) (pkt : Packet) (t : U64)
  /-- ELASTIC_RETRY_TIMEOUT (R427): No response within RTO_US retries the request on an available route. -/
  | elasticRetryTimeout (q : Fin 4) (win : Fin 1024) (id : BitVec 16) (t : U64)
  /-- WINDOW_WAIT_END (R419): A request waiting on its window's limits is sent once earlier requests complete. -/
  | windowWaitEnd (q : Fin 4) (win : Fin 1024) (t : U64)
  /-- TIME_MARK_SEND (R453): Each port sends a TIME_MARK at each millionth drip and at EXCHANGE entry. -/
  | timeMarkSend (port : Fin 12) (t : U64) (frac : Fin 64)
  /-- TIME_MARK_RECEIVE (R453): A received TIME_MARK's arrival time is recorded. -/
  | timeMarkReceive (port : Fin 12) (mark : Fin 64) (t : U64) (frac : Fin 64)
  /-- TIME_MESSAGE_SEND (R454): 20 to 200 µs after its mark, a port sends its TIME message. -/
  | timeMessageSend (port : Fin 12) (t : U64)
  /-- TIME_MESSAGE (R455): A TIME message yields delay and offset, drives election, parent choice, servo and state changes. -/
  | timeMessage (port : Fin 12) (payload : List Byte) (t : U64)
  /-- STRATUM_HOLD_EXPIRY (R458): After HOLD_MS the device takes a new parent. -/
  | stratumHoldExpiry (t : U64)
  /-- GM_ELECTION_TIMEOUT (R451): No key advertised for 3 exchange periods makes a candidate grandmaster. -/
  | gmElectionTimeout (t : U64)
  /-- HOLDOVER_LIMIT (R457): The holdover bound passes 14.5 drips and the device enters OUT_OF_STEP. -/
  | holdoverLimit (t : U64)
  /-- TIMEBASE_LOCK_LOSS (R440): Timebase PLL loss of lock or state parity error enters OUT_OF_STEP and resets the device. -/
  | timebaseLockLoss  (t : U64)
  /-- ARRIVE (R464): TB_SNAP_CTRL.ARRIVE makes the device arrive at the open keeper barrier. -/
  | arrive (t : U64)
  /-- EPOCH0 (R465): TB_SNAP_CTRL.EPOCH0 originates an epoch-zero alignment. -/
  | epoch0 (t : U64)
  /-- HOLD (R466): TB_SNAP_CTRL.HOLD raises the emergency hold. -/
  | hold (t : U64)
  /-- ARRIVE_SYMBOL (R464): An ARRIVE symbol from a child is recorded and may forward ARRIVE or originate RELEASE. -/
  | arriveSymbol (port : Fin 12) (code : Fin 64) (t : U64)
  /-- RELEASE_SYMBOL (R462): A RELEASE symbol is decoded to its event count and forwarded. -/
  | releaseSymbol (port : Fin 12) (code : Fin 64) (t : U64)
  /-- EPOCH0_SYMBOL (R465): An EPOCH0 symbol is decoded, forwarded and set pending, or reported late. -/
  | epoch0Symbol (port : Fin 12) (code : Fin 64) (t : U64)
  /-- LOAD_LATE_MESSAGE (R24): The master's keeper receives a load-late message. -/
  | loadLateMessage (id : BitVec 20) (mask : BitVec 4) (drip : U64)
  /-- HOLD_SYMBOL (R466): A HOLD symbol sets HELD and the hold count, and cancels later EPOCH0s. -/
  | holdSymbol (port : Fin 12) (code : Fin 64) (t : U64)
  /-- RELEASE_FIRE (R464): At the event count, the barrier number is raised and the keeper interrupted. -/
  | releaseFire (t : U64)
  /-- EPOCH0_FIRE (R465): At the event count, L0 is written and the plan origin taken. -/
  | epoch0Fire (t : U64)
  /-- HOLD_FIRE (R494): At the hold count, sequencers stop, queues flush and groups abort. -/
  | holdFire (t : U64)
  /-- VARIANT_NOTICE (R41): A variant notice arrives on the control flow and sets PENDING. -/
  | variantNotice (q : Fin 4) (v : Fin 8) (ks count t : U64)
  /-- SWITCH_CONFIRM (R42): At L(ks − 1) a device holding the notice confirms the switch, or raises the emergency hold. -/
  | switchConfirm (q : Fin 4) (ks t : U64)
  /-- VARIANT_SWITCH (R42): At S epoch ks launches under the target variant. -/
  | variantSwitch (q : Fin 4)
  /-- MONITOR_WARNING (R445): A replica monitor warns and the next period is stretched, or M falls. -/
  | monitorWarning (v : Fin 256) (win : Nat)
  /-- CLOCK_STEP (R443): Every 64 core cycles the commanded step moves one step toward the request. -/
  | clockStep (v : Fin 256)
  /-- MARGIN_FALL (R446): Each further 1,024 cycles of warning with no stretches left lower M. -/
  | marginFall (v : Fin 256)
  /-- MARGIN_RAISE (R446): After 2^RAISE_EXP cycles with no warning M rises by 1. -/
  | marginRaise (v : Fin 256)
  /-- CORE_CLOCK_LOCK_LOSS (R447): A core generator loses lock and sets LOCK_LOST. -/
  | coreClockLockLoss (v : Fin 256)
  /-- CLOCK_TARGET_WRITE (R444): A write of CLK_CORE_CTRL sets TARGET and CAP, ignoring TARGET below the floor. -/
  | clockTargetWrite (v : Fin 256) (val : U64)
  /-- CORDON_CORE (R475): Cordons a core, holds it in reset, fences its router and remaps its row. -/
  | cordonCore (p : Fin 288)
  /-- CORDON_PORT (R475): Cordons a port by disabling it. -/
  | cordonPort (port : Fin 12) (t : U64)
  /-- CORDON_QUADRANT (R475): Cordons a quadrant, clearing its keys and idling its bridges. -/
  | cordonQuadrant (q : Fin 4)
  /-- RELEASE_CORE (R505): Releases a cordoned core by running its self-test. -/
  | releaseCore (p : Fin 288)
  /-- CORE_SELF_TEST_DONE (R505): A passed self-test clears the core's FAILED bit and leaves it a spare. -/
  | coreSelfTestDone (p : Fin 288) (pass : Bool)
  /-- RELEASE_PORT (R505): Releases a cordoned port by enabling it again. -/
  | releasePort (port : Fin 12)
  /-- RELEASE_QUADRANT (R505): Releases an unused cordoned quadrant as a standby. -/
  | releaseQuadrant (q : Fin 4)
  /-- RECOVERY_EVENT_REPORT (R490): The master receives a recovery event on the report flow and sends a recovery-pending notice. -/
  | recoveryEventReport (q : Fin 4) (src : BitVec 22) (event : Fin 3)
  /-- RECOVERY_PENDING_NOTICE (R490): A recovery-pending notice sets PENDING on a quadrant. -/
  | recoveryPendingNotice (q : Fin 4)
  /-- FLOW_COPY_DONE (R491): The supervisor's copy of a moved position's flow regions completes. -/
  | flowCopyDone (v : Fin 256) (fill : List RangeCopy) (whole : Bool)
  /-- RESTART_NOTICE (R492): A restart notice naming kr and m arrives and arms the restart. -/
  | restartNotice (q : Fin 4) (kr : U64) (m : BitVec 16)
  /-- RESTART_STOP (R493): At L(kr − m) cores stop, flush and abort groups, the new map and code take effect and sequencers restart. -/
  | restartStop (q : Fin 4)
  /-- RESTART_LAUNCH (R493): At L(kr) banks swap, PENDING clears and aborted steps start again. -/
  | restartLaunch (q : Fin 4) (t : U64)
  /-- STANDBY_RESTORE_DONE (R494): A standby's restore and mirror fill complete for the failed role. -/
  | standbyRestoreDone (q : Fin 4) (role : BitVec 32) (v : Fin 8) (k kv : U64) (slots : List MirrorCopy) (fill : List RangeCopy) (device : BitVec 20) (quad : Fin 4)
  /-- MIRROR_DELTA (R485): The partner applies an in-order delta record and acknowledges it, or reports a gap. -/
  | mirrorDelta (q : Fin 4) (record : List Byte)
  /-- MIRROR_ACK (R486): An acknowledgement record brings a slot's mirror toward in step. -/
  | mirrorAck (q : Fin 4) (slot : Fin 128) (dseq : BitVec 32)
  /-- WEIGHT_CHANGE_NOTICE (R503): A weight change epoch kw is announced on the control flow. -/
  | weightChangeNotice (q : Fin 4) (kw : U64)
  /-- WEIGHT_CHANGE (R503): At L(kw − 1) the new base words are written, and at L(kw) older groups are aborted. -/
  | weightChange (q : Fin 4) (t : U64)
  /-- LINK_UNIT_CORRUPTION (R501): Rehearsal kind 0 inverts the CRC of the next units sent. -/
  | linkUnitCorruption (n : Fin 64)
  /-- FORCED_RETRAIN (R501): Rehearsal kind 1 retrains a port without counting toward R390. -/
  | forcedRetrain (n : Fin 64) (t : U64)
  /-- RESIDUE_INJECTION (R155): Rehearsal kind 2 inverts a residue prediction bit on the next tile. -/
  | residueInjection (n : Fin 64)
  /-- CRYSTAL_SYMBOL_ERROR (R501): Rehearsal kind 3 inverts a crystal data symbol. -/
  | crystalSymbolError (n : Fin 64)
  /-- REHEARSAL_CORDON (R501): Rehearsal kind 4 cordons a core and runs a restart-point recovery. -/
  | rehearsalCordon (n : Fin 64)
  /-- MIRROR_PROMOTION (R501): Rehearsal kind 5 discards a slot's hub state and restores it from its partner. -/
  | mirrorPromotion (n : Fin 64) (copy : MirrorCopy)
  /-- FUNCTION_ENABLE (R540): HIF_CTRL.ENABLE = 1 starts polling a function's doorbell page. -/
  | functionEnable (f : Fin 5)
  /-- FUNCTION_DISABLE (R540): HIF_CTRL.ENABLE = 0 stops polling and discards the completion queue. -/
  | functionDisable (f : Fin 5)
  /-- HOST_REQUEST_ERROR (R534): A device request ending in error or timeout stalls the function. -/
  | hostRequestError (f : Fin 5)
  /-- FUNCTION_LEVEL_RESET (R535): A function-level reset of a quadrant function resets the quadrant. -/
  | functionLevelReset (f : Fin 5)
  /-- PERST (R549): PERST#, a hot reset or a link down resets the quadrants of that link. -/
  | perst (link : Fin 4)
  /-- ENTDAA (R538): I3C dynamic address assignment. -/
  | entdaa (addr : BitVec 7)
  /-- SETDASA (R538): I3C sets the dynamic address from the static one. -/
  | setdasa (static addr : BitVec 7)
  /-- RSTDAA (R538): I3C resets the dynamic address. -/
  | rstdaa
  /-- ENEC (R538): I3C enables events such as in-band interrupts. -/
  | enec (events : Byte)
  /-- DISEC (R538): I3C disables events. -/
  | disec (events : Byte)
  /-- GETSTATUS (R538): I3C returns device status. -/
  | getstatus
  /-- GETPID (R538): I3C returns the provisioned ID. -/
  | getpid
  /-- GETBCR (R538): I3C returns the bus characteristics register. -/
  | getbcr
  /-- GETDCR (R538): I3C returns the device characteristics register. -/
  | getdcr
  /-- WARM_RESET_REQUEST (R539): Sideband request 0x01 takes a device warm reset. -/
  | warmResetRequest
  /-- BOOT_IMAGE_B (R539): Sideband request 0x02 boots image B at the next cold reset. -/
  | bootImageB
  /-- BOOT_IMAGE_A (R539): Sideband request 0x03 boots image A at the next cold reset. -/
  | bootImageA
  /-- POWER_ON (R549): The auxiliary input becomes valid and the device takes a power-on cold reset and bring-up. -/
  | powerOn (uv : BitVec 24)
  /-- SYS_RST_N (R551): A filtered low pulse on SYS_RST_N takes a device cold reset. -/
  | sysRstN (ns : BitVec 32)
  /-- KEEPER_WATCHDOG (R549): No keeper kick for 2 s takes a device warm reset. -/
  | keeperWatchdog
  /-- DEVICE_COLD_RESET (R575): RST_CMD GO with scope 0 takes a device cold reset. -/
  | deviceColdReset
  /-- DEVICE_WARM_RESET (R575): RST_CMD GO with scope 1 takes a device warm reset. -/
  | deviceWarmReset
  /-- QUADRANT_RESET (R575): RST_CMD GO with scope 2 resets the named quadrants. -/
  | quadrantReset (mask : BitVec 4)
  /-- REMOTE_RESET (R553): A signed remote reset message is verified and acted on, or discarded. -/
  | remoteReset (msg : List Byte) (t : U64)
  /-- FLASH_OPERATION_DONE (R552): A flash program ends or erase suspends and any held reset takes effect. -/
  | flashOperationDone (ok : Bool)
  /-- BLOCK_RESET (R554): RST_BLOCK GO requests idle of a block before resetting it. -/
  | blockReset (block : BitVec 4) (index : BitVec 9) (timeout : BitVec 16)
  /-- BLOCK_IDLE (R554): The block reaches idle and is reset and released. -/
  | blockIdle
  /-- BLOCK_RESET_TIMEOUT (R554): Idle is not reached within TIMEOUT_US and the reset is forced. -/
  | blockResetTimeout
  /-- DOMAIN_START (R592): A power domain starts and initialises its SRAM. -/
  | domainStart (d : Fin 40)
  /-- HBM_TRAINED (R558): The HBM stacks finish training. -/
  | hbmTrained
  /-- LOAD_GO (R567): KPR_BOOT.LOAD_GO verifies and runs the host-loaded keeper image. -/
  | loadGo
  /-- NETWORK_BOOT_RETRY (R567): Every 10 s network recovery tries to read the image from storage. -/
  | networkBootRetry (port0 port1 : Option (List Byte))
  /-- FW_STAGE (R571): Verifies an image and writes it to the bank not booted. -/
  | fwStage (entry : Entry) (image : Option (List Byte))
  /-- FW_ACTIVATE (R571): Writes the boot record so the next reset boots the staged images. -/
  | fwActivate (entry : Entry)
  /-- LIVE_SUPERVISOR_UPDATE (R572): FW_ACTIVATE with LIVE loads the supervisor image into second banks and chooses kf. -/
  | liveSupervisorUpdate (kf : U64)
  /-- SUPERVISOR_BANK_CHANGE (R572): At L(kf) − 8 each supervisor changes to its new bank. -/
  | supervisorBankChange (q : Fin 4)
  /-- LIVE_KEEPER_UPDATE (R573): FW_ACTIVATE with LIVE requests an update window and restarts the keeper into the new image. -/
  | liveKeeperUpdate (t : U64)
  /-- UPDATE_WINDOW_REQUEST (R573): The master's keeper receives an update window request and grants it. -/
  | updateWindowRequest (id : BitVec 20) (t : U64)
  /-- FW_COMMIT (R570): Raises the anti-rollback count to the lower running SVN. -/
  | fwCommit (entry : Entry)
  /-- QUADRANT_SLEEP (R563): Setting a SLEEP bit puts a quadrant's domains in retention. -/
  | quadrantSleep (q : Fin 4)
  /-- QUADRANT_WAKE (R563): Clearing a SLEEP bit wakes a quadrant. -/
  | quadrantWake (q : Fin 4)
  /-- DEEP_IDLE_ENTER (R563): Setting DEEP powers off row-pairs, stacked SRAM, optics and ports. -/
  | deepIdleEnter
  /-- DEEP_IDLE_EXIT (R563): Clearing DEEP restarts the domains and re-crystallises. -/
  | deepIdleExit
  /-- GOVERNOR_SAMPLE (R594): Every 1 µs the governor samples input current, runs ballast and applies the backstop. -/
  | governorSample (demand : BitVec 24) (phases : List (BitVec 16))
  /-- CEILING_COMPARE (R598): Every 1 ms input power is compared with the ceiling and the power cap moved. -/
  | ceilingCompare (watts v : BitVec 16)
  /-- VIN_OUT_OF_RANGE (R589): VIN48 leaves 39 to 61 V and alert cause 3 is set. -/
  | vinOutOfRange  (v : BitVec 16)
  /-- VIN_SHUTDOWN (R589): VIN48 beyond 38 or 62 V for its time turns the stages off and cold-resets the device. -/
  | vinShutdown  (v : BitVec 16)
  /-- VAUX_LOSS (R679): Losing VAUX3V3 turns every power stage off. -/
  | vauxLoss
  /-- REFERENCE_LOSS (R681): The 100 MHz reference absent for 1 µs is handled by the timebase state. -/
  | referenceLoss  (t : U64)
  /-- DOMAIN_FAULT (R593): A power stage out of regulation turns its domain off with consequences by domain. -/
  | domainFault (d : Fin 40) (t : U64)
  /-- SENSOR_READING (R599): Every 100 µs each temperature sensor is read. -/
  | sensorReading (n : Fin 64) (temp : BitVec 16) (valid : Bool)
  /-- THERMAL_CAP_STEP (R601): A scope's thermal cap falls each 1 ms at the limit or rises each 10 ms below it. -/
  | thermalCapStep (k : Fin 21)
  /-- TRIP_LATCH_CLEAR (R603): After 10 s below 80 °C the trip latch clears and bring-up continues. -/
  | tripLatchClear
  /-- TEMP_PEAK_CLR (R610): PWR_TEMP.PEAK_CLR sets PEAK to TEMP. -/
  | tempPeakClr (n : Fin 64)
  /-- TELEMETRY_SAMPLE (R614): At each sample count, values are latched and written as telemetry records. -/
  | telemetrySample (t : U64) (volts : List (BitVec 16)) (optics : List (List (BitVec 16) × List (BitVec 16)))
  /-- TRACE_RECORD (R619): A trace record reaches a quadrant's trace memory and is written or dropped. -/
  | traceRecord (q : Fin 4) (w0 w1 w2 w3 : U64) (lost : Bool)
  /-- TRACE_WINDOW_END (R622): At T + POST_US each memory writes its closing gap marker and freezes. -/
  | traceWindowEnd (t : U64)
  /-- ECHO_FRAME (R625): The echo port sends a frame of one quadrant's records. -/
  | echoFrame (waited : BitVec 4)
  /-- ARM (R621): ECHO_CTRL.ARM clears TRIGGERED and FROZEN and starts capture. -/
  | arm
  /-- SW_TRIGGER (R621): ECHO_CTRL.SW_TRIGGER triggers the trace. -/
  | swTrigger (t : U64)
  /-- UNFREEZE (R634): ECHO_CTRL.UNFREEZE resumes capture without a trigger. -/
  | unfreeze
  /-- TEL_RING (R617): Creates the telemetry ring. -/
  | telRing (entry : Entry)
  /-- TRACE_READ (R625): Copies a frozen trace memory to host memory. -/
  | traceRead (entry : Entry)
  /-- DUMP (R627): Copies a named tensor after a step to host memory. -/
  | dump (f : Fin 5) (entry : Entry)
  /-- DUMP_COPY_DONE (R627): The pieces of a dumped tensor have been written to host memory. -/
  | dumpCopyDone
  /-- HANG_REPORT (R628): Makes the keeper assemble a wait-for graph report. -/
  | hangReport (entry : Entry) (t : U64)
  /-- HANG_QUERY (R628): A keeper receives a remote wait-for query and replies with its edges. -/
  | hangQuery (id : BitVec 20) (node : U64)
  /-- DEBUG_UNLOCK (R630): Checks a signed unlock block and raises the debug level. -/
  | debugUnlock (entry : Entry) (block : Option (List Byte))
  /-- DEBUG_LOCK (R630): Returns to debug level 0. -/
  | debugLock (entry : Entry)
  /-- SEC_DBG_NONCE_READ (R630): A read of SEC_DBG_NONCE returns a fresh nonce and makes it current. -/
  | secDbgNonceRead
  /-- PMC_SEL_WRITE (R613): A write of CORE_PMC_SEL selects an event and clears its counter. -/
  | pmcSelWrite (v : Fin 256) (n : Fin 16) (val : U64)
  /-- SB_PEAK_CLR (R127): SB_STATUS.PEAK_CLR sets PEAK to IN_USE. -/
  | sbPeakClr (v : Fin 256)
  /-- LATE_CLR (R39): CORE_EPOCH_STAT.LATE_CLR clears LATE_LAST and LATE_COUNT. -/
  | lateClr (v : Fin 256)
  /-- PLAN_LOAD (R641): Checks and maps an image role, relocates it and writes the device tables. -/
  | planLoad (f : Fin 5) (entry : Entry) (image : Option (List Byte)) (placement : List (BitVec 32)) (tag : BitVec 16)
  /-- PLAN_START (R648): Opens the start barrier and, at release, originates EPOCH0 and starts sequencers. -/
  | planStart (f : Fin 5) (entry : Entry) (t : U64)
  /-- START_BARRIER_TIMEOUT (R648): A start barrier incomplete after 10 s is abandoned with status 0x7E. -/
  | startBarrierTimeout (t : U64)
  /-- PLAN_UNLOAD (R649): Requests the quadrant's plan to stop at its next launch. -/
  | planUnload (f : Fin 5) (entry : Entry)
  /-- LINK_RTT_REPORT (R645): The master's loader reruns the link test on a new round-trip or slot time. -/
  | linkRttReport (id : BitVec 20) (port : Fin 12) (rtt : BitVec 16) (scale : Fin 64)
  /-- KPR_LOCK_SET (R662): A keeper write of KPR_LOCK.SET sets the setup lock. -/
  | kprLockSet
  /-- REGISTER_WRITE (R657): A write to a register with no row of its own takes effect by its access codes. -/
  | registerWrite (f : Fin 5) (off : BitVec 32) (val : U64) (len : Fin 9) (t : U64)
  /-- LANE_LOST (R387): A single lane of an active port loses signal, clock lock or framing, and the port starts a retrain. -/
  | laneLost (port : Fin 12) (t : U64)
  /-- PARENT_RETRAIN_TIMEOUT (R458): The parent's port has stayed in RETRAIN for more than 100 ms, so the parent is lost and the device
  advertises stratum 127. -/
  | parentRetrainTimeout (t : U64)
  /-- T0_REACHED (R558): The last of VIN48 in range for 1 ms, SYS_RST_N high and the reference present arrives, and the timebase and
  host-interface domains start. -/
  | t0Reached
  /-- PERST_RELEASE (R559): PERST# rises on a link, and the device answers configuration requests and trains that PCIe link. -/
  | perstRelease (link : Fin 4) (rate : Fin 7) (width : Fin 17) (flit : Bool)
  /-- MESH_SLOT_TURN (R345): A mesh slot of a router output comes round, and the head flit waiting for it, or for room downstream, is
  sent or the slot stays idle. -/
  | meshSlotTurn (p : Fin 288) (output : Fin 5) (cycle : U64)
  /-- SIDEBAND_TRANSFER (R539): A private I3C or I2C transfer writes an offset and reads or writes the sideband map, including clearing
  alert causes and setting alert enables. -/
  | sidebandTransfer (offset : Byte) (write : List Byte) (len : BitVec 16)
  /-- TCK_EDGE (R680): An edge of TCK advances the IEEE 1149.1 test access port, sampling TMS and TDI and driving TDO. -/
  | tckEdge (rising tms tdi : Bool)
  /-- TRST_N_LOW (R680): TRST_N held low for at least 100 ns resets the test access port. -/
  | trstNLow (ns : BitVec 32)
  /-- HOST_LOADED_IMAGE_WRITE (R567): A host write into the management function's 4 MiB host-loaded image window stores bytes of a
  keeper image for LOAD_GO. -/
  | hostLoadedImageWrite (n : Fin 524288) (val : U64)
  /-- LIVE_KEEPER_RESTART_DONE (R573): The keeper finishes its restart into the new image, writes KEEPER_BANK, resumes polls and
  sideband answers and applies cordons that fell due. -/
  | liveKeeperRestartDone
  /-- UPDATE_WINDOW_GRANT (R573): A device's keeper receives the partition master's grant of an update window and begins its live
  restart. -/
  | updateWindowGrant (granted : Bool)
  /-- HANG_QUERY_REPLY (R628): The keeper assembling a hang report receives a remote keeper's reply with its edges and continues the
  search. -/
  | hangQueryReply (id : BitVec 20) (reply : Option (List (U64 × U64 × U64 × U64)))
  /-- MIRROR_GAP_REPORT (R488): The primary's hub receives the partner's mirror-gap report, marks the affected mirrors lost and posts a
  notice. -/
  | mirrorGapReport (q : Fin 4) (slot : Fin 128)
  deriving DecidableEq, Repr

end Sys2Proof
end

