-- ==== Sys2Proof/Decode.lean ====
section
/-! DEFINITION. The command a word spells: a word of the table, and a word of a core's program memory (R56, R57, R79). -/
namespace Sys2Proof

/-- opcode_table.json gives no row any bits (every row's "fixed" and "fields" are empty: the rows are commands and events, not
words), so no word of the table spells a command (DESIGN CHOICE, log entry 14). The words of the sequencer's program memory have
bits by R56 and R57: `seqDecode` reads those. -/
def decodeTableWord (_nbits _w : Nat) : Option Instr := none

/-! ### The forms of R56 -/

/-- Bits [lo + n − 1 : lo] of an instruction word. -/
def insField (w : BitVec 32) (lo n : Nat) : Nat := w.toNat / 2 ^ lo % 2 ^ n
/-- A 5-bit register field. -/
def insS (w : BitVec 32) (lo : Nat) : Fin 32 := Fin.ofNat 32 (insField w lo 5)
/-- A 4-bit register field. -/
def insA (w : BitVec 32) (lo : Nat) : Fin 16 := Fin.ofNat 16 (insField w lo 4)
/-- A 2-bit register field. -/
def insC (w : BitVec 32) (lo : Nat) : Fin 4 := Fin.ofNat 4 (insField w lo 2)
/-- imm15, off15: the IM and BR forms. -/
def insImm15 (w : BitVec 32) : BitVec 15 := BitVec.ofNat 15 (insField w 17 15)
/-- imm16: the AD form. -/
def insImm16 (w : BitVec 32) : BitVec 16 := BitVec.ofNat 16 (insField w 16 16)
/-- imm20, off20: the UP, JP and LI forms. -/
def insImm20 (w : BitVec 32) : BitVec 20 := BitVec.ofNat 20 (insField w 12 20)
/-- The template index of TLD and SPUSH. -/
def insTpl (w : BitVec 32) : Fin 1024 := Fin.ofNat 1024 (insField w 9 10)

/-- A command whose reserved bits, those of the mask, are 0. -/
def insPlain (w : BitVec 32) (mask : Nat) (i : Instr) : Option Instr := if w.toNat &&& mask = 0 then some i else none

/-! ### The opcodes of R57 and R79 -/

/-- The T3 form's fn of opcode 0x01. -/
def decodeAlu (v : Fin 256) (w : BitVec 32) : Option Instr :=
  let f := fun (c : Fin 256 → Fin 32 → Fin 32 → Fin 32 → Instr) => some (c v (insS w 7) (insS w 12) (insS w 17))
  match insField w 22 10 with
  | 0 => f .add | 1 => f .sub | 2 => f .and | 3 => f .or | 4 => f .xor | 5 => f .sll | 6 => f .srl | 7 => f .sra | 8 => f .slt
  | 9 => f .sltu | 10 => f .min | 11 => f .max | 12 => f .mul | 13 => f .mulhu
  | _ => none

/-- Opcodes 0x02 to 0x17: immediates, memory, branches and jumps. -/
def decodeLow (v : Fin 256) (w : BitVec 32) : Option Instr :=
  let im := fun (c : Fin 256 → Fin 32 → Fin 32 → BitVec 15 → Instr) => some (c v (insS w 7) (insS w 12) (insImm15 w))
  match insField w 0 7 with
  | 0x02 => im .addi | 0x03 => im .andi | 0x04 => im .ori | 0x05 => im .xori
  | 0x06 => im .slli | 0x07 => im .srli | 0x08 => im .srai | 0x09 => im .slti
  | 0x0A => some (.lui v (insS w 7) (insImm20 w))
  | 0x0B => im .ld | 0x0C => im .st
  | 0x10 => im .beq | 0x11 => im .bne | 0x12 => im .blt | 0x13 => im .bge | 0x14 => im .bltu | 0x15 => im .bgeu
  | 0x16 => some (.jal v (insS w 7) (insImm20 w))
  | 0x17 => im .jalr
  | _ => none

/-- Opcodes 0x20 to 0x34: address registers and loops. In the AD form bits [10:9] are reserved where [8:7] names c or a level. -/
def decodeMid (v : Fin 256) (w : BitVec 32) : Option Instr :=
  let ad := fun (c : Fin 256 → Fin 16 → Fin 32 → BitVec 16 → Instr) => some (c v (insA w 7) (insS w 11) (insImm16 w))
  match insField w 0 7 with
  | 0x20 => ad .aset | 0x21 => ad .astr | 0x22 => ad .awrp | 0x23 => ad .aoff | 0x24 => ad .astep | 0x25 => ad .ainc | 0x26 => ad .ard
  | 0x30 => insPlain w 0xE00 (.lic v (insC w 7) (insImm20 w))
  | 0x31 => insPlain w 0x600 (.mvc v (insC w 7) (insS w 11) (insImm16 w))
  | 0x32 => insPlain w 0x600 (.rdc v (insC w 7) (insS w 11))
  | 0x33 => insPlain w 0xFF000E00 (.loop v (insC w 7) (BitVec.ofNat 12 (insField w 12 12)))
  | 0x34 => insPlain w 0x600 (.lidx v (insC w 7) (insS w 11))
  | _ => none

/-- Opcodes 0x40 to 0x55: staging buffers, queues, waits and frames. `t` is the drip view at issue. -/
def decodeHigh (v : Fin 256) (t : BitVec 64) (w : BitVec 32) : Option Instr :=
  match insField w 0 7 with
  | 0x40 => insPlain w 0xFFF80000 (.tld v (insC w 7) (insTpl w))
  | 0x41 => insPlain w 0x80000000 (.patch v (insC w 7) (Fin.ofNat 8 (insField w 9 3)) (BitVec.ofNat 6 (insField w 12 6))
      (BitVec.ofNat 6 (insField w 18 6)) (insS w 24) (w.toNat.testBit 29) (w.toNat.testBit 30))
  | 0x42 => insPlain w 0xFFFFF800 (.push v (insC w 7) (insC w 9))
  | 0x50 => if w.toNat.testBit 7 then some (.waitdripForm1 v (insS w 8) (BitVec.ofNat 19 (insField w 13 19))) else some (.waitdrip v)
  | 0x51 => insPlain w 0xFFFF8000 (.waitq v (insC w 9) (Fin.ofNat 16 (insField w 11 4)))
  | 0x52 => some (.waitev v (insA w 7) (insS w 11) (insImm16 w))
  | 0x53 => insPlain w 0xFFFFFF80 (.epochend v t)
  | 0x54 => some (.gete v (insS w 11) (insImm16 w))
  | 0x55 => some (.evrd v (insA w 7) (insS w 11) (insImm16 w))
  | _ => none

/-- Opcodes 0x60 to 0x6F, by R57 outside address-stream mode and by R79 in it, and 0x7E and 0x7F. -/
def decodeTop (v : Fin 256) (t : BitVec 64) (mode : Bool) (w : BitVec 32) : Option Instr :=
  match insField w 0 7, mode with
  | 0x60, false => insPlain w 0xFFFFFF80 (.ason v)
  | 0x61, false => some (.rddrip v (insS w 7) t)
  | 0x60, true => insPlain w 0xFFF80000 (.spush v (insTpl w) (insC w 7))
  | 0x61, true => some (.sdef v (insA w 7) (insS w 11) (insImm16 w))
  | 0x62, true => insPlain w 0xFF000E00 (.sloop v (insC w 7) (BitVec.ofNat 12 (insField w 12 12)))
  | 0x6F, true => insPlain w 0xFFFFFF80 (.asoff v)
  | 0x7E, _ => insPlain w 0xFFFFFF80 (.nop v)
  | 0x7F, _ => insPlain w 0xFFFFFF80 (.halt v)
  | _, _ => none

/-- The command an instruction word of core v spells at drip view t, in address-stream mode or outside it (R56, R57, R79); none for an
illegal encoding: an opcode or fn not listed, or a reserved bit that is not 0. A field that the form names and the instruction's line
does not use may hold any value (DEDUCED, log entry 112). -/
def seqDecode (v : Fin 256) (t : BitVec 64) (mode : Bool) (w : BitVec 32) : Option Instr :=
  if insField w 0 7 = 1 then decodeAlu v w
  else (decodeLow v w).or ((decodeMid v w).or ((decodeHigh v t w).or (decodeTop v t mode w)))

end Sys2Proof
end

