-- ==== Sys2Proof/Config.lean ====
section
/-! DEFINITION. What the spec leaves open as a value or to the part: constants with no body. Nothing in Lean can evaluate one of
them or prove a value of it, so a statement about a free value holds for every value. The counter `State.free`
is read and advanced by the step that needs a fresh one. -/
namespace Sys2Proof.Config

/-- A fresh 64-bit value the spec does not fix, applied to the free-value counter (DESIGN CHOICE, log entry 12). -/
opaque freeWord : Nat → U64

/-- The fused key hashes, by key index 0 to 3 (R566) (DESIGN CHOICE, log entry 37). -/
opaque fusedKeyHash : Nat → BitVec 384
/-- Is a key's revocation fuse blown (R566). -/
opaque keyRevoked : Nat → Bool
/-- The I3C provisioned ID formed from the factory identity (R538). -/
opaque provisionedId : U64 → BitVec 48
/-- The bus and device characteristics registers the sideband answers with (R538). -/
opaque i3cBcr : Byte
/-- The device characteristics register. -/
opaque i3cDcr : Byte
/-- What the test access port captures in Capture-IR and, by instruction, in Capture-DR (R680, IEEE 1149.1): the lengths and
the boundary register are not the spec's. -/
opaque tapIrCapture : List Bool
/-- What Capture-DR captures under an instruction, for the free-value counter. -/
opaque tapDrCapture : List Bool → Nat → List Bool
/-- Is an instruction one of boundary scan, available at every debug level (R630). -/
opaque tapBoundary : List Bool → Bool

/-- The 64-byte header of a dumped piece (R627), whose layout the spec does not give: symbol, step, global ID, virtual core, format,
length (DESIGN CHOICE, log entry 59). -/
opaque dumpHeader : Nat → Nat → Nat → Nat → Nat → Nat → BitVec 512

/-- Which of the two lanes of a bridge elastic traffic from one quadrant to another takes, whose choice the spec does not give (R337, R345,
R350) (DESIGN CHOICE, log entry 133). -/
opaque elasticLane : Nat → Nat → Bool

/-- The port by which a quadrant's mirror flow to a partner device and quadrant leaves: a planned flow between serving hubs that the plan
image does not name (R484, R488; log entry 73). -/
opaque mirrorPort : Nat → Nat → Nat → Nat

end Sys2Proof.Config
end

