-- ==== Sys2Proof/Machine/Bits.lean ====
section
/-! DEFINITION. Bit fields, sign extension, byte order and the saturating counters every register chapter uses
(R7, R12, R18). -/
namespace Sys2Proof.Machine

/-- Field [hi:lo] of a natural number (R7). -/
def natBits (n hi lo : Nat) : Nat := (n >>> lo) % 2 ^ (hi + 1 - lo)

/-- Field [hi:lo] of a 64-bit word (R7). -/
def bitsOf (w : U64) (hi lo : Nat) : Nat := natBits w.toNat hi lo

/-- Bit i of a 64-bit word. -/
def bitAt (w : U64) (i : Nat) : Bool := w.toNat.testBit i

/-- The word with field [hi:lo] replaced by the low bits of `v`. -/
def putBits (w : U64) (hi lo v : Nat) : U64 :=
  let m := (2 ^ (hi + 1 - lo) - 1) <<< lo
  (w &&& ~~~ (BitVec.ofNat 64 m)) ||| (BitVec.ofNat 64 ((v % 2 ^ (hi + 1 - lo)) <<< lo))

/-- The word with bit i set to `b`. -/
def putBit (w : U64) (i : Nat) (b : Bool) : U64 := putBits w i i (if b then 1 else 0)

/-- The low `n` bits of `v` read as two's complement. -/
def sext (n v : Nat) : Int :=
  let u := v % 2 ^ n
  if u < 2 ^ (n - 1) then (u : Int) else (u : Int) - (2 ^ n : Nat)

/-- An integer as a 64-bit two's-complement word. -/
def wordOfInt (i : Int) : U64 := BitVec.ofInt 64 i

/-- A 64-bit word read as two's complement. -/
def intOfWord (w : U64) : Int := w.toInt

/-- The `n` little-endian bytes of `v` (R18). -/
def leBytes : Nat → Nat → List Byte
  | 0, _ => []
  | n + 1, v => BitVec.ofNat 8 v :: leBytes n (v / 256)

/-- A little-endian byte string as a number (R18). -/
def ofLe : List Byte → Nat
  | [] => 0
  | b :: bs => b.toNat + 256 * ofLe bs

/-- `a + b`, held at `top` (a saturating count) (DESIGN CHOICE, log entry 98). -/
def satAdd (top a b : Nat) : Nat := min top (a + b)

/-- The smallest integer not below a / b (0 for b = 0). -/
def ceilDiv (a b : Nat) : Nat := (a + b - 1) / b

/-- The position of the highest set bit, ⌊log2 n⌋ (0 for n = 0). -/
def floorLog2 (n : Nat) : Nat := Nat.log2 n

/-- Consecutive chunks of `n` elements, by fuel: the list's own length. -/
def chunksAux {α : Type} (n : Nat) : Nat → List α → List (List α)
  | 0, _ => []
  | _ + 1, [] => []
  | f + 1, l => l.take n :: chunksAux n f (l.drop n)

/-- The list cut into chunks of `n` elements, the last one possibly shorter. -/
def chunks {α : Type} (n : Nat) (l : List α) : List (List α) := chunksAux n l.length l

/-- The numbers a, a + 1, ..., a + n - 1. -/
def rangeFrom : Nat → Nat → List Nat
  | _, 0 => []
  | a, n + 1 => a :: rangeFrom (a + 1) n

/-- The k-th element, or a default. -/
def nthD {α : Type} (l : List α) (k : Nat) (d : α) : α := l.getD k d

/-- The list with its k-th element replaced; unchanged when there is none. -/
def setNth {α : Type} : List α → Nat → α → List α
  | [], _, _ => []
  | _ :: xs, 0, y => y :: xs
  | x :: xs, k + 1, y => x :: setNth xs k y

/-- Does some element of the list satisfy the test. -/
def anyL {α : Type} (l : List α) (f : α → Bool) : Bool := l.any f

/-- The largest element of a list of naturals, 0 for none. -/
def maxL (l : List Nat) : Nat := l.foldl max 0

end Sys2Proof.Machine
end

