-- ==== Sys2Proof/Machine/Maps.lean ====
section
/-! DEFINITION. Sparse data by key. `Map` holds (key, value) pairs with strictly rising keys; `Mem` is byte memory
in one canonical form: strictly rising addresses and no listed byte equal to what an unlisted byte reads as, which
is zero (R213, R215: the initialiser's zeros; the HBM stack's zeros are a DESIGN CHOICE, log entry 3). -/
namespace Sys2Proof.Machine

/-- A sparse map from natural keys: pairs in rising order of key. -/
abbrev Map (α : Type) := List (Nat × α)

/-- The value at a key, or the default. -/
def Map.get {α : Type} : Map α → Nat → α → α
  | [], _, d => d
  | (j, v) :: m, k, d => if j = k then v else if k < j then d else Map.get m k d

/-- The value at a key, if listed. -/
def Map.find {α : Type} : Map α → Nat → Option α
  | [], _ => none
  | (j, v) :: m, k => if j = k then some v else if k < j then none else Map.find m k

/-- The map with the value at one key replaced or added. -/
def Map.set {α : Type} : Map α → Nat → α → Map α
  | [], k, x => [(k, x)]
  | (j, v) :: m, k, x =>
    if j = k then (k, x) :: m else if k < j then (k, x) :: (j, v) :: m else (j, v) :: Map.set m k x

/-- The map without a key. -/
def Map.del {α : Type} : Map α → Nat → Map α
  | [], _ => []
  | (j, v) :: m, k => if j = k then m else if k < j then (j, v) :: m else (j, v) :: Map.del m k

/-- The map with one value changed by a function (from the default when unlisted). -/
def Map.upd {α : Type} (m : Map α) (k : Nat) (d : α) (f : α → α) : Map α := m.set k (f (m.get k d))

/-- Strictly rising keys, all above the bound. -/
def Map.risingFrom {α : Type} : Option Nat → Map α → Bool
  | _, [] => true
  | none, (j, _) :: m => Map.risingFrom (some j) m
  | some b, (j, _) :: m => decide (b < j) && Map.risingFrom (some j) m

/-- The form every map of the state keeps. -/
def Map.wf {α : Type} (m : Map α) : Bool := Map.risingFrom none m

/-- Byte memory: the listed bytes, at rising addresses. -/
abbrev Mem := List Host.Cell

/-- What an unlisted byte reads as (DESIGN CHOICE, log entry 3). -/
def Mem.blank : Byte := 0

/-- One byte of memory. -/
def Mem.read (m : Mem) (a : Nat) : Byte := Map.get (α := Byte) m a Mem.blank

/-- One byte written, in canonical form: writing the blank value removes the entry. -/
def Mem.write (m : Mem) (a : Nat) (b : Byte) : Mem :=
  if b = Mem.blank then Map.del (α := Byte) m a else Map.set (α := Byte) m a b

/-- `n` bytes from an address upward. -/
def Mem.readN (m : Mem) : Nat → Nat → List Byte
  | _, 0 => []
  | a, n + 1 => m.read a :: Mem.readN m (a + 1) n

/-- A byte string written from an address upward. -/
def Mem.writeN : Mem → Nat → List Byte → Mem
  | m, _, [] => m
  | m, a, b :: bs => Mem.writeN (m.write a b) (a + 1) bs

/-- No listed byte equals the blank value. -/
def Mem.noBlank : Mem → Bool
  | [] => true
  | (_, b) :: m => decide (b ≠ Mem.blank) && Mem.noBlank m

/-- The canonical form of memory. -/
def Mem.wf (m : Mem) : Bool := Map.wf (α := Byte) m && Mem.noBlank m

end Sys2Proof.Machine
end

