-- ==== Sys2Proof/Machine/RegNames.lean ====
section
/-! DEFINITION. The names of the registers (R12, R662 to R664): one constructor per register of the register index. -/
namespace Sys2Proof.Machine

/-- Every register of the KN72, by the spec's own name. -/
inductive Reg where
  | HIF_CTRL
  | HIF_STAT
  | HIF_DB_ADDR
  | HIF_SQ_BASE
  | HIF_CQ_BASE
  | HIF_RING_SIZE
  | HIF_LINK_STAT
  | HIF_RING
  | QD_VARIANT
  | QD_EPOCH_INDEX
  | QD_LAUNCH_NEXT
  | QD_SWITCH_COUNT
  | CORE_EPOCH_STAT
  | CORE_LATE_EPOCH
  | CORE_STRETCH_COUNT
  | SEQ_CTRL
  | SEQ_STATUS
  | SEQ_ENTRY
  | SEQ_FAULT_PC
  | SEQ_AS_BASE
  | SEQ_NEXT_EPOCH
  | SEQ_NEXT_LAUNCH
  | SEQ_NEXT_SEL
  | SEQ_STALL_COUNT
  | SB_STATUS
  | SB_WAIT_CYCLES
  | CORE_QUEUE_CTRL
  | CORE_FAULT_STAT
  | CORE_QUEUE_STAT
  | CORE_FAULT_RECORD
  | CORE_MX_STAT
  | CORE_MX_ANCHOR
  | CORE_VX_STAT
  | QD_HBM_RD_WIN
  | QD_HBM_WR_WIN
  | QD_HBM_STAT
  | QD_HBM_ERR
  | QD_HBM_SLOT
  | CORE_PORT_SHARE
  | CORE_MEM_STAT
  | CORE_MEM_ERR_ADDR
  | CORE_REGION
  | ING_CTRL
  | ING_RECHECK
  | ING_STAT
  | ING_STAGE
  | ING_SLOT_RANGE
  | ING_TARGET_ADDR
  | ING_TARGET_CFG
  | ING_PORT_MAC
  | ING_PORT_IP
  | ING_PORT_VLAN
  | ING_PORT_STAT
  | HUB_ADAPTER_SLOT
  | HUB_ADAPTER_ID
  | HUB_PREFIX_SLOT
  | HUB_PREFIX_ID
  | ADM_CTRL
  | ADM_WMARK
  | ADM_STAT
  | ADM_HEAD
  | ADM_RETURN
  | ADM_STATUS_ADDR
  | BUD_RANGE
  | HUB_STAT
  | HUB_SEQ_STAT
  | HUB_SEQ_POS
  | HUB_SEQ_STEP
  | HUB_SEQ_FRAME
  | BUD_CFG
  | BUD_BAL
  | BUD_CAP
  | HUB_COMMIT_STAT
  | SMP_STAT
  | SMP_SEQ_STAT
  | SMP_SEQ_EVICT
  | MSH_CTRL
  | MSH_SWAP_AT
  | MSH_ROUTER_STAT
  | MSH_FLOW
  | MSH_SLOT
  | LNK_CTRL
  | LNK_STATE
  | LNK_RTT
  | LNK_ERR_CFG
  | LNK_SWAP_AT
  | LNK_PEER
  | LNK_PEER_FACTORY
  | LNK_COUNT
  | LNK_TX_SLOT
  | LNK_RX_SLOT
  | KPR_FABRIC_ID
  | KPR_TORUS
  | KPR_FDOM
  | KPR_SETUP_TAG
  | LNK_FAB_COUNT
  | LNK_PKEY
  | LNK_TX_TAG
  | LNK_DEST
  | LNK_RX_FLOW
  | QD_ELA_CFG
  | QD_ELA_COUNT
  | QD_ELA_WIN
  | TB_COUNT
  | TB_CFG
  | TB_STAT
  | TB_GM
  | TB_OFFSET
  | TB_SNAP_CFG
  | TB_SNAP_CTRL
  | TB_SNAP_STAT
  | TB_SNAP_FIRE
  | TB_EPOCH0
  | TB_HOLD_AT
  | CLK_MON_CFG
  | TB_PORT_CAL
  | TB_PORT_TIME
  | CLK_CORE_CTRL
  | CLK_CORE_STAT
  | KPR_CORDON_CMD
  | KPR_CORDON_STAT
  | KPR_REH_CTRL
  | KPR_QUAD_STAT
  | KPR_SPARE_ROW
  | KPR_REH_ENTRY
  | KPR_REH_AT
  | QD_RECOVERY
  | QD_RESTART_AT
  | QD_MIRROR
  | HUB_SEQ_MIRROR
  | KPR_IDENT
  | KPR_FACTORY_ID
  | KPR_BOOT
  | KPR_FW_STAT
  | KPR_FW_VER
  | RST_CAUSE
  | RST_CMD
  | RST_BLOCK
  | PWR_LP_CTRL
  | PWR_LP_STAT
  | PWR_GOV_CFG
  | PWR_GOV_STAT
  | PWR_CEIL
  | PWR_IN_STAT
  | PWR_THERM_CFG
  | PWR_THERM_STAT
  | PWR_PHASE_I
  | PWR_DOMAIN_STAT
  | PWR_TEMP
  | TEL_CFG
  | TEL_STAT
  | ECHO_CTRL
  | ECHO_TRIG
  | ECHO_STAT
  | ECHO_TRIG_AT
  | SEC_DBG_NONCE
  | SEC_DBG_STAT
  | ECHO_DROP
  | CORE_PMC_SEL
  | CORE_PMC
  | KPR_LOCK
  deriving DecidableEq, Repr

/-- Where a register lies (R654, R655): in each function page, in each quadrant region, or in the device region. -/
inductive Space where
  | page
  | quad
  | dev
  deriving DecidableEq, Repr

/-- One row of the register index (R663, R664): the space, the offset in it, the count there (each quadrant's for a
quadrant register), the instances per virtual core (0 when not indexed by virtual core), the reset value, and the
bits of access RW, RWL and W1C (R13). Bits outside the three masks are RO, WO, RC or reserved. -/
structure RegInfo where
  space   : Space
  offset  : Nat
  count   : Nat
  perCore : Nat
  reset   : Nat
  rw      : Nat
  rwl     : Nat
  w1c     : Nat
  deriving DecidableEq, Repr

end Sys2Proof.Machine
end

