-- ==== Sys2Proof/Machine/Registers.lean ====
section
/-! DEFINITION. The register index (R661 to R664) with the access masks of each register's own chapter (R13), and the
reading of an unwritten register: its reset value. Where the index gives Factory, Install, Flash, CFG_SENSE or Fuses,
the reset value here is what the model's part holds (DESIGN CHOICE, log entry 4): factory identity 1, no global ID, axis
sizes 1, OUT column 8 in every row, an open CFG_SENSE pin (code 15), SVN_FUSE 0. -/
namespace Sys2Proof.Machine

/-- The register index (DESIGN CHOICE, log entry 4). -/
def Reg.info : Reg → RegInfo
  | .HIF_CTRL => ⟨.page, 0, 1, 0, 0, 0xFF, 0, 0⟩
  | .HIF_STAT => ⟨.page, 0x8, 1, 0, 0, 0, 0, 0xC⟩
  | .HIF_DB_ADDR => ⟨.page, 0x10, 1, 0, 0, 0xFFFFFFFFFFFFF000, 0, 0⟩
  | .HIF_SQ_BASE => ⟨.page, 0x18, 1, 0, 0, 0xFFFFFFFFFFFFF000, 0, 0⟩
  | .HIF_CQ_BASE => ⟨.page, 0x20, 1, 0, 0, 0xFFFFFFFFFFFFF000, 0, 0⟩
  | .HIF_RING_SIZE => ⟨.page, 0x28, 1, 0, 0, 0x1FFFF0001FFFF, 0, 0⟩
  | .HIF_LINK_STAT => ⟨.dev, 0x160000, 4, 0, 0, 0, 0, 0⟩
  | .HIF_RING => ⟨.page, 0x800, 256, 0, 0, 0, 0, 0⟩
  | .QD_VARIANT => ⟨.quad, 0, 1, 0, 0, 0, 0, 0x200⟩
  | .QD_EPOCH_INDEX => ⟨.quad, 0x8, 1, 0, 0, 0, 0, 0⟩
  | .QD_LAUNCH_NEXT => ⟨.quad, 0x10, 1, 0, 0, 0, 0, 0⟩
  | .QD_SWITCH_COUNT => ⟨.quad, 0x18, 1, 0, 0, 0, 0, 0⟩
  | .CORE_EPOCH_STAT => ⟨.quad, 0x10000, 64, 1, 0, 0, 0, 0x7000000000000⟩
  | .CORE_LATE_EPOCH => ⟨.quad, 0x10200, 64, 1, 0, 0, 0, 0⟩
  | .CORE_STRETCH_COUNT => ⟨.quad, 0x10400, 64, 1, 0, 0, 0, 0⟩
  | .SEQ_CTRL => ⟨.quad, 0x10600, 64, 1, 0x400, 0xFF07, 0, 0⟩
  | .SEQ_STATUS => ⟨.quad, 0x10800, 64, 1, 0, 0, 0, 0x10080⟩
  | .SEQ_ENTRY => ⟨.quad, 0x10A00, 64, 1, 0, 0x7FFF, 0, 0⟩
  | .SEQ_FAULT_PC => ⟨.quad, 0x10C00, 64, 1, 0, 0, 0, 0⟩
  | .SEQ_AS_BASE => ⟨.quad, 0x10E00, 64, 1, 0, 0xFFFFFFFFFFFF, 0, 0⟩
  | .SEQ_NEXT_EPOCH => ⟨.quad, 0x11000, 64, 1, 0, 0, 0, 0⟩
  | .SEQ_NEXT_LAUNCH => ⟨.quad, 0x11200, 64, 1, 0, 0, 0, 0⟩
  | .SEQ_NEXT_SEL => ⟨.quad, 0x11400, 64, 1, 0, 0, 0, 0⟩
  | .SEQ_STALL_COUNT => ⟨.quad, 0x11600, 64, 1, 0, 0, 0, 0⟩
  | .SB_STATUS => ⟨.quad, 0x11800, 64, 1, 0, 0, 0, 0⟩
  | .SB_WAIT_CYCLES => ⟨.quad, 0x11A00, 64, 1, 0, 0, 0, 0⟩
  | .CORE_QUEUE_CTRL => ⟨.quad, 0x11C00, 64, 1, 0, 0, 0, 0⟩
  | .CORE_FAULT_STAT => ⟨.quad, 0x11E00, 64, 1, 0, 0, 0, 0x1000000000000⟩
  | .CORE_QUEUE_STAT => ⟨.quad, 0x14000, 256, 4, 0, 0, 0, 0⟩
  | .CORE_FAULT_RECORD => ⟨.quad, 0x15000, 512, 8, 0, 0, 0, 0⟩
  | .CORE_MX_STAT => ⟨.quad, 0x12000, 64, 1, 0, 0, 0, 0x3F⟩
  | .CORE_MX_ANCHOR => ⟨.quad, 0x16000, 256, 4, 0, 0, 0, 0⟩
  | .CORE_VX_STAT => ⟨.quad, 0x12200, 64, 1, 0, 0, 0, 0x7F⟩
  | .QD_HBM_RD_WIN => ⟨.quad, 0x40, 1, 0, 0, 0xFFFFFFFF, 0, 0⟩
  | .QD_HBM_WR_WIN => ⟨.quad, 0x48, 1, 0, 0, 0xFFFFFFFF, 0, 0⟩
  | .QD_HBM_STAT => ⟨.quad, 0x50, 1, 0, 0, 0, 0, 0x1000000000000⟩
  | .QD_HBM_ERR => ⟨.quad, 0x58, 1, 0, 0, 0, 0, 0⟩
  | .QD_HBM_SLOT => ⟨.quad, 0x1000, 512, 0, 0, 0xFFFFFFFFFFFFFFFF, 0, 0⟩
  | .CORE_PORT_SHARE => ⟨.quad, 0x12400, 64, 1, 0x82118114210888, 0xFFFFFFFFFFFFFFF, 0, 0⟩
  | .CORE_MEM_STAT => ⟨.quad, 0x12600, 64, 1, 0, 0, 0, 0x1F000000000000⟩
  | .CORE_MEM_ERR_ADDR => ⟨.quad, 0x12800, 64, 1, 0, 0, 0, 0⟩
  | .CORE_REGION => ⟨.quad, 0x18000, 1024, 16, 0, 0xFFF7FFFFFFF, 0, 0⟩
  | .ING_CTRL => ⟨.quad, 0x180, 1, 0, 0x2, 0xF, 0, 0⟩
  | .ING_RECHECK => ⟨.quad, 0x188, 1, 0, 0xA0000EA60, 0xFFFFFFFFFF, 0, 0⟩
  | .ING_STAT => ⟨.quad, 0x190, 1, 0, 0, 0, 0, 0x4⟩
  | .ING_STAGE => ⟨.quad, 0x198, 1, 0, 0, 0xFFFFFFFF, 0, 0⟩
  | .ING_SLOT_RANGE => ⟨.quad, 0x1A0, 1, 0, 0, 0, 0x3FFFFFFFFFFF, 0⟩
  | .ING_TARGET_ADDR => ⟨.dev, 0x150000, 32, 0, 0, 0xFFFFFFFFFFFFFFFF, 0, 0⟩
  | .ING_TARGET_CFG => ⟨.dev, 0x150100, 16, 0, 0, 0xFFFFFFF, 0, 0⟩
  | .ING_PORT_MAC => ⟨.dev, 0x150180, 2, 0, 0, 0, 0xFFFFFFFFFFFF, 0⟩
  | .ING_PORT_IP => ⟨.dev, 0x150190, 4, 0, 0, 0xFFFFFFFFFFFFFFFF, 0, 0⟩
  | .ING_PORT_VLAN => ⟨.dev, 0x1501B0, 2, 0, 0, 0xFFFF, 0, 0⟩
  | .ING_PORT_STAT => ⟨.dev, 0x1501C0, 2, 0, 0, 0, 0, 0⟩
  | .HUB_ADAPTER_SLOT => ⟨.dev, 0x300000, 4096, 0, 0, 0, 0, 0⟩
  | .HUB_ADAPTER_ID => ⟨.dev, 0x308000, 4096, 0, 0, 0, 0, 0⟩
  | .HUB_PREFIX_SLOT => ⟨.dev, 0x310000, 1024, 0, 0, 0, 0, 0⟩
  | .HUB_PREFIX_ID => ⟨.dev, 0x312000, 1024, 0, 0, 0, 0, 0⟩
  | .ADM_CTRL => ⟨.quad, 0x100, 1, 0, 0, 0x1, 0, 0⟩
  | .ADM_WMARK => ⟨.quad, 0x108, 1, 0, 0x3000380, 0x7FF07FF, 0, 0⟩
  | .ADM_STAT => ⟨.quad, 0x110, 1, 0, 0, 0, 0, 0x1000⟩
  | .ADM_HEAD => ⟨.quad, 0x118, 1, 0, 0, 0, 0, 0⟩
  | .ADM_RETURN => ⟨.quad, 0x120, 1, 0, 0, 0, 0, 0⟩
  | .ADM_STATUS_ADDR => ⟨.quad, 0x128, 1, 0, 0, 0, 0xFFFFFFFFFFFFFFF8, 0⟩
  | .BUD_RANGE => ⟨.quad, 0x130, 1, 0, 0, 0, 0x7FFFFFF, 0⟩
  | .HUB_STAT => ⟨.quad, 0x140, 1, 0, 0, 0, 0, 0⟩
  | .HUB_SEQ_STAT => ⟨.quad, 0x4000, 128, 0, 0, 0, 0, 0⟩
  | .HUB_SEQ_POS => ⟨.quad, 0x4400, 128, 0, 0, 0, 0, 0⟩
  | .HUB_SEQ_STEP => ⟨.quad, 0x4800, 128, 0, 0, 0, 0, 0⟩
  | .HUB_SEQ_FRAME => ⟨.quad, 0x4C00, 128, 0, 0, 0, 0, 0⟩
  | .BUD_CFG => ⟨.dev, 0x200000, 8192, 0, 0, 0xFFFFFFFFFFFFFFFF, 0, 0⟩
  | .BUD_BAL => ⟨.dev, 0x210000, 8192, 0, 0, 0xFFFFFFFFFF, 0, 0⟩
  | .BUD_CAP => ⟨.dev, 0x220000, 8192, 0, 0, 0xFFFFFFFFFF, 0, 0⟩
  | .HUB_COMMIT_STAT => ⟨.quad, 0x148, 1, 0, 0, 0, 0, 0x1000000000000⟩
  | .SMP_STAT => ⟨.quad, 0x150, 1, 0, 0, 0, 0, 0x700000000⟩
  | .SMP_SEQ_STAT => ⟨.quad, 0x5400, 128, 0, 0, 0, 0, 0⟩
  | .SMP_SEQ_EVICT => ⟨.quad, 0x5800, 128, 0, 0, 0, 0, 0⟩
  | .MSH_CTRL => ⟨.quad, 0x80, 1, 0, 0, 0, 0, 0x4⟩
  | .MSH_SWAP_AT => ⟨.quad, 0x88, 1, 0, 0, 0xFFFFFFFFFFFFFFFF, 0, 0⟩
  | .MSH_ROUTER_STAT => ⟨.quad, 0x6000, 72, 0, 0, 0, 0, 0⟩
  | .MSH_FLOW => ⟨.quad, 0x20000, 65536, 1024, 0, 0xFFFFFFFFFF1FFF, 0, 0⟩
  | .MSH_SLOT => ⟨.quad, 0x100000, 184320, 0, 0, 0xFFDFFFDFFFDFFFDF, 0, 0⟩
  | .LNK_CTRL => ⟨.dev, 0x400000, 12, 0, 0x10, 0x1F, 0, 0⟩
  | .LNK_STATE => ⟨.dev, 0x400080, 12, 0, 0, 0, 0, 0x60000⟩
  | .LNK_RTT => ⟨.dev, 0x400100, 12, 0, 0, 0, 0, 0⟩
  | .LNK_ERR_CFG => ⟨.dev, 0x400180, 12, 0, 0x3E800000024, 0xFFFF0000003F, 0, 0⟩
  | .LNK_SWAP_AT => ⟨.dev, 0x400200, 12, 0, 0, 0xFFFFFFFFFFFFFFFF, 0, 0⟩
  | .LNK_PEER => ⟨.dev, 0x400280, 12, 0, 0, 0, 0, 0⟩
  | .LNK_PEER_FACTORY => ⟨.dev, 0x400300, 12, 0, 0, 0, 0, 0⟩
  | .LNK_COUNT => ⟨.dev, 0x401000, 192, 0, 0, 0, 0, 0⟩
  | .LNK_TX_SLOT => ⟨.dev, 0x600000, 49152, 0, 0, 0xFFFF0003FFFF0003, 0, 0⟩
  | .LNK_RX_SLOT => ⟨.dev, 0x700000, 49152, 0, 0, 0xFFFF0003FFFF0003, 0, 0⟩
  | .KPR_FABRIC_ID => ⟨.dev, 0x100040, 1, 0, 0, 0, 0x1FFFFFFFFF, 0⟩
  | .KPR_TORUS => ⟨.dev, 0x100048, 1, 0, 0x1041, 0, 0x7FFFF, 0⟩
  | .KPR_FDOM => ⟨.dev, 0x100050, 1, 0, 0, 0, 0xFFFF, 0⟩
  | .KPR_SETUP_TAG => ⟨.dev, 0x100058, 1, 0, 0, 0xFFFFFFFFFFFFFFFF, 0, 0⟩
  | .LNK_FAB_COUNT => ⟨.dev, 0x402000, 96, 0, 0, 0, 0, 0⟩
  | .LNK_PKEY => ⟨.dev, 0x403000, 768, 0, 0, 0x1FFFF, 0, 0⟩
  | .LNK_TX_TAG => ⟨.dev, 0x500000, 12288, 0, 0, 0x7FFFFF, 0, 0⟩
  | .LNK_DEST => ⟨.dev, 0x800000, 32768, 0, 0xFFFFF000FFFFF, 0xFFFFF000FFFFF, 0, 0⟩
  | .LNK_RX_FLOW => ⟨.dev, 0x1000000, 786432, 0, 0, 0x7FFFFFF, 0, 0⟩
  | .QD_ELA_CFG => ⟨.quad, 0x60, 1, 0, 0x503006403E8, 0xFFFFFFFFFFF, 0, 0⟩
  | .QD_ELA_COUNT => ⟨.quad, 0x400, 8, 0, 0, 0, 0, 0⟩
  | .QD_ELA_WIN => ⟨.quad, 0x2000, 1024, 0, 0, 0x7FFFFFFFFFFFFFFF, 0, 0⟩
  | .TB_COUNT => ⟨.dev, 0x120000, 1, 0, 0, 0, 0, 0⟩
  | .TB_CFG => ⟨.dev, 0x120008, 1, 0, 0x29FFFFE, 0x1FFFFE00, 0x1FF, 0⟩
  | .TB_STAT => ⟨.dev, 0x120010, 1, 0, 0xFFFF00007FF0, 0, 0, 0x18000⟩
  | .TB_GM => ⟨.dev, 0x120018, 1, 0, 0, 0, 0, 0⟩
  | .TB_OFFSET => ⟨.dev, 0x120020, 1, 0, 0, 0, 0, 0⟩
  | .TB_SNAP_CFG => ⟨.dev, 0x120028, 1, 0, 0x1000F000, 0x1FFFFFFFF, 0, 0⟩
  | .TB_SNAP_CTRL => ⟨.dev, 0x120030, 1, 0, 0, 0, 0, 0⟩
  | .TB_SNAP_STAT => ⟨.dev, 0x120038, 1, 0, 0, 0, 0, 0x200⟩
  | .TB_SNAP_FIRE => ⟨.dev, 0x120040, 1, 0, 0, 0, 0, 0⟩
  | .TB_EPOCH0 => ⟨.dev, 0x120048, 1, 0, 0, 0, 0, 0⟩
  | .TB_HOLD_AT => ⟨.dev, 0x120050, 1, 0, 0, 0, 0, 0⟩
  | .CLK_MON_CFG => ⟨.dev, 0x120058, 1, 0, 0x506, 0, 0x7FF, 0⟩
  | .TB_PORT_CAL => ⟨.dev, 0x120100, 12, 0, 0, 0, 0, 0⟩
  | .TB_PORT_TIME => ⟨.dev, 0x120200, 12, 0, 0x7F00000000, 0, 0, 0⟩
  | .CLK_CORE_CTRL => ⟨.quad, 0x12A00, 64, 1, 0xA20, 0xFFF, 0, 0⟩
  | .CLK_CORE_STAT => ⟨.quad, 0x12C00, 64, 1, 0xA20, 0, 0, 0xE000⟩
  | .KPR_CORDON_CMD => ⟨.dev, 0x100080, 1, 0, 0, 0, 0, 0⟩
  | .KPR_CORDON_STAT => ⟨.dev, 0x100088, 1, 0, 0, 0, 0, 0x40000⟩
  | .KPR_REH_CTRL => ⟨.dev, 0x100090, 1, 0, 0, 0x1, 0, 0⟩
  | .KPR_QUAD_STAT => ⟨.dev, 0x100100, 4, 0, 0, 0, 0, 0⟩
  | .KPR_SPARE_ROW => ⟨.dev, 0x100200, 32, 0, 0x100, 0, 0, 0⟩
  | .KPR_REH_ENTRY => ⟨.dev, 0x100400, 64, 0, 0, 0xFFFFFFFFFFFF7FCF, 0, 0⟩
  | .KPR_REH_AT => ⟨.dev, 0x100600, 64, 0, 0, 0xFFFFFFFFFFFFFFFF, 0, 0⟩
  | .QD_RECOVERY => ⟨.quad, 0x20, 1, 0, 0, 0, 0, 0⟩
  | .QD_RESTART_AT => ⟨.quad, 0x28, 1, 0, 0, 0, 0, 0⟩
  | .QD_MIRROR => ⟨.quad, 0x30, 1, 0, 0, 0, 0, 0⟩
  | .HUB_SEQ_MIRROR => ⟨.quad, 0x5000, 128, 0, 0, 0, 0, 0⟩
  | .KPR_IDENT => ⟨.dev, 0x100000, 1, 0, 0x720020, 0, 0, 0⟩
  | .KPR_FACTORY_ID => ⟨.dev, 0x100008, 1, 0, 1, 0, 0, 0⟩
  | .KPR_BOOT => ⟨.dev, 0x100010, 1, 0, 0xF, 0, 0, 0⟩
  | .KPR_FW_STAT => ⟨.dev, 0x100020, 1, 0, 0, 0, 0, 0⟩
  | .KPR_FW_VER => ⟨.dev, 0x100028, 1, 0, 0, 0, 0, 0⟩
  | .RST_CAUSE => ⟨.dev, 0x110000, 1, 0, 0x1, 0, 0, 0⟩
  | .RST_CMD => ⟨.dev, 0x110008, 1, 0, 0, 0, 0, 0⟩
  | .RST_BLOCK => ⟨.dev, 0x110010, 1, 0, 0x3E800000000, 0xFFFF00001FFF, 0, 0x18000⟩
  | .PWR_LP_CTRL => ⟨.dev, 0x130030, 1, 0, 0, 0x1F, 0, 0⟩
  | .PWR_LP_STAT => ⟨.dev, 0x130038, 1, 0, 0, 0, 0, 0x20⟩
  | .PWR_GOV_CFG => ⟨.dev, 0x130000, 1, 0, 0x901, 0, 0xFF01, 0⟩
  | .PWR_GOV_STAT => ⟨.dev, 0x130008, 1, 0, 0x2800000000, 0, 0, 0xC000000000⟩
  | .PWR_CEIL => ⟨.dev, 0x130010, 1, 0, 0x546, 0x7FF, 0, 0⟩
  | .PWR_IN_STAT => ⟨.dev, 0x130018, 1, 0, 0, 0, 0, 0x300000000⟩
  | .PWR_THERM_CFG => ⟨.dev, 0x130020, 1, 0, 0x5F, 0, 0x7F, 0⟩
  | .PWR_THERM_STAT => ⟨.dev, 0x130028, 1, 0, 0, 0, 0, 0x40⟩
  | .PWR_PHASE_I => ⟨.dev, 0x130100, 8, 0, 0, 0, 0, 0⟩
  | .PWR_DOMAIN_STAT => ⟨.dev, 0x130200, 40, 0, 0, 0, 0, 0x4⟩
  | .PWR_TEMP => ⟨.dev, 0x130400, 64, 0, 0, 0, 0, 0⟩
  | .TEL_CFG => ⟨.dev, 0x140000, 1, 0, 0x3E0000, 0x3FFFFF, 0, 0⟩
  | .TEL_STAT => ⟨.dev, 0x140008, 1, 0, 0, 0, 0, 0⟩
  | .ECHO_CTRL => ⟨.dev, 0x140010, 1, 0, 0x7F807800, 0x7FFFFFE3, 0, 0⟩
  | .ECHO_TRIG => ⟨.dev, 0x140018, 1, 0, 0x1E0000, 0xFFFFFFFFFFFFFFFF, 0, 0⟩
  | .ECHO_STAT => ⟨.dev, 0x140020, 1, 0, 0, 0, 0, 0⟩
  | .ECHO_TRIG_AT => ⟨.dev, 0x140028, 1, 0, 0, 0, 0, 0⟩
  | .SEC_DBG_NONCE => ⟨.dev, 0x140030, 1, 0, 0, 0, 0, 0⟩
  | .SEC_DBG_STAT => ⟨.dev, 0x140038, 1, 0, 0, 0, 0, 0x40⟩
  | .ECHO_DROP => ⟨.dev, 0x140040, 4, 0, 0, 0, 0, 0⟩
  | .CORE_PMC_SEL => ⟨.quad, 0x1A000, 1024, 16, 0xF00, 0x1FFF, 0, 0⟩
  | .CORE_PMC => ⟨.quad, 0x1C000, 1024, 16, 0, 0, 0, 0⟩
  | .KPR_LOCK => ⟨.dev, 0x100018, 1, 0, 0, 0, 0, 0⟩

/-- Part 0 of the list of every register. -/
def Reg.all0 : List Reg :=
  [.HIF_CTRL, .HIF_STAT, .HIF_DB_ADDR, .HIF_SQ_BASE, .HIF_CQ_BASE, .HIF_RING_SIZE, .HIF_LINK_STAT, .HIF_RING, .QD_VARIANT, .QD_EPOCH_INDEX, .QD_LAUNCH_NEXT, .QD_SWITCH_COUNT, .CORE_EPOCH_STAT, .CORE_LATE_EPOCH, .CORE_STRETCH_COUNT, .SEQ_CTRL, .SEQ_STATUS, .SEQ_ENTRY, .SEQ_FAULT_PC, .SEQ_AS_BASE, .SEQ_NEXT_EPOCH, .SEQ_NEXT_LAUNCH, .SEQ_NEXT_SEL, .SEQ_STALL_COUNT, .SB_STATUS, .SB_WAIT_CYCLES, .CORE_QUEUE_CTRL, .CORE_FAULT_STAT, .CORE_QUEUE_STAT, .CORE_FAULT_RECORD, .CORE_MX_STAT, .CORE_MX_ANCHOR, .CORE_VX_STAT, .QD_HBM_RD_WIN, .QD_HBM_WR_WIN, .QD_HBM_STAT, .QD_HBM_ERR, .QD_HBM_SLOT, .CORE_PORT_SHARE, .CORE_MEM_STAT]

/-- Part 1 of the list of every register. -/
def Reg.all1 : List Reg :=
  [.CORE_MEM_ERR_ADDR, .CORE_REGION, .ING_CTRL, .ING_RECHECK, .ING_STAT, .ING_STAGE, .ING_SLOT_RANGE, .ING_TARGET_ADDR, .ING_TARGET_CFG, .ING_PORT_MAC, .ING_PORT_IP, .ING_PORT_VLAN, .ING_PORT_STAT, .HUB_ADAPTER_SLOT, .HUB_ADAPTER_ID, .HUB_PREFIX_SLOT, .HUB_PREFIX_ID, .ADM_CTRL, .ADM_WMARK, .ADM_STAT, .ADM_HEAD, .ADM_RETURN, .ADM_STATUS_ADDR, .BUD_RANGE, .HUB_STAT, .HUB_SEQ_STAT, .HUB_SEQ_POS, .HUB_SEQ_STEP, .HUB_SEQ_FRAME, .BUD_CFG, .BUD_BAL, .BUD_CAP, .HUB_COMMIT_STAT, .SMP_STAT, .SMP_SEQ_STAT, .SMP_SEQ_EVICT, .MSH_CTRL, .MSH_SWAP_AT, .MSH_ROUTER_STAT, .MSH_FLOW]

/-- Part 2 of the list of every register. -/
def Reg.all2 : List Reg :=
  [.MSH_SLOT, .LNK_CTRL, .LNK_STATE, .LNK_RTT, .LNK_ERR_CFG, .LNK_SWAP_AT, .LNK_PEER, .LNK_PEER_FACTORY, .LNK_COUNT, .LNK_TX_SLOT, .LNK_RX_SLOT, .KPR_FABRIC_ID, .KPR_TORUS, .KPR_FDOM, .KPR_SETUP_TAG, .LNK_FAB_COUNT, .LNK_PKEY, .LNK_TX_TAG, .LNK_DEST, .LNK_RX_FLOW, .QD_ELA_CFG, .QD_ELA_COUNT, .QD_ELA_WIN, .TB_COUNT, .TB_CFG, .TB_STAT, .TB_GM, .TB_OFFSET, .TB_SNAP_CFG, .TB_SNAP_CTRL, .TB_SNAP_STAT, .TB_SNAP_FIRE, .TB_EPOCH0, .TB_HOLD_AT, .CLK_MON_CFG, .TB_PORT_CAL, .TB_PORT_TIME, .CLK_CORE_CTRL, .CLK_CORE_STAT, .KPR_CORDON_CMD]

/-- Part 3 of the list of every register. -/
def Reg.all3 : List Reg :=
  [.KPR_CORDON_STAT, .KPR_REH_CTRL, .KPR_QUAD_STAT, .KPR_SPARE_ROW, .KPR_REH_ENTRY, .KPR_REH_AT, .QD_RECOVERY, .QD_RESTART_AT, .QD_MIRROR, .HUB_SEQ_MIRROR, .KPR_IDENT, .KPR_FACTORY_ID, .KPR_BOOT, .KPR_FW_STAT, .KPR_FW_VER, .RST_CAUSE, .RST_CMD, .RST_BLOCK, .PWR_LP_CTRL, .PWR_LP_STAT, .PWR_GOV_CFG, .PWR_GOV_STAT, .PWR_CEIL, .PWR_IN_STAT, .PWR_THERM_CFG, .PWR_THERM_STAT, .PWR_PHASE_I, .PWR_DOMAIN_STAT, .PWR_TEMP, .TEL_CFG, .TEL_STAT, .ECHO_CTRL, .ECHO_TRIG, .ECHO_STAT, .ECHO_TRIG_AT, .SEC_DBG_NONCE, .SEC_DBG_STAT, .ECHO_DROP, .CORE_PMC_SEL, .CORE_PMC]

/-- Every register, in the order of the index. -/
def Reg.all : List Reg := Reg.all0 ++ Reg.all1 ++ Reg.all2 ++ Reg.all3 ++ [Reg.KPR_LOCK]

/-- The storage key of instance i of a register. -/
def Reg.key (r : Reg) (i : Nat) : Nat := r.ctorIdx * 1048576 + i

/-- The stored registers: those that hold another value than their reset value, by storage key. -/
abbrev RegFile := Map U64

/-- Instance i of a register as stored; a register nothing has written holds its reset value. Instance 64p of LNK_PKEY
is key entry 0 of port p, which resets valid (R432) (DESIGN CHOICE, log entry 95). -/
def RegFile.read (f : RegFile) (r : Reg) (i : Nat) : U64 :=
  Map.get (α := U64) f (r.key i)
    (if r = .LNK_PKEY ∧ i % 64 = 0 then 0x10000 else BitVec.ofNat 64 r.info.reset)

/-- Instance i of a register replaced. -/
def RegFile.write (f : RegFile) (r : Reg) (i : Nat) (v : U64) : RegFile := Map.set (α := U64) f (r.key i) v

end Sys2Proof.Machine
end

