-- ==== Sys2Proof/Machine/CoreTypes.lean ====
section
/-! DEFINITION. The state of one physical core (R51): its sequencer, engine queues, accumulator slots, memories,
exchange-engine buffers and its own registers, as plain data. -/
namespace Sys2Proof.Machine

/-- A 64-byte descriptor: eight words (R18, R92). -/
structure Desc where
  w0 : U64 := 0
  w1 : U64 := 0
  w2 : U64 := 0
  w3 : U64 := 0
  w4 : U64 := 0
  w5 : U64 := 0
  w6 : U64 := 0
  w7 : U64 := 0
  deriving DecidableEq, Repr

/-- An address register (R52). -/
structure AddrReg where
  base   : BitVec 48 := 0
  off    : BitVec 32 := 0
  stride : BitVec 32 := 0
  wrap   : BitVec 32 := 0
  deriving DecidableEq, Repr

/-- One level of the loop stack (R52, R64): latched count, iteration index, first and last instruction of the body. -/
structure LoopLevel where
  count : Nat
  index : Nat
  first : Nat
  last  : Nat
  deriving DecidableEq, Repr

/-- The four epoch values a form-0 WAITDRIP latches (R73). -/
structure EpochVals where
  index   : U64 := 0
  launch  : U64 := 0
  variant : Nat := 0
  slot    : Nat := 0
  deriving DecidableEq, Repr

/-- A push that waits: queue, descriptor, staging buffer and last template index (R69, R121). -/
structure PushReq where
  queue : Nat
  desc  : Desc
  stage : Nat
  tpl   : Nat
  deriving DecidableEq, Repr

/-- What a waiting sequencer waits for (R73, R75, R57, R69, R95, R99). -/
inductive Wait where
  | launch
  | drip (target : U64)
  | queue (q : Nat) (count : Nat)
  | event (ev : Nat) (target : BitVec 32)
  | pushFull (r : PushReq)
  | pushClaims (r : PushReq)
  | pushRefused (r : PushReq)
  deriving DecidableEq, Repr

/-- SEQ_STATUS.STATE (R84) with what a waiting sequencer waits for. -/
inductive RunState where
  | stopped
  | issuing
  | waiting (w : Wait)
  | faulted
  deriving DecidableEq, Repr

/-- The sequencer of a core (R52). -/
structure SeqSt where
  run       : RunState := .stopped
  pc        : Nat := 0
  s         : Map U64 := []
  a         : Map AddrReg := []
  c         : Map (BitVec 32) := []
  loops     : List LoopLevel := []
  ev        : Map (BitVec 32) := []
  t         : Map Desc := []
  /-- The last TLD index of each staging buffer (R121). -/
  tTpl      : Map Nat := []
  frameOpen : Bool := false
  asActive  : Bool := false
  cur       : EpochVals := {}
  prog      : Map (BitVec 32) := []
  data      : Map U64 := []
  tmpl      : Map Desc := []
  /-- The loaded code length (R60); none when no plan was ever loaded. -/
  codeLen   : Option Nat := none
  /-- The plan's template count (R60); none when no plan was ever loaded. -/
  tmplCount : Option Nat := none
  deriving DecidableEq, Repr

/-- A recorded claim (R94, R95): a byte range, written or only read. -/
structure Claim where
  write : Bool
  base  : Nat
  len   : Nat
  deriving DecidableEq, Repr

/-- Bytes to be written when a descriptor's writes become visible (R100): of a granule with the CRC that came with it (R336), or of
units left poisoned by an uncorrectable HBM word (R224). -/
structure MemWrite where
  addr   : Nat
  data   : List Byte
  crc    : Option Nat := none
  poison : Bool := false
  deriving DecidableEq, Repr

/-- A granule of a planned flow (R336): its 64 bytes and the CRC that came with them. -/
structure Granule where
  data : List Byte
  crc  : Nat
  deriving DecidableEq, Repr

/-- One element of an accumulator slot (R137): the internal sum, the invalid and overflow bits, the predicted residue. -/
structure MxElem where
  sum     : Int := 0
  invalid : Bool := false
  ovf    : Bool := false
  residue : Nat := 0
  deriving DecidableEq, Repr

/-- An accumulator slot (R137), its elements row by row. -/
structure MxSlot where
  isOpen : Bool := false
  anchor : Int := 0
  m      : Nat := 0
  n      : Nat := 0
  terms  : Nat := 0
  under  : Bool := false
  elems  : List MxElem := []
  deriving DecidableEq, Repr

/-- Where a queued descriptor stands (R88, R89). -/
inductive EntSt where
  | waiting
  | executing
  deriving DecidableEq, Repr

/-- A queue entry (R87, R102, R121): the descriptor, where it was pushed from, its frame and its order, its claims, and,
while it executes, the writes that become visible at its completion, the anchor an ANCHOR pass will write, the slot as
it stood before (R153), replays run, a prediction inverted by a rehearsal (R155), granules or packets still to move, and the HBM bytes
a SLOW_OUT stores at its completion with the words the controller's check marks (R100, R224). -/
structure QEntry where
  desc     : Desc
  pc       : Nat := 0
  tpl      : Nat := 0
  stage    : Nat := 0
  ord      : Nat := 0
  frame    : Nat := 0
  seqNo    : Nat := 0
  st       : EntSt := .waiting
  claims   : List Claim := []
  pend     : List MemWrite := []
  anchor   : Option (Nat × Int) := none
  saved    : Option MxSlot := none
  replays  : Nat := 0
  rehearse : Bool := false
  moved    : Nat := 0
  req      : Nat := 0
  hbm      : Option (Nat × List Byte) := none
  hbmBad   : List Nat := []
  /-- Flits of a SEND that wait for its flow's injection slots (R343). -/
  flits    : List Flit := []
  deriving DecidableEq, Repr

/-- An engine queue (R87): its entries, oldest first, the halt state (R118) and the completions (R126). -/
structure QueueSt where
  ents      : List QEntry := []
  halted    : Bool := false
  completed : Nat := 0
  deriving DecidableEq, Repr

/-- An epoch frame whose marker is awaited (R76): its epoch, launch count, next launch count and MAX_LATE, whether
EPOCHEND closed it and where, and for each queue the descriptors outstanding and pushed. -/
structure Frame where
  id      : Nat
  epoch   : Nat
  launch  : Nat
  next    : Nat
  maxLate : Nat
  closed  : Bool := false
  endPc   : Nat := 0
  left    : Map Nat := []
  pushes  : Map Nat := []
  deriving DecidableEq, Repr

/-- The unaddressed cells of a 64-byte code unit (R204, R205, R210, R213): three check symbols, the poison bit and the
initialised mark. -/
structure UnitMeta where
  check  : List Byte := [0, 0, 0]
  poison : Bool := false
  init   : Bool := true
  deriving DecidableEq, Repr

/-- A flagged request a target core holds (R422, R423): its window, its packet and when it came. -/
structure HeldReq where
  win   : Nat
  pkt   : Packet
  since : Nat
  deriving DecidableEq, Repr

/-- A fault record before it is laid out in words (R121). -/
structure FaultRec where
  kind     : Nat
  source   : Nat
  detail   : Nat := 0
  rehearse : Bool := false
  pc       : Nat := 0
  tpl      : Nat := 0
  stage    : Nat := 0
  ord      : Nat := 0
  pos      : Nat := 0
  addr     : Nat := 0
  w0       : U64 := 0
  w7       : U64 := 0
  arg      : Nat := 0
  /-- The epoch index, when it is not that of the core's current frame. -/
  epoch    : Option Nat := none
  /-- The drip, when it is not that of the detection. -/
  drip     : Option Nat := none
  deriving DecidableEq, Repr

/-- What an operation of a core sets off outside it: a fault record (R121), a notice (R529), a cordon by reason (R477),
a memory error that starts recovery (R118, R489), a completion signal (R101), a marker raised (R27, R76). -/
inductive CoreEvent where
  | record (r : FaultRec)
  | notice (kind arg0 arg1 : Nat)
  | cordon (reason : Nat) (rehearse : Bool)
  | memError (kind : Nat)
  | signal (sig tag : Nat)
  | marker (epoch : Nat)
  deriving DecidableEq, Repr

/-- One physical core (R51). -/
structure CoreSt where
  regs     : RegFile := []
  seq      : SeqSt := {}
  queues   : Map QueueSt := []
  pushNo   : Nat := 0
  frames   : List Frame := []
  frameNo  : Nat := 0
  slots    : Map MxSlot := []
  anchors  : Map Int := []
  /-- Matrix descriptors completed in the current epoch: the tile index of R153. -/
  tiles    : Nat := 0
  /-- A rehearsal waits to invert a residue prediction on the next tile (R155). -/
  injectResidue : Bool := false
  sram     : Mem := []
  units    : Map UnitMeta := []
  /-- Units queued for crystal write-back, oldest first (R206). -/
  wbq      : List Nat := []
  /-- Drips of the most recent corrected reads, newest first (R209). -/
  corrAt   : List Nat := []
  /-- Region entries the keeper wrote that wait for the next launch (R203). -/
  regionPend : Map U64 := []
  /-- Planned data held before its RECV, by flow (R114). -/
  staged   : Map (List Granule) := []
  /-- Flits that answer PULLs of other cores, by TAG, waiting for their injection slots (R684). -/
  outbox   : Map (List Flit) := []
  /-- Elastic group counters (R421). -/
  groups   : Map Int := []
  /-- Flagged requests held for their group (R421). -/
  held     : List HeldReq := []
  /-- Units whose corrections a rehearsal caused (R501, R502). -/
  rehearsed : List Nat := []
  /-- Held in reset by a cordon until remapped (R475), or its router fenced (R349). -/
  inReset  : Bool := false
  fenced   : Bool := false
  /-- Stretches used in the current window, the window's number from the epoch start, and warning cycles (R445, R446). -/
  stretchUsed : Nat := 0
  stretchWin  : Nat := 0
  warnCycles  : Nat := 0
  /-- A flush took a head that waited on a claim, and its wait is not yet in SB_WAIT_CYCLES (R128; the model's own). -/
  waitDue  : Bool := false
  /-- Single-bit errors of the control memories corrected in line: the sequencer's fixed counter (R53). -/
  seqCorr  : Nat := 0
  /-- Signals whose notice was posted this epoch (R349). -/
  noticed  : List Nat := []
  /-- The counts of CORE_PMC (R613), by counter. -/
  pmc      : Map Nat := []
  deriving DecidableEq, Repr

/-- Field reads of a core's own registers; a register nothing wrote holds its reset value. -/
def CoreSt.reg (c : CoreSt) (r : Reg) (i : Nat) : U64 := c.regs.read r i

/-- A core register replaced. -/
def CoreSt.setReg (c : CoreSt) (r : Reg) (i : Nat) (v : U64) : CoreSt := { c with regs := c.regs.write r i v }

/-- A field of a core register. -/
def CoreSt.fld (c : CoreSt) (r : Reg) (i hi lo : Nat) : Nat := bitsOf (c.reg r i) hi lo

/-- A field of a core register replaced. -/
def CoreSt.setFld (c : CoreSt) (r : Reg) (i hi lo v : Nat) : CoreSt := c.setReg r i (putBits (c.reg r i) hi lo v)

/-- A saturating count of a core register raised. -/
def CoreSt.bump (c : CoreSt) (r : Reg) (i hi lo n : Nat) : CoreSt :=
  c.setFld r i hi lo (satAdd (2 ^ (hi + 1 - lo) - 1) (c.fld r i hi lo) n)

/-- A wrapping count of a core register raised. -/
def CoreSt.bumpWrap (c : CoreSt) (r : Reg) (i hi lo n : Nat) : CoreSt :=
  c.setFld r i hi lo (c.fld r i hi lo + n)

/-- An occurrence of an event counted by every enabled counter that selects it (R613, R633); `qm` is the mask of the queues it
concerns, for an event counted per queue (DESIGN CHOICE, log entry 55). -/
def CoreSt.occur (c : CoreSt) (ev : Nat) (qm : Nat := 0xF) : CoreSt :=
  { c with pmc := (List.range 16).foldl (fun (m : Map Nat) i =>
      let w := c.reg .CORE_PMC_SEL i
      if bitsOf w 7 0 = ev ∧ bitAt w 12 ∧ (qm = 0xF ∨ bitsOf w 11 8 &&& qm ≠ 0) then
        Map.set (α := Nat) m i ((Map.get (α := Nat) m i 0 + 1) % 2 ^ 64)
      else m) c.pmc }

/-- An engine queue of a core. -/
def CoreSt.queue (c : CoreSt) (q : Nat) : QueueSt := Map.get (α := QueueSt) c.queues q {}

/-- An engine queue replaced. -/
def CoreSt.setQueue (c : CoreSt) (q : Nat) (x : QueueSt) : CoreSt :=
  { c with queues := Map.set (α := QueueSt) c.queues q x }

/-- An accumulator slot of a core. -/
def CoreSt.slot (c : CoreSt) (i : Nat) : MxSlot := Map.get (α := MxSlot) c.slots i {}

/-- An accumulator slot replaced. -/
def CoreSt.setSlot (c : CoreSt) (i : Nat) (x : MxSlot) : CoreSt :=
  { c with slots := Map.set (α := MxSlot) c.slots i x }

/-- Word i of a descriptor. -/
def Desc.word (d : Desc) (i : Nat) : U64 :=
  match i with
  | 0 => d.w0 | 1 => d.w1 | 2 => d.w2 | 3 => d.w3 | 4 => d.w4 | 5 => d.w5 | 6 => d.w6 | _ => d.w7

/-- Word i of a descriptor replaced. -/
def Desc.setWord (d : Desc) (i : Nat) (w : U64) : Desc :=
  match i with
  | 0 => { d with w0 := w } | 1 => { d with w1 := w } | 2 => { d with w2 := w } | 3 => { d with w3 := w }
  | 4 => { d with w4 := w } | 5 => { d with w5 := w } | 6 => { d with w6 := w } | _ => { d with w7 := w }

/-- A field of a descriptor word (R92). -/
def Desc.f (d : Desc) (w hi lo : Nat) : Nat := bitsOf (d.word w) hi lo

end Sys2Proof.Machine
end

