-- ==== Sys2Proof/Machine/CoreMem.lean ====
section
/-! DEFINITION. The memory of a core (R187 to R214, R682): the address map, the region table, the crystal code RS(67,64),
the flow code CRC-16, corrected and uncorrectable reads, whole-unit and merged writes. -/
namespace Sys2Proof.Machine

/-! ### The two codes -/

/-- Doubling in GF(2^8) with the field polynomial x^8 + x^4 + x^3 + x^2 + 1 (R205). -/
def gfDouble (a : Nat) : Nat := let d := 2 * a; if d < 256 then d else (d - 256) ^^^ 29

/-- Product in GF(2^8), by the eight bits of the second factor. -/
def gfMulAux : Nat → Nat → Nat → Nat → Nat
  | 0, _, _, acc => acc
  | f + 1, a, b, acc => gfMulAux f (gfDouble a) (b / 2) (if b % 2 = 1 then acc ^^^ a else acc)

/-- Product in GF(2^8) (R205). -/
def gfMul (a b : Nat) : Nat := gfMulAux 8 a b 0

/-- One step of the division by g(x) = x³ + 7x² + 14x + 8 = (x + 1)(x + α)(x + α²) (R205). -/
def rsStep (r : Nat × Nat × Nat) (d : Nat) : Nat × Nat × Nat :=
  let fb := d ^^^ r.1
  (r.2.1 ^^^ gfMul 7 fb, r.2.2 ^^^ gfMul 14 fb, gfMul 8 fb)

/-- The three check symbols of a crystal unit: the coefficients of x², x and 1 of r(x) (R205). -/
def rsCheck (unit : List Byte) : List Byte :=
  let r := unit.foldl (fun acc b => rsStep acc b.toNat) (0, 0, 0)
  [BitVec.ofNat 8 r.1, BitVec.ofNat 8 r.2.1, BitVec.ofNat 8 r.2.2]

/-- The code word's value at a point, by Horner's rule, highest power first (R205). -/
def rsEval (x : Nat) (cw : List Byte) : Nat := cw.foldl (fun acc b => gfMul acc x ^^^ b.toNat) 0

/-- The power i below 67 with α^i · s0 = s1, if any (R205). -/
def rsLocate : Nat → Nat → Nat → Nat → Option Nat
  | 0, _, _, _ => none
  | f + 1, i, v, s1 => if v = s1 then some i else rsLocate f (i + 1) (gfDouble v) s1

/-- What the crystal decoder answers: clean, one symbol corrected, or uncorrectable (R205). -/
inductive RsResult where
  | clean
  | corrected (cw : List Byte)
  | bad
  deriving DecidableEq, Repr

/-- The crystal decoder on 64 data symbols followed by 3 check symbols (R205). -/
def rsDecode (cw : List Byte) : RsResult :=
  let s0 := rsEval 1 cw
  let s1 := rsEval 2 cw
  let s2 := rsEval 4 cw
  if s0 = 0 ∧ s1 = 0 ∧ s2 = 0 then .clean
  else if s0 ≠ 0 ∧ gfMul s1 s1 = gfMul s0 s2 then
    match rsLocate 67 0 s0 s1 with
    | some i =>
      let k := 66 - i
      .corrected (setNth cw k ((nthD cw k 0) ^^^ BitVec.ofNat 8 s0))
    | none => .bad
  else .bad

/-- One byte into the CRC-16 of polynomial 0x1021, most significant bit first (R210). -/
def crc16Bits : Nat → Nat → Nat
  | 0, c => c
  | f + 1, c => crc16Bits f (if c ≥ 32768 then ((2 * c) % 65536) ^^^ 0x1021 else 2 * c)

/-- The CRC-16 of a byte string: initial value 0xFFFF, no reflection, no final XOR (R210). -/
def crc16 (bytes : List Byte) : Nat :=
  bytes.foldl (fun c b => crc16Bits 8 (c ^^^ (b.toNat * 256))) 0xFFFF

/-- The check symbols of a flow-coded unit: the CRC and a zero third symbol (R210). -/
def flowCheck (unit : List Byte) : List Byte :=
  let c := crc16 unit
  [BitVec.ofNat 8 (c / 256), BitVec.ofNat 8 c, 0]

/-! ### The map and the region table -/

/-- Does a byte range lie wholly in local SRAM (R187). -/
def inLocal (a n : Nat) : Bool := decide (a + n ≤ 0x180000)
/-- Does a byte range lie wholly in the stacked SRAM slice (R187). -/
def inStacked (a n : Nat) : Bool := decide (0x8000000 ≤ a ∧ a + n ≤ 0x8800000)
/-- Does a byte range lie wholly inside the core's address map (R187). -/
def inMap (a n : Nat) : Bool := inLocal a n || inStacked a n

/-- TYPE of region entry i (R225). -/
def CoreSt.regType (c : CoreSt) (i : Nat) : Nat := c.fld .CORE_REGION i 30 28
/-- First byte of region entry i (R225). -/
def CoreSt.regBase (c : CoreSt) (i : Nat) : Nat := c.fld .CORE_REGION i 15 0 * 4096
/-- Bytes of region entry i (R225). -/
def CoreSt.regLen (c : CoreSt) (i : Nat) : Nat := c.fld .CORE_REGION i 27 16 * 4096

/-- The lowest-numbered used region entry that holds an address (R202). -/
def CoreSt.regionOf (c : CoreSt) (a : Nat) : Option Nat :=
  (List.range 16).find? (fun i => c.regType i ≠ 0 && decide (c.regBase i ≤ a ∧ a < c.regBase i + c.regLen i))

/-- The type of the region that holds a code unit, 0 for none. -/
def CoreSt.unitType (c : CoreSt) (u : Nat) : Nat :=
  match c.regionOf (u * 64) with
  | some i => c.regType i
  | none => 0

/-- A range inside the core's map and one entry: the entry's number, or none (R116, R187). A byte of two entries belongs to the
lower-numbered one (R202), so the lowest entry that touches the range must hold all of it (DEDUCED, log entry 25). -/
def CoreSt.regionFor (c : CoreSt) (a n : Nat) : Option Nat :=
  if !inMap a n then none
  else match (List.range 16).find? (fun i => c.regType i ≠ 0 &&
      decide (c.regBase i < a + max n 1 ∧ a < c.regBase i + c.regLen i)) with
  | some i => if c.regBase i ≤ a ∧ a + n ≤ c.regBase i + c.regLen i then some i else none
  | none => none

/-- The crystal region of a core with a residency index (R201, R235). -/
def CoreSt.crystalAt (c : CoreSt) (idx : Nat) : Option Nat :=
  (List.range 16).find? (fun i => c.regType i = 1 && c.fld .CORE_REGION i 43 32 = idx)

/-! ### Reads and writes -/

/-- A memory error met by an engine: record kind, DETAIL and address (R207, R211, R212). -/
structure MemFault where
  kind   : Nat
  detail : Nat
  addr   : Nat
  deriving DecidableEq, Repr

/-- An engine at work on a core: the core, the drip, the first memory error, what it set off, and its writes in reverse
order. -/
structure Run where
  c      : CoreSt
  now    : Nat
  fault  : Option MemFault := none
  evs    : List CoreEvent := []
  writes : List MemWrite := []
  deriving DecidableEq, Repr

/-- The unaddressed cells of a code unit. -/
def CoreSt.unit (c : CoreSt) (u : Nat) : UnitMeta := Map.get (α := UnitMeta) c.units u {}

/-- The unaddressed cells of a code unit replaced. -/
def CoreSt.setUnit (c : CoreSt) (u : Nat) (x : UnitMeta) : CoreSt :=
  { c with units := Map.set (α := UnitMeta) c.units u x }

/-- The 64 data bytes of a code unit as stored. -/
def CoreSt.unitBytes (c : CoreSt) (u : Nat) : List Byte := c.sram.readN (u * 64) 64

/-- CORE_MEM_ERR_ADDR set, with the sticky bit of the event (R227, R228). -/
def CoreSt.memError (c : CoreSt) (addr kind bit : Nat) : CoreSt :=
  (c.setReg .CORE_MEM_ERR_ADDR 0 (BitVec.ofNat 64 (addr % 2 ^ 48 + kind * 2 ^ 48))).setFld .CORE_MEM_STAT 0 bit bit 1

/-- A corrected read counted, its unit queued for write-back once, and the window of R209 judged (R206, R230); a rehearsed error is
not counted (R502). -/
def Run.corrected (r : Run) (u : Nat) : Run :=
  let drill := r.c.rehearsed.contains u
  let r := { r with c := r.c.occur 0x0E }
  let c := if drill then r.c else r.c.bump .CORE_MEM_STAT 0 31 0 1
  let c := if c.wbq.contains u then c
    else if c.wbq.length < 16 then { c with wbq := c.wbq ++ [u] }
    else c.bump .CORE_MEM_STAT 0 47 32 1
  let at' := r.now :: (c.corrAt.filter (fun t => decide (r.now < t + 2 ^ 30)))
  let c := if drill then c else { c with corrAt := at'.take 65 }
  if !drill ∧ at'.length > 64 ∧ c.fld .CORE_MEM_STAT 0 51 51 = 0 then
    { r with c := c.setFld .CORE_MEM_STAT 0 51 51 1, evs := r.evs ++ [.notice 0x0A 0 0] }
  else { r with c := c }

/-- One code unit read under the code of its region type (R205 to R213, R682). -/
def Run.readUnit (r : Run) (u : Nat) : Run × List Byte :=
  if r.fault.isSome then (r, [])
  else
    let m := r.c.unit u
    let cry : Bool := r.c.unitType u = 1
    if m.init then (r, List.replicate 64 0)
    else if m.poison then
      ({ r with c := r.c.memError (u * 64) 3 50, fault := some ⟨if cry then 0x09 else 0x0A, 1, u * 64⟩ }, [])
    else
      let d := r.c.unitBytes u
      if cry then
        match rsDecode (d ++ m.check) with
        | .clean => (r, d)
        | .corrected cw => (r.corrected u, cw.take 64)
        | .bad =>
          ({ r with
              c := (r.c.setUnit u { m with poison := true }).memError (u * 64) 1 48
              fault := some ⟨0x09, 0, u * 64⟩ }, [])
      else if flowCheck d = m.check then (r, d)
      else ({ r with c := r.c.memError (u * 64) 2 49, fault := some ⟨0x0A, 0, u * 64⟩ }, [])

/-- Consecutive code units read. -/
def Run.readUnits (r : Run) : Nat → Nat → Run × List Byte
  | _, 0 => (r, [])
  | u, n + 1 =>
    let (r1, b) := r.readUnit u
    let (r2, bs) := Run.readUnits r1 (u + 1) n
    (r2, b ++ bs)

/-- A byte range read; every touched unit is read whole (R191). -/
def Run.read (r : Run) (a n : Nat) : Run × List Byte :=
  if n = 0 then (r, [])
  else
    let u := a / 64
    let k := (a + n - 1) / 64 - u + 1
    let (r1, bs) := r.readUnits u k
    (r1, (bs.drop (a - u * 64)).take n)

/-- A whole code unit written with the code of its region type (R213, R682); a queued write-back is discarded (R230). -/
def CoreSt.writeUnit (c : CoreSt) (u : Nat) (d : List Byte) : CoreSt :=
  let chk := if c.unitType u = 1 then rsCheck d else flowCheck d
  { c with
    sram := c.sram.writeN (u * 64) d
    wbq := c.wbq.filter (fun x => decide (x ≠ u)) }.setUnit u ⟨chk, false, false⟩

/-- Bytes written inside one code unit: the whole unit, or a merge whose read half is a read of the unit (R192, R194,
R206, R207, R230) and, on a CRC mismatch, faults with DETAIL 2 (R211). -/
def Run.writeInUnit (r : Run) (u off : Nat) (d : List Byte) : Run :=
  if r.fault.isSome then r
  else if off = 0 ∧ d.length = 64 then { r with c := r.c.writeUnit u d }
  else
    let (r1, old) := r.readUnit u
    match r1.fault with
    | some f => { r1 with fault := some (if f.kind = 0x0A ∧ f.detail = 0 then { f with detail := 2 } else f) }
    | none => { r1 with c := r1.c.writeUnit u (old.take off ++ d ++ old.drop (off + d.length)) }

/-- A byte string written from an address upward, unit by unit, by fuel: one more than the units it touches. -/
def Run.writeAux : Nat → Run → Nat → List Byte → Run
  | 0, r, _, _ => r
  | _ + 1, r, _, [] => r
  | f + 1, r, a, d =>
    let off := a % 64
    let k := min (64 - off) d.length
    Run.writeAux f (r.writeInUnit (a / 64) off (d.take k)) (a + k) (d.drop k)

/-- A byte string written to core memory now. -/
def Run.poke (r : Run) (a : Nat) (d : List Byte) : Run := Run.writeAux (d.length / 64 + 2) r a d

/-- A byte string written by a descriptor: seen by the descriptor itself at once and recorded for its completion. -/
def Run.write (r : Run) (a : Nat) (d : List Byte) : Run :=
  if r.fault.isSome then r else { (r.poke a d) with writes := ⟨a, d, none, false⟩ :: r.writes }

/-- The check symbols that hold a CRC-16 (R210). -/
def crcSymbols (c : Nat) : List Byte := [BitVec.ofNat 8 (c / 256), BitVec.ofNat 8 c, 0]

/-- A unit left poisoned (R224). -/
def Run.poisonUnit (r : Run) (u : Nat) : Run :=
  { r with c := r.c.setUnit u { (r.c.unit u) with poison := true, init := false } }

/-- One recorded write made visible (R100): with the CRC that arrived (R336), or leaving its units poisoned (R224). -/
def Run.applyWrite (r : Run) (w : MemWrite) : Run :=
  let u := w.addr / 64
  let r := r.poke w.addr w.data
  let r := match w.crc with
    | some c => { r with c := r.c.setUnit u { (r.c.unit u) with check := crcSymbols c } }
    | none => r
  if w.poison then (rangeFrom u ((w.data.length + 63) / 64)).foldl Run.poisonUnit r else r

/-- Recorded writes made visible (R100). -/
def Run.applyWrites (r : Run) (ws : List MemWrite) : Run :=
  ws.foldl (fun r w => if r.fault.isSome then r else r.applyWrite w) r

/-- A hardware user's read of core memory that no descriptor makes: the bytes, or none on a memory error. -/
def CoreSt.hwRead (c : CoreSt) (now a n : Nat) : CoreSt × Option (List Byte) :=
  let (r, b) := Run.read ⟨c, now, none, [], []⟩ a n
  (r.c, if r.fault.isSome then none else some b)

/-- A hardware user's write of core memory (R199). -/
def CoreSt.hwWrite (c : CoreSt) (now a : Nat) (d : List Byte) : CoreSt :=
  (Run.poke ⟨c, now, none, [], []⟩ a d).c

/-! ### The memory initialiser -/

/-- The initialiser's work: zero data, zero checks, no poison, initialised marks set (R213). -/
def CoreSt.initMemory (c : CoreSt) : CoreSt := { c with sram := [], units := [] }

end Sys2Proof.Machine
end

