-- ==== Sys2Proof/Machine/FabricTypes.lean ====
section
/-! DEFINITION. The state of the mesh routers' buffers, of a Jalben port and of the elastic windows, as plain data. -/
namespace Sys2Proof.Machine

/-- A flit that waits in a router (R340, R345, R346): the output it routes to, the first fabric cycle it may leave in, and whose a service
flit is. -/
structure MeshFlit where
  flit  : Flit
  exit  : Nat
  ready : Nat := 0
  user  : ServiceUser := .other
  deriving DecidableEq, Repr

/-- What R337 puts at an edge of a quadrant's grid. -/
inductive Attach where
  | hub
  | supervisor
  | ingest
  | keeper
  | trace
  | hbm
  | port (n : Nat)
  | lane
  deriving DecidableEq, Repr

/-- A sequenced unit in the replay buffer (R372): its number, class, payload, CRC mask and item-free header's owner, the slot
it was first sent in (none while unsent), the drip of its latest sending, and its replays so far. -/
structure TxUnit where
  seq     : Nat
  cls     : Nat
  mask    : Nat
  payload : List Byte
  slot    : Option Nat
  sentAt  : Nat
  replays : Nat := 0
  /-- Its CRC was inverted by a rehearsal (R501, R502). -/
  injected : Bool := false
  /-- The port flow id of a unit that waits unsent (R389). -/
  flow    : Nat := 0
  deriving DecidableEq, Repr

/-- The ordering stream of a slot or unit at a receiver (R378). -/
inductive Stream where
  | planned (flow : Nat)
  | elastic (chan : Nat)
  | control
  | nobody
  /-- What a bad slot outside the frame held may belong to any stream (R388). -/
  | any
  deriving DecidableEq, Repr

/-- A slot whose unit was bad (R374, R378): its index, the SEQ expected when it came, its stream, and, once NAKed, the SEQ of the first good
unit after it. -/
structure BadSlot where
  slot   : Nat
  from'  : Nat
  stream : Stream
  bound  : Option Nat := none
  deriving DecidableEq, Repr

/-- A good unit held for its stream (R378): its SEQ gives its place among the others. -/
structure HeldUnit where
  seq     : Nat
  stream  : Stream
  cls     : Nat
  mask    : Nat
  payload : List Byte
  deriving DecidableEq, Repr

/-- A codeword decoded on a lane (R359 to R361): its GCOUNT and SB, its 640 bytes unscrambled, and whether it was uncorrectable. -/
structure RxWord where
  gcount : Nat
  sb     : Nat
  bytes  : List Byte
  bad    : Bool := false
  deriving DecidableEq, Repr

/-- The phase of a retrain (R388). -/
inductive Phase where
  | pause
  | align
  | sync
  | catchup
  deriving DecidableEq, Repr

/-- A Jalben port (R359 to R399). -/
structure PortSt where
  /-- The transmitter (R370 to R376). -/
  nextSeq  : Nat := 0
  buffer   : List TxUnit := []
  sentIn   : Map Nat := []
  /-- Replays to send: SEQ, the LV they carry, and whether a timeout asked for them. -/
  replayQ  : List (Nat × Nat × Bool) := []
  planned  : List (Nat × Flit) := []
  elastic  : Map (List Flit) := []
  /-- Flits the port formed for the mesh, by TAG, each waiting for its flow's next owned slot (R378, R411). -/
  toMesh   : Map (List Flit) := []
  /-- The pause signal, raised from PAUSE until ACTIVE (R389). -/
  paused   : Bool := false
  control  : List (List Byte) := []
  nakQ     : List Nat := []
  ackQ     : List Nat := []
  txSlot   : Nat := 0
  /-- An elastic packet is being sent in a channel (R418). -/
  sending  : Map Bool := []
  /-- A channel's packet is being discarded (R405, R417). -/
  dropping : Map Bool := []
  /-- The stream toward the lanes (R360 to R363, R467): bytes not yet in a whole group, the group being filled with the SB of its lanes 0
  and 1, the scramblers by lane, the sideband symbols that wait (kind and DATA), and the departure a waiting mark would have in the next
  group to start, in fifths of a sixty-fourth of a drip. -/
  stream   : List Byte := []
  gcount   : Nat := 0
  sb0      : Nat := 0
  sb1      : Nat := 0
  txPrbs   : Map Nat := []
  symQ     : List (Nat × Nat) := []
  markAt   : Option Nat := none
  /-- The stream from the lanes (R360 to R362): codewords that wait for their group's other lanes, the scramblers and the GCOUNT expected by
  lane, and the bytes that await their unit, each with whether its codeword was uncorrectable. -/
  rxLanes  : Map (List RxWord) := []
  rxPrbs   : Map Nat := []
  rxNext   : Map Nat := []
  rxStream : List (Byte × Bool) := []
  /-- The receiver (R373 to R380). -/
  point    : Nat := 0
  expected : Nat := 0
  got      : List Nat := []
  bad      : List BadSlot := []
  held     : List HeldUnit := []
  rxSlot   : Nat := 0
  /-- The partner's TX_BANK has toggled, and the receive bank swaps at the next frame boundary (R397). -/
  rxSwap   : Bool := false
  lastAck  : Nat := 0
  lastAckAt : Nat := 0
  elasticIn : Map (List Flit) := []
  /-- Training (R381 to R393). -/
  probes   : Nat := 0
  identIn  : Bool := false
  syncIn   : Bool := false
  syncOut  : Bool := false
  phase    : Option Phase := none
  catchAt  : Nat := 0
  peerDigest : Map Nat := []
  peerSerial : Nat := 0
  retrains : List Nat := []
  target   : Option Nat := none
  request  : Bool := false
  armedBank : Bool := false
  /-- Entries were written into the inactive transmit bank since its last swap (R493). -/
  prepared : Bool := false
  /-- Uncorrectable codewords in the present window (R387). -/
  uncorr   : Nat := 0
  /-- Units whose CRC a rehearsal still inverts (R501). -/
  corrupt  : Nat := 0
  rehearse : Bool := false
  /-- A cordon turned the port off (R505). -/
  cordoned : Bool := false
  /-- Time transfer (R453 to R458): departures and arrivals of marks by mark number, in sixty-fourths of a drip, the next mark's
  number, the latest marks sent and received, and whether the latest one's TIME message has been sent. -/
  marksOut : Map Nat := []
  marksIn  : Map Nat := []
  markNo   : Nat := 0
  lastOut  : Option Nat := none
  lastIn   : Option Nat := none
  told     : Bool := true
  /-- The grandmaster key and stratum the peer last advertised. -/
  peerKey  : Option Nat := none
  peerStratum : Nat := 127
  delay    : Option Nat := none
  /-- Elastic flits of the packet arriving, by channel (R418). -/
  partPkt  : Map (List Flit) := []
  deriving DecidableEq, Repr

/-- An elastic request of this device (R425, R427): the core and queue entry it belongs to, its packets, the window charges
(R419), the route with its tries, when it was last sent, whether it waits on its window and since when, and the read data
received, by packet. -/
structure ElaReq where
  id       : Nat
  core     : Nat
  seqNo    : Nat
  write    : Bool
  granules : Nat
  packets  : List Packet
  reqFlits : Nat
  rspFlits : Nat
  route    : Nat := 0
  tries    : Map Nat := []
  sentAt   : Nat := 0
  waiting  : Option Nat := none
  data     : Map (List Byte) := []
  deriving DecidableEq, Repr

/-- An elastic window (R419, R426): as source, the next request id and the requests outstanding; as target, the highest id H
received, the ids delivered and the packets of partly received requests. -/
structure WinSt where
  nextId    : Nat := 0
  reqs      : List ElaReq := []
  high      : Option Nat := none
  delivered : List Nat := []
  part      : Map (List Nat) := []
  deriving DecidableEq, Repr

end Sys2Proof.Machine
end

