-- ==== Sys2Proof/Machine/HostTypes.lean ====
section
/-! DEFINITION. The state of one PCIe function (R513 to R542): its rings' counts, its internal completion queue, fetched
commands, stream rings and MSI-X table, as plain data; and what the device sends out. -/
namespace Sys2Proof.Machine

/-- A completion before it is written to the ring (R526); `slotPlace` marks the kinds 3 and 4 that use the 256 places
reserved for the quadrant's slots, `reserved` a command's own place (R521). -/
structure Completion where
  kind      : Nat
  rehearse  : Bool := false
  quad      : Nat := 0
  status    : Nat := 0
  cid       : Nat := 0xFFFF
  tag       : Nat := 0
  arg0      : Nat := 0
  arg1      : Nat := 0
  slotPlace : Bool := false
  reserved  : Bool := false
  deriving DecidableEq, Repr

/-- A submission entry asked for at a poll (R274, R520, R521): its number, the count from which a launch's snapshot applies it, and,
once its fetch has completed, its eight words, its command block (none when it could not be read) and the places it reserved. -/
structure Fetched where
  no     : Nat
  due    : Nat
  words  : Option (List U64) := none
  block  : Option (List Byte) := none
  places : Nat := 0
  /-- Its fetch completed after the snapshot it should have applied at (R274). -/
  late   : Bool := false
  deriving DecidableEq, Repr

/-- An input-ring entry asked for at a poll (R274, R280, R520): the count from which a launch's snapshot applies it and, once its fetch has
completed, its words and payload, whether that was after its snapshot, and whether the gateway has written its frame. -/
structure RingFetch where
  due     : Nat
  words   : Option (List U64) := none
  payload : List Byte := []
  late    : Bool := false
  written : Bool := false
  deriving DecidableEq, Repr

/-- A stream ring (R517, R523): kind, size, bases, interrupt, the bound slot, the device's own count, and the host's
count as last polled. -/
structure Ring where
  output  : Bool
  irq     : Bool
  vector  : Nat
  size    : Nat
  base    : Nat
  payload : Nat
  bound   : Option Nat := none
  devCount : Nat := 0
  hostCount : Nat := 0
  /-- Input entries asked for and not yet applied, in ring order (R520). -/
  asked    : List RingFetch := []
  deriving DecidableEq, Repr

/-- One MSI-X table entry (R515, the PCIe standard's layout) (PRESUMED, log entry 90). -/
structure MsixEntry where
  addr   : Nat := 0
  data   : Nat := 0
  masked : Bool := true
  pend   : Bool := false
  deriving DecidableEq, Repr

/-- One function (R517 to R521). -/
structure FuncSt where
  /-- Submission entries fetched (R517). `fetched` holds those asked for and not yet applied, in ring order. -/
  sqCount  : Nat := 0
  /-- Completion entries written; its turn through the ring gives the phase (R19). -/
  cqCount  : Nat := 0
  /-- The host's completion consumer count as last polled. -/
  cqHost   : Nat := 0
  /-- The internal completion queue, oldest first. -/
  queue    : List Completion := []
  /-- Places reserved by commands not yet completed (R521). -/
  reserved : Nat := 0
  fetched  : List Fetched := []
  rings    : Map Ring := []
  msix     : Map MsixEntry := []
  /-- Enabled vectors whose rings received entries, their messages not yet sent: lowest number first (R520). -/
  irqs     : List Nat := []
  deriving DecidableEq, Repr

end Sys2Proof.Machine
end

