-- ==== Sys2Proof/Machine/OutTypes.lean ====
section
/-! DEFINITION. What leaves the device (the model's own record of it): writes into host memory, interrupts, mesh and link
traffic handed on, pins and sideband data. -/
namespace Sys2Proof.Machine

/-- An RDMA READ request as a storage port sends it (R237, R267): its port, the target's number, address and queue pair, the port's own
addresses and VLAN word, the remote key, the remote address and the length. -/
structure ReadRequest where
  port   : Nat
  target : Nat
  dest   : Nat × Nat
  ipv6   : Bool
  qpn    : Nat
  mac    : Nat
  src    : Nat × Nat
  vlan   : Nat
  rkey   : Nat
  addr   : Nat
  len    : Nat
  deriving DecidableEq, Repr

/-- One thing that leaves a unit of the device, newest last in the state's list (DESIGN CHOICE, log entry 11). -/
inductive Out where
  /-- A completion entry written to a completion ring (R519, R526): function, address, the four words. -/
  | completion (fn addr : Nat) (words : List U64)
  /-- An output-ring entry with its payload (R531). -/
  | output (fn ring addr : Nat) (words : List U64) (payload : List Byte)
  /-- Any other write of bytes into host memory. -/
  | hostWrite (fn addr : Nat) (bytes : List Byte)
  /-- A read request to host memory (R520): function, address, length. -/
  | hostRead (fn addr len : Nat)
  /-- An MSI-X message (R520). -/
  | msix (fn vector : Nat)
  /-- A device word of a doorbell page written (R517): function, byte offset, value. -/
  | doorbell (fn offset value : Nat)
  /-- A completion signal sent over the mesh (R101): quadrant, SIG, SIG_TAG, sending virtual core. -/
  | signal (q sig tag v : Nat)
  /-- A flit on a mesh link (R333, R335): quadrant, router × 5 + output, the flit with its sideband. -/
  | mesh (q src : Nat) (flit : Flit)
  /-- A service flit: a PULL request to a peer (R684). -/
  | pullRequest (q src peer addr granules : Nat)
  /-- A link unit put into a port's stream (R364): its 136 bytes. -/
  | unit (port : Nat) (bytes : List Byte)
  /-- A group of codewords sent by a port, each on its physical lane (R359 to R362); its sideband symbol is in their headers. -/
  | group (port : Nat) (words : List LaneWord)
  /-- A training burst sent by a port that is in DETECT (R381): port, kind of its symbols, arguments. -/
  | symbol (port kind : Nat) (args : List Nat)
  /-- An elastic packet handed to a port or back to the device's own quadrant (R415, R416). -/
  | packet (port : Nat) (p : Packet)
  /-- A management, control or report message sent by a keeper or supervisor (R299, R419): kind and words. -/
  | message (kind : Nat) (words : List Nat)
  /-- A storage READ request (R237, R238). -/
  | storage (r : ReadRequest)
  /-- A congestion notification sent for a marked response (R237, R238): port, target, destination queue pair. -/
  | storageCnp (port target qpn : Nat)
  /-- A pin driven: name and level (R293, R539, R680). -/
  | pin (name : String) (level : Bool)
  /-- Bytes read over the sideband (R539). -/
  | sideband (bytes : List Byte)
  /-- A value read by a register read with side effect, or from BAR2 (R16, R516). -/
  | readData (what : String) (bytes : List Byte)
  /-- A frame of the echo port (R625). -/
  | echo (bytes : List Byte)
  deriving DecidableEq, Repr

end Sys2Proof.Machine
end

