-- ==== Sys2Proof/Machine/HubTypes.lean ====
section
/-! DEFINITION. The state of one quadrant: its plan, its serving hub, its ingest engine, its supervisor's queues and
recovery, its HBM stack, as plain data. -/
namespace Sys2Proof.Machine

/-! ### The plan -/

/-- One core's budget in an epoch slot (R22, R30, R314): W, H, largest tile, the cross-device flag, draw cycles, draws. -/
structure EpochEntry where
  core  : Nat
  flow  : Bool
  w     : Nat
  h     : Nat
  tile  : Nat
  drawCycles : Nat
  draws : Nat
  deriving DecidableEq, Repr

/-- One plan variant (R22, R271): epoch length, clock floor in MHz, MAX_LATE, VAR_LEAD, rows and groups, and for each epoch
slot of its cycle whether a switch may follow (SWITCH_OK). -/
structure Variant where
  epochLen : Nat
  floor    : Nat
  split    : Nat := 0
  maxLate  : Nat := 0
  varLead  : Nat := 2
  decodeRows  : Nat := 0
  stepEpochs  : Nat := 1
  prefillRows : Nat := 0
  prefillEpochs : Nat := 1
  switchOk : List Bool := [true]
  entries  : List (List EpochEntry) := []
  deriving DecidableEq, Repr

/-- A core's buffers (R270, R686): the virtual core, IN_BUF, PROMPT_BUF, OUT_BUF and BATCH_AT, 0 for none. -/
structure Buffers where
  core   : Nat
  inBuf  : Nat
  prompt : Nat
  outBuf : Nat
  batch  : Nat
  deriving DecidableEq, Repr

/-- The serving parameters of a plan (R270, R311). -/
structure Serving where
  inputKind : Nat := 0
  outKind   : Nat := 0
  cadenceIn : Nat := 1
  inPos     : Nat := 0
  inCodes   : Nat := 0
  outCodes  : Nat := 1
  outMax    : Nat := 1
  frameUs   : Nat := 0
  chunk     : Nat := 64
  kvMax     : Nat := 64
  writesDec : Nat := 1
  writesPre : Nat := 1
  stopIds   : List Nat := []
  skipId    : Option Nat := none
  buffers   : List Buffers := []
  deriving DecidableEq, Repr

/-- A role of the partition (R640): block position index, quadrant, MASTER, STANDBY and MIRRORED flags, mirror partner. -/
structure RoleEntry where
  pos     : Nat
  quad    : Nat
  master  : Bool
  standby : Bool
  mirrored : Bool
  parent  : Nat
  children : Nat
  partner : Nat
  deriving DecidableEq, Repr

/-- A mirrored range (R482, R686): core, partner core, length, base and the image's base. -/
structure MirrorRange where
  core  : Nat
  pcore : Nat
  len   : Nat
  base  : Nat
  image : Nat
  deriving DecidableEq, Repr

/-- The plan a quadrant holds (R637 to R649). -/
structure Plan where
  role      : Nat
  cols      : Nat := 8
  setupTag  : U64 := 0
  variants  : List Variant := []
  serving   : Serving := {}
  signals   : List (List U64) := []
  policy    : List U64 := []
  roles     : List RoleEntry := []
  placement : List Nat := []
  manifests : List (List U64) := []
  places    : List U64 := []
  code      : Map (List (BitVec 32)) := []
  data      : Map (List U64) := []
  templates : Map (List Desc) := []
  reloc     : List (U64 × U64) := []
  mesh      : List U64 := []
  regions   : Map (List U64) := []
  mirror    : Option (Nat × Nat) := none
  ranges    : List MirrorRange := []
  symbols   : List (List Byte) := []
  /-- The ports for whose link the image holds a detour table set (R491, R686). -/
  detours   : List Nat := []
  /-- The declared input current of epoch slot 0 of each variant, in units of 0.25 A (R596). -/
  amps      : List Nat := []
  /-- The function, report address and image of the PLAN_LOAD (R641, R645). -/
  loadFn    : Nat := 4
  reportAt  : Nat := 0
  image     : List Byte := []
  standby   : Bool := false
  deriving DecidableEq, Repr

/-- A launch rule in force (R25, R42): epoch k from `first` on launches at `at' + (k − first) × E`. -/
structure LaunchRule where
  first   : Nat := 0
  at'     : Nat := 0
  variant : Nat := 0
  deriving DecidableEq, Repr

/-- A held variant notice (R41): target variant, switch epoch ks, switch count S. -/
structure VarNotice where
  target : Nat
  ks     : Nat
  count  : Nat
  deriving DecidableEq, Repr

/-! ### Serving -/

/-- A sampler parameter block (R312). -/
structure Sampler where
  temp  : Nat := 0
  topP  : Nat := 0x3F800000
  minP  : Nat := 0
  rep   : Nat := 0x3F800000
  pres  : Nat := 0
  freq  : Nat := 0
  topK  : Nat := 0
  stop  : Nat := 0
  deriving DecidableEq, Repr

/-- What a commit left for the scan (R321): the drip of its completion, the outputs staged in order, the entries emitted, the
stop mark and whether the group was a chunk. -/
structure Applied where
  at'     : Nat
  step    : Nat
  outputs : List (List Nat)
  emitted : Nat
  stop    : Bool
  chunk   : Bool
  deriving DecidableEq, Repr

/-- A sequence slot (R276 and the fields other rules give it). -/
structure SlotSt where
  state    : Nat := 0
  inStep   : Bool := false
  hold     : Nat := 0
  held     : Nat := 0
  dclass   : Nat := 0
  account  : Nat := 0
  adapter  : Option Nat := none
  pfx      : Option Nat := none
  pfxLen   : Nat := 0
  seed     : U64 := 0
  pos      : Nat := 0
  left     : Nat := 0
  step     : Nat := 0
  frame    : Nat := 0
  inRing   : Option Nat := none
  outRing  : Option Nat := none
  inClosed : Bool := false
  endFrame : Nat := 0
  reserved : Nat := 0
  weights  : Nat × Nat := (0, 0)
  partner  : Option (Nat × Nat) := none
  tag      : Nat := 0
  row      : Option Nat := none
  /-- Epoch of the last scanned commit, or of the admission (R284). -/
  order    : Nat := 0
  chunkNo  : Nat := 0
  resume   : Option Nat := none
  /-- Position at which DECODE was entered (R326). -/
  d0       : Nat := 0
  promptAt : Nat := 0
  promptLen : Nat := 0
  /-- Input frames present (R280) and prompt chunks present (R685). -/
  frames   : List Nat := []
  chunks   : List Nat := []
  /-- Prompt chunks asked for, with the count from which a launch's snapshot applies each (R685). -/
  chunkDue : Map Nat := []
  /-- DSEQ of the last delta record sent for the slot (R484). -/
  dseq     : Nat := 0
  /-- Frames applied and not yet written by the gateway (R280): index and payload. -/
  gate     : List (Nat × List Byte) := []
  sampler  : Sampler := {}
  /-- Count table, token log (token, step) oldest first, and EVICT_STEP (R322). -/
  counts   : Map Nat := []
  log      : List (Nat × Nat) := []
  evict    : Nat := 0
  full     : Bool := false
  /-- A cut that waits: position, CID and HOST_TAG (R325). -/
  cut      : Option (Nat × Nat) := none
  /-- An END (2) or ABORT (3) that waits for the scan (R278). -/
  ending   : Option Nat := none
  reason   : Nat := 0
  ended    : Bool := false
  applied  : Option Applied := none
  aborted  : Bool := false
  /-- Reported lost by recovery, to enter LOST at the next snapshot (R277, R497). -/
  lost     : Bool := false
  /-- Restored and not yet bound to rings (R496, R532). -/
  restored : Bool := false
  frozen   : Bool := false
  deriving DecidableEq, Repr

/-- An open commit group (R319), by batch row. -/
structure Group where
  slot   : Nat
  chunk  : Bool
  npos   : Nat
  launch : Nat
  writes : List Nat := []
  draws  : List Nat := []
  results : Map Nat := []
  deriving DecidableEq, Repr

/-- An admission queue entry (R287, R288). -/
structure AdmEntry where
  cid      : Nat
  tag      : Nat
  dclass   : Nat
  account  : Nat
  adapter  : Nat × Nat
  pfx      : Nat × Nat
  seed     : U64
  sampler  : Sampler
  left     : Nat
  promptAt : Nat
  resume   : Option Nat
  inRing   : Option Nat
  outRing  : Option Nat
  partner  : Option (Nat × Nat)
  ttl      : Nat
  arrival  : Nat
  since    : Nat
  inOrder  : Bool := true
  deriving DecidableEq, Repr

/-- A mirror entry held for a slot of another quadrant (R485): the record's fields, the token log, the admission block. -/
structure MirrorEntry where
  dseq   : Nat
  step   : Nat := 0
  pos    : Nat := 0
  left   : Nat := 0
  epoch  : Nat := 0
  frame  : Nat := 0
  d0     : Nat := 0
  block  : List Byte := []
  counts : Map Nat := []
  log    : List (Nat × Nat) := []
  evict  : Nat := 0
  full   : Bool := false
  /-- The adapter and prefix slots of this device bound for it (R257). -/
  adapter : Option Nat := none
  pfx     : Option Nat := none
  deriving DecidableEq, Repr

/-! ### Ingest -/

/-- A residency record (R248, R249): the manifest words, its pieces (core, residency index, first unit, units, digest), its
slot of the adapter or prefix table, its state and the drip of the last matching recheck. -/
structure ShardRec where
  words  : List U64
  pieces : List (Nat × Nat × Nat × Nat × List Byte)
  slot   : Option Nat := none
  live   : Bool := false
  bad    : Bool := false
  checked : Nat := 0
  rechecks : Nat := 0
  bytes  : Nat := 0
  deriving DecidableEq, Repr

/-- The settings a queue pair was opened with (R267): the target's address and configuration registers. -/
structure QueuePair where
  addr : Nat × Nat := (0, 0)
  cfg  : U64 := 0
  deriving DecidableEq, Repr

/-- A load in progress (R232): the manifest, its placements, its command, the stored form received so far, and the queue
pair's target port, READs outstanding, limit and retries (R238). -/
structure LoadSt where
  words   : List U64
  places  : List U64
  cid     : Nat
  tag     : Nat
  slot    : Option Nat := none
  stored  : List Byte := []
  asked   : Nat := 0
  port    : Nat := 0
  pair    : QueuePair := {}
  outst   : List (Nat × Nat × Nat) := []
  limit   : Nat := 16
  marked  : Option Nat := none
  /-- The record the load makes when it becomes live at the next launch (R232). -/
  ready   : Option ShardRec := none
  /-- A refetch of a live shard (R251), which posts no completion. -/
  refetch : Bool := false
  deriving DecidableEq, Repr

/-! ### Recovery -/

/-- What is still to be done before a quadrant's repair is ready (R491): moved positions (virtual core, old and new physical
core, contents lost) whose crystal or flow copies are outstanding. -/
structure Moved where
  v    : Nat
  old  : Nat
  new  : Nat
  lost : Bool
  crystal : Bool := true
  flow : Bool := true
  /-- Mirrored ranges copied from the partner images: address and bytes (R491). -/
  fill : List (Nat × List Byte) := []
  deriving DecidableEq, Repr

/-- One quadrant. -/
structure QuadSt where
  /-- The supervisor's fault queue of at most 64 records, oldest first (R123). -/
  faultQ   : List (List U64) := []
  /-- The supervisor's signal queue: tag, virtual core, epoch (R101). -/
  sigQ     : List (Nat × Nat × Nat) := []
  /-- The 24 GiB HBM stack (R215) and the addresses of its words known uncorrectable (R224). -/
  hbm      : Mem := []
  hbmBad   : List Nat := []
  /-- The plan, its launch rules and the notice held (R22, R41, R42). -/
  plan     : Option Plan := none
  rule     : LaunchRule := {}
  /-- The plan origin L0 (R24, R296) and the switch epoch kv that the batch-row groups count from (R271). -/
  origin   : Nat := 0
  kv       : Nat := 0
  /-- The rules in force before the present one since the origin, newest first, each with its kv: what a core late at a switch still
  launches by (R25, R42, R50, R72). -/
  past     : List (LaunchRule × Nat) := []
  notice   : Option VarNotice := none
  /-- A plan whose unload waits for the next launch: FORCE, CID, HOST_TAG (R649). -/
  unload   : Option (Bool × Nat × Nat × Nat) := none
  master   : Bool := false
  /-- Sequence slots, open groups by row, the sampler's queue of signal-table entries and the draw in service (R268, R319). -/
  slots    : Map SlotSt := []
  groups   : Map Group := []
  drawQ    : List Nat := []
  serving  : Option (Nat × Option Nat) := none
  /-- The admission queue by entry index, and the count of ADMITs applied (R287, R288). -/
  adm      : Map AdmEntry := []
  admits   : Nat := 0
  /-- The status word last written (R293). -/
  status   : Option Nat := none
  /-- Last refilled period of each account (R296). -/
  periods  : Map Nat := []
  /-- S of the last switch notice this master sent (R44). -/
  announced : Nat := 0
  /-- Variant requested by the host (R300), policy sustain counts (R301), load reports by stamp (R299), the clock of a
  BELOW_FLOOR request in MHz (R38). -/
  request  : Option Nat := none
  sustain  : Map Nat := []
  reports  : List (Nat × List Nat) := []
  below    : Option Nat := none
  /-- Mirror entries held for the quadrant whose partner this is, by slot (R485). -/
  mirrors  : Map MirrorEntry := []
  /-- Ingest (R231 to R253). -/
  shards   : List ShardRec := []
  load     : Option LoadSt := none
  /-- The drip a recheck began at, whether the next one has fallen due before its end, and the drip the last one fell due (R250). -/
  recheck  : Option Nat := none
  recheckDue : Bool := false
  recheckAt : Option Nat := none
  /-- Slots of loads that failed, FREE at the next launch: slot, prefix (R255). -/
  failed   : List (Nat × Bool) := []
  /-- The generation of each shard that the base words of the plan name (R252, R253). -/
  inUse    : Map Nat := []
  /-- Every live crystal shard is rechecked before the loader accepts a plan (R562). -/
  mustCheck : Bool := false
  /-- RETIRING slots with the command that retires them: slot, CID, HOST_TAG, prefix (R255). -/
  retired  : List (Nat × Nat × Nat × Bool) := []
  /-- Virtual cores whose crystal rows wait for re-crystallisation (R208). -/
  recrys   : List Nat := []
  /-- Shards whose refetch waits for the ingest engine (R251): their manifests. -/
  refetch  : List (List U64) := []
  /-- Recovery (R489 to R498). -/
  moved    : List Moved := []
  detour   : Bool := false
  /-- The pending recovery was caused by a rehearsal alone (R502). -/
  rehearsed : Bool := false
  restart  : Option (Nat × Nat) := none
  /-- The first launch of the plan, or of its present origin, has taken place (R25, R43). -/
  begun    : Bool := false
  weight   : Option Nat := none
  /-- Repairs the partition master waits for: global ID × 4 + quadrant, and whether it is ready (R492). -/
  repairs  : List (Nat × Bool) := []
  portCord : Bool := false
  /-- Fabric bank work prepared for the swap (R352). -/
  prepared : Bool := false
  /-- The fabric cycle of the latest bank swap (R352). -/
  swapped  : Option Nat := none
  /-- Notices of discarded flits posted this epoch, by TAG (R349, R413), and key records by port and key (R405). -/
  noticed  : List Nat := []
  keyRecs  : List (Nat × Nat) := []
  /-- Elastic windows (R419). -/
  wins     : Map WinSt := []
  /-- Bridge lanes idled by a cordon (R475). -/
  idled    : Bool := false
  asleep   : Bool := false
  /-- Held in reset by the fault of one of its power domains (R593). -/
  heldReset : Bool := false
  deriving DecidableEq, Repr

/-- The plan's variants, none loaded giving none. -/
def QuadSt.variants (x : QuadSt) : List Variant := match x.plan with | some p => p.variants | none => []

end Sys2Proof.Machine
end

