-- ==== Sys2Proof/Machine/KeeperTypes.lean ====
section
/-! DEFINITION. The state of the keeper beside its registers (R544 to R577, R637 to R653): its loader, flash, firmware images,
resets in progress, bring-up, live updates and the sideband, as plain data. -/
namespace Sys2Proof.Machine

/-- A PLAN_START that has not completed (R648): the master's quadrant, its function, CID, HOST_TAG and report address, when it was
applied, and whether the barrier has released. -/
structure StartSt where
  quad   : Nat
  fn     : Nat
  cid    : Nat
  tag    : Nat
  report : Nat
  since  : Nat
  released : Bool := false
  deriving DecidableEq, Repr

/-! ### Flash (R545, R546) -/

/-- A flash record in its two copies, each with its sequence number; none for an invalid copy (R546)
(DESIGN CHOICE, log entry 38). -/
structure Copies (α : Type) where
  c0 : Option (Nat × α) := none
  c1 : Option (Nat × α) := none
  deriving DecidableEq, Repr

/-- The valid copy with the higher sequence number. -/
def Copies.newest {α : Type} (c : Copies α) : Option (Nat × α) :=
  match c.c0, c.c1 with
  | some a, some b => if a.1 < b.1 then some b else some a
  | some a, none => some a
  | none, b => b

/-- The data of the copy in use. -/
def Copies.use {α : Type} (c : Copies α) : Option α := c.newest.map (·.2)

/-- A record changed: the other copy erased and programmed with the sequence number raised by 1. -/
def Copies.put {α : Type} (c : Copies α) (x : α) : Copies α :=
  match c.c0, c.c1 with
  | some a, some b => if a.1 < b.1 then { c with c0 := some (b.1 + 1, x) } else { c with c1 := some (a.1 + 1, x) }
  | some a, none => { c with c1 := some (a.1 + 1, x) }
  | none, some b => { c with c0 := some (b.1 + 1, x) }
  | none, none => { c with c0 := some (0, x) }

/-- The boot record (R546): the banks to boot, 0 for A. -/
structure BootRec where
  keeper : Nat := 0
  sup    : Nat := 0
  deriving DecidableEq, Repr

/-- The installation data (R538, R553, R567, R630, R661): values of RWL registers by storage key, the I²C address, the fabric
reset key and the debug key (x then y, 48 bytes each). Its layout in flash is not the spec's. -/
structure Install where
  rwl      : Map U64 := []
  i2c      : Option Nat := none
  resetKey : List Byte := []
  debugKey : List Byte := []
  deriving DecidableEq, Repr

/-- The flash: images by kind × 2 + bank (kind 0 keeper, 1 supervisor), installation data, spare map by row, boot record. -/
structure FlashSt where
  images  : Map (List Byte) := []
  install : Copies Install := { c0 := some (0, {}) }
  spare   : Copies (Map U64) := { c0 := some (0, []) }
  boot    : Copies BootRec := {}
  deriving DecidableEq, Repr

/-- A flash program or erase in progress (R552, R571): an image for a bank, or a boot record, with the command it completes. -/
inductive FlashOp where
  | image (kind bank : Nat) (bytes : List Byte) (cid tag : Nat)
  | record (r : BootRec) (cid tag : Nat)
  deriving DecidableEq, Repr

/-! ### Resets (R548 to R555) -/

/-- A reset: RST_CAUSE.CODE, SCOPE (0 cold, 1 warm, 2 quadrant), the quadrants and DETAIL. -/
structure ResetReq where
  code   : Nat
  scope  : Nat
  mask   : Nat := 0
  detail : Nat := 0
  deriving DecidableEq, Repr

/-- A live update (R572, R573): what it still has to update, its command, the switch epoch, the quadrants that have changed bank,
the window asked for and the restart in progress. -/
structure LiveSt where
  sup     : Bool
  keeper  : Bool
  cid     : Nat
  tag     : Nat
  kf      : Option Nat := none
  changed : List Nat := []
  asked   : Bool := false
  restart : Bool := false
  deriving DecidableEq, Repr

/-- The sideband (R538, R539): the I3C dynamic address, in-band interrupts enabled, alert causes and enables, and whether ALERT_N
is driven low. -/
structure SideSt where
  addr    : Option Nat := none
  ibi     : Bool := false
  causes  : Nat := 0
  enables : Nat := 0x1F
  low     : Bool := false
  deriving DecidableEq, Repr

/-- The keeper. -/
structure KeeperSt where
  /-- PLAN_LOADs taken from a ring and handed to the loader (R641): the function and the command's words. -/
  loads    : List (Nat × List U64) := []
  start    : Option StartSt := none
  /-- Round-trip times reported by the partition's members (R645): time × 64 + slot scale, by global ID × 16 + port. -/
  rtts     : Map Nat := []
  /-- The physical core under self-test for a release (R505). -/
  testing  : List Nat := []
  flash    : FlashSt := {}
  /-- The voltage at CFG_SENSE in µV (R556); an open pin stands at the clamp. -/
  cfgUv    : Nat := 1600000
  /-- The auxiliary input is valid (R549). -/
  powered  : Bool := true
  /-- The host-loaded image window (R567). -/
  window   : Mem := []
  /-- The running keeper and supervisor images (R566 to R568). -/
  image    : Option (List Byte) := none
  supImage : Option (List Byte) := none
  /-- T0 has been reached in this bring-up (R558), how many of the 37 domains have started, and whether it is a warm one (R561). -/
  t0       : Bool := false
  started  : Nat := 0
  warm     : Bool := false
  /-- PERST# has risen on a link (R559): by link, the HIF_LINK_STAT value its training gives. -/
  links    : Map Nat := []
  /-- The last remote-reset nonce accepted (R553). -/
  nonce    : Option Nat := none
  flashOp  : Option FlashOp := none
  held     : Option ResetReq := none
  heldMany : Bool := false
  /-- A block reset in progress (R554): block and index. -/
  block    : Option (Nat × Nat) := none
  live     : Option LiveSt := none
  /-- End of an update window this device's keeper has granted as partition master (R573). -/
  window'  : Nat := 0
  /-- Cordons that fell due during a live restart (R573): kind, unit, reason, rehearsal. -/
  due      : List (Nat × Nat × Nat × Bool) := []
  side     : SideSt := {}
  deriving DecidableEq, Repr

end Sys2Proof.Machine
end

