-- ==== Sys2Proof/Machine/PowerTypes.lean ====
section
/-! DEFINITION. The state of the current governor, the power ceiling and the thermal governors beside their registers (R594 to
R604), as plain data. -/
namespace Sys2Proof.Machine

/-- The governors. -/
structure PowerSt where
  /-- Input current of the last sample and ballast in it, in units of 1/6,400 A (R594). -/
  current : Nat := 0
  ballast : Nat := 0
  /-- The declared current ballast is raised to before a plan's first launch, in the same units (R597). -/
  target  : Nat := 0
  /-- Samples in a row at or below the backstop's ceiling (R596). -/
  calm    : Nat := 0
  /-- Steps of the device power cap taken by the backstop and by the power ceiling, each raised again by its own rule. -/
  back    : Nat := 0
  ceil    : Nat := 0
  /-- Milliseconds in a row below 95 % of the power ceiling (R598). -/
  below   : Nat := 0
  /-- Thermal cap steps by scope (R601): 0 to 15 row-pairs, 16 to 19 quadrants, 20 the device; 40 when not listed. -/
  caps    : Map Nat := []
  /-- Sensors whose last reading was at or above their trip limit (R603). -/
  hot     : List Nat := []
  /-- Sensors whose last self-check failed (R604). -/
  invalid : List Nat := []
  /-- The trip latch (R603). -/
  tripped : Bool := false
  /-- The storage ports' and the echo port's domains lost to a fault until the next device reset (R593). -/
  lost    : List Nat := []
  deriving DecidableEq, Repr

end Sys2Proof.Machine
end

