-- ==== Sys2Proof/Machine/TimeTypes.lean ====
section
/-! DEFINITION. The state of the timebase and of the snap barrier beside their registers (R448 to R466), as plain data. -/
namespace Sys2Proof.Machine

/-- A SNAP symbol seen (R463): its EVENT, its CODE and when. -/
structure Seen where
  event : Nat
  code  : Nat
  at'   : Nat
  deriving DecidableEq, Repr

/-- The timebase of a device. Offsets are held doubled, in half sixty-fourths of a drip (R455). -/
structure TimeSt where
  /-- Offsets of the last 16 valid exchanges with the parent (R456), newest first. -/
  thetas  : List Int := []
  /-- Consecutive valid exchanges within 0.25 drip, and beyond 16 drips (R457). -/
  good    : Nat := 0
  far     : Nat := 0
  /-- Consecutive skipped exchanges with the parent (R458). -/
  skips   : Nat := 0
  /-- The counter was stepped since ACQUIRE was entered (R457). -/
  stepped : Bool := false
  /-- End of the stratum-127 hold (R458). -/
  hold    : Option Nat := none
  /-- The parent's port in RETRAIN, and since when (R458). -/
  retrain : Option (Nat × Nat) := none
  /-- When HOLDOVER was entered, and the bound then in thousandths of a sixty-fourth (R459). -/
  lostAt  : Nat := 0
  lostBound : Nat := 0
  /-- When a grandmaster key was last advertised, or the first port entered ACTIVE (R451). -/
  keySeen : Nat := 0
  /-- ARRIVE received for the present barrier, by port (R464). -/
  arrived : List Nat := []
  /-- Event counts that wait: RELEASE, EPOCH0 (R462). -/
  release : Option Nat := none
  epoch0  : Option Nat := none
  /-- This device raised the hold itself and launches no further epoch (R466). -/
  holdNow : Bool := false
  /-- The hold count has been reached and acted on (R494). -/
  holdFired : Bool := false
  /-- The device reference was lost while the device followed a parent (R681). -/
  refLost : Bool := false
  /-- SNAP symbols received within 2^26 drips (R463). -/
  seen    : List Seen := []
  /-- Load-late reports the partition master's keeper holds (R24): global ID, quadrant mask, drip count. -/
  loadLate : List (Nat × Nat × Nat) := []
  deriving DecidableEq, Repr

end Sys2Proof.Machine
end

