-- ==== Sys2Proof/Machine/TraceTypes.lean ====
section
/-! DEFINITION. The state of telemetry, the echo trace, hang analysis, tensor dumps, debug unlock and the test access port beside
their registers (R613 to R636, R680), as plain data. -/
namespace Sys2Proof.Machine

/-- A record in a trace memory (R618): its words (4, or 8 for a telemetry record), and whether it may no longer be overwritten
(R622). -/
structure TraceEnt where
  words : List U64
  keep  : Bool := false
  deriving DecidableEq, Repr

/-- The trace memory of a quadrant (R618 to R623): its records, oldest first; the records each source has dropped with the DRIP of the
first (R620); whether its trigger marker has been written; its closing gap marker; and records the port has sent of its frozen contents.
-/
structure TraceMem where
  ents   : List TraceEnt := []
  drops  : Map (Nat × Nat) := []
  marked : Bool := false
  closed : Bool := false
  sent   : Nat := 0
  deriving DecidableEq, Repr

/-- The telemetry ring (R617): base, size, consumer-count address, records written, the consumer count as last polled. -/
structure TelRing where
  base     : Nat
  size     : Nat
  consAddr : Nat
  written  : Nat := 0
  consumed : Nat := 0
  deriving DecidableEq, Repr

/-- A hang report being assembled (R628): its command (none for a report of the keeper's own), where it goes, the record limit,
the device depth, the edges found, edges lost, devices visited, and the devices whose reply is awaited with their depth. -/
structure HangSt where
  cmd     : Option (Nat × Nat) := none
  addr    : Nat := 0
  limit   : Nat := 256
  hops    : Nat := 8
  since   : Nat := 0
  edges   : List (List U64) := []
  visited : List Nat := []
  asked   : List (Nat × Nat) := []
  deriving DecidableEq, Repr

/-- A tensor dump in progress (R627): its function and command, where it goes, the symbol, the slot and step or the epoch, and whether
a dump variant captures it. -/
structure DumpSt where
  fn     : Nat
  cid    : Nat
  tag    : Nat
  quad   : Nat
  addr   : Nat
  symbol : Nat
  slot   : Option Nat
  step   : Nat
  stable : Bool
  /-- The variant to return to, and whether the step's commit has been scanned, or the epoch has run. -/
  back   : Nat := 0
  copying : Bool := false
  deriving DecidableEq, Repr

/-- Observation. -/
structure TraceSt where
  mems     : Map TraceMem := []
  /-- Frames sent, the frame sequence number (R625), and the quadrant served last. -/
  frameNo  : Nat := 0
  turn     : Nat := 3
  tel      : Option TelRing := none
  /-- Telemetry records dropped since the last gap record, with S of the first sample that lost one; and since the last sample. -/
  lost     : Nat := 0
  lostAt   : Nat := 0
  lostNow  : Nat := 0
  hang     : Option HangSt := none
  lastHang : Option (List (List U64)) := none
  /-- A watchdog has fired or an overrun was recorded: the keeper takes a report of its own at its next poll (R628). -/
  hangDue  : Bool := false
  dump     : Option DumpSt := none
  /-- The current unlock nonce (R630). -/
  nonce    : Option Nat := none
  deriving DecidableEq, Repr

/-- The states of the IEEE 1149.1 controller. -/
inductive TapState where
  | reset | idle
  | selectDr | captureDr | shiftDr | exit1Dr | pauseDr | exit2Dr | updateDr
  | selectIr | captureIr | shiftIr | exit1Ir | pauseIr | exit2Ir | updateIr
  deriving DecidableEq, Repr

/-- The test access port (R560, R630, R680): its state, the shift register, the instruction (none for BYPASS), and TDO (none
while it is high impedance). -/
structure TapSt where
  state : TapState := .reset
  shift : List Bool := []
  instr : Option (List Bool) := none
  tdo   : Option Bool := none
  deriving DecidableEq, Repr

end Sys2Proof.Machine
end

