-- ==== Sys2Proof/Machine/State.lean ====
section
/-! DEFINITION. The state of the KN72 as plain data, the reasons a step can stop, and the state after power-on reset. -/
namespace Sys2Proof.Machine

/-- Why a step stops with a fault: no reason. The spec stops the whole device for nothing; every error it names (an
exception, a fault record, a reset, a cordon) is a next state, and a command the present state does not allow leaves the
state as it is (log entry 1). -/
inductive Fault where
  deriving DecidableEq, Repr

/-- Why a step refuses a command. -/
inductive Refusal where
  /-- Raised by the dispatch alone, for a command that has no meaning yet (none is left): safe, nothing is claimed of it. -/
  | notModelled (mnemonic : String)
  deriving DecidableEq, Repr

/-- The whole device. -/
structure State where
  /-- The registers that are not a core's own, by register and device-wide index. -/
  regs    : RegFile := []
  /-- The 288 physical cores, by (quadrant × 8 + row) × 9 + column (R8). -/
  cores   : Map CoreSt := []
  /-- The four quadrants. -/
  quads   : Map QuadSt := []
  /-- The five PCIe functions (R514). -/
  funcs   : Map FuncSt := []
  /-- The twelve Jalben ports (R11). -/
  ports   : Map PortSt := []
  /-- Flits that wait in the routers, by (router × 5 + input) × 3 + channel: 0 requests, 1 responses, 2 service
  (R345, R346). -/
  mesh    : Map (List MeshFlit) := []
  /-- The output that the elastic packet under way at an input takes, by the same index (R345). -/
  meshRoute : Map Nat := []
  /-- The input, plus 1, whose packet an output's elastic channel has started, by (router × 5 + output) × 2 + channel (R418). -/
  meshOwner : Map Nat := []
  /-- The spare map in effect for accesses by virtual core id, by quadrant × 8 + row (R478, R659). -/
  outEff  : Map Nat := []
  /-- The timebase and the snap barrier (R448 to R466). -/
  time    : TimeSt := {}
  /-- The keeper with its loader, flash, firmware images and the sideband (R537 to R577, R637 to R653). -/
  keeper  : KeeperSt := {}
  /-- The current, power and thermal governors (R594 to R604). -/
  power   : PowerSt := {}
  /-- Telemetry, trace, hang analysis, dumps and debug unlock (R613 to R636). -/
  trace   : TraceSt := {}
  /-- The test access port (R680). -/
  tap     : TapSt := {}
  /-- What has left the device, oldest first (the model's own record). -/
  out     : List Out := []
  /-- The count that free values are drawn with (the model's own). -/
  free    : Nat := 0
  /-- Commands waiting, first in first out. -/
  pending : List Instr := []
  deriving DecidableEq, Repr

/-- The device right after power-on reset: every register at the reset value of the index (a register that nothing has written
is not listed), every memory, queue and table empty, flash as log entry 4 says, no command waiting. -/
def State.reset : State := {}

end Sys2Proof.Machine
end

