-- ==== Sys2Proof/Machine/Ops.lean ====
section
/-! DEFINITION. The named operations over the device's state: its registers, cores, quadrants and functions, the virtual
grid (R8 to R10, R478), the drip count, what leaves the device, completions and notices (R521, R526, R529). -/
namespace Sys2Proof.Machine

/-! ### Registers -/

/-- A register that is not a core's own, as stored. -/
def State.reg (s : State) (r : Reg) (i : Nat) : U64 := s.regs.read r i
/-- Such a register replaced. -/
def State.setReg (s : State) (r : Reg) (i : Nat) (v : U64) : State := { s with regs := s.regs.write r i v }
/-- A field of such a register. -/
def State.fld (s : State) (r : Reg) (i hi lo : Nat) : Nat := bitsOf (s.reg r i) hi lo
/-- A field replaced. -/
def State.setFld (s : State) (r : Reg) (i hi lo v : Nat) : State := s.setReg r i (putBits (s.reg r i) hi lo v)
/-- A one-bit field. -/
def State.bit (s : State) (r : Reg) (i k : Nat) : Bool := bitAt (s.reg r i) k
/-- A one-bit field replaced. -/
def State.setBit (s : State) (r : Reg) (i k : Nat) (b : Bool) : State := s.setReg r i (putBit (s.reg r i) k b)
/-- A saturating count raised. -/
def State.bump (s : State) (r : Reg) (i hi lo n : Nat) : State :=
  s.setFld r i hi lo (satAdd (2 ^ (hi + 1 - lo) - 1) (s.fld r i hi lo) n)
/-- A wrapping count raised. -/
def State.bumpWrap (s : State) (r : Reg) (i hi lo n : Nat) : State := s.setFld r i hi lo (s.fld r i hi lo + n)

/-! ### Parts -/

/-- Physical core p. -/
def State.core (s : State) (p : Nat) : CoreSt := Map.get (α := CoreSt) s.cores p {}
/-- Physical core p replaced. -/
def State.setCore (s : State) (p : Nat) (c : CoreSt) : State := { s with cores := Map.set (α := CoreSt) s.cores p c }
/-- Physical core p changed by a function. -/
def State.modCore (s : State) (p : Nat) (f : CoreSt → CoreSt) : State := s.setCore p (f (s.core p))
/-- Quadrant q. -/
def State.quad (s : State) (q : Nat) : QuadSt := Map.get (α := QuadSt) s.quads q {}
/-- Quadrant q replaced. -/
def State.setQuad (s : State) (q : Nat) (x : QuadSt) : State := { s with quads := Map.set (α := QuadSt) s.quads q x }
/-- Quadrant q changed by a function. -/
def State.modQuad (s : State) (q : Nat) (f : QuadSt → QuadSt) : State := s.setQuad q (f (s.quad q))
/-- Function f. -/
def State.func (s : State) (f : Nat) : FuncSt := Map.get (α := FuncSt) s.funcs f {}
/-- Function f replaced. -/
def State.setFunc (s : State) (f : Nat) (x : FuncSt) : State := { s with funcs := Map.set (α := FuncSt) s.funcs f x }
/-- Function f changed by a function. -/
def State.modFunc (s : State) (f : Nat) (g : FuncSt → FuncSt) : State := s.setFunc f (g (s.func f))
/-- Something leaves a unit of the device. -/
def State.send (s : State) (o : Out) : State := { s with out := s.out ++ [o] }
/-- A fresh free value and the state with the counter advanced. -/
def State.fresh (s : State) : U64 × State := (Config.freeWord s.free, { s with free := s.free + 1 })

/-- A function applied for each element of a list, left to right. -/
def State.each {α : Type} (s : State) (l : List α) (f : State → α → State) : State := l.foldl f s

/-! ### Time -/

/-- The drip count the device last saw (R448). -/
def State.now (s : State) : Nat := (s.reg .TB_COUNT 0).toNat
/-- The drip count brought to `t` when it lies ahead: a timed command carries the drip it happens at. -/
def State.at' (s : State) (t : Nat) : State :=
  if s.now < t then s.setReg .TB_COUNT 0 (BitVec.ofNat 64 t) else s

/-! ### The virtual grid -/

/-- Physical columns of a row outside the virtual grid, as they are in effect (R478, R659). -/
def State.outMask (s : State) (q r : Nat) : Nat := Map.get (α := Nat) s.outEff (q * 8 + r) 0x100
/-- The physical columns of a row inside the grid, from west to east. -/
def insideCols (mask : Nat) : List Nat := (List.range 9).filter (fun c => !mask.testBit c)
/-- The physical core number of (quadrant, row, column) (R508). -/
def physIndex (q r c : Nat) : Nat := q * 72 + r * 9 + c
/-- The physical core of a virtual core id under an OUT mask; none for an id that names no core (R9, R478). -/
def physUnder (mask v : Nat) : Option Nat :=
  ((insideCols mask)[v % 8]?).map (physIndex (v / 64) (v % 64 / 8))
/-- The physical core of a virtual core id now. -/
def State.phys (s : State) (v : Nat) : Option Nat := physUnder (s.outMask (v / 64) (v % 64 / 8)) v
/-- The virtual core id of a physical core now; none for a spare. -/
def State.virtOf (s : State) (p : Nat) : Option Nat :=
  let q := p / 72
  let r := p % 72 / 9
  let c := p % 9
  let cols := insideCols (s.outMask q r)
  if cols.contains c then
    let j := (cols.takeWhile (fun x => x ≠ c)).length
    if j < 8 then some (q * 64 + r * 8 + j) else none
  else none
/-- The core behind a virtual core id. -/
def State.vcore (s : State) (v : Nat) : Option CoreSt := (s.phys v).map s.core
/-- The virtual core ids of a quadrant that name a core. -/
def State.virtCores (s : State) (q : Nat) : List Nat := (rangeFrom (64 * q) 64).filter (fun v => (s.phys v).isSome)
/-- The physical cores of a quadrant. -/
def physCores (q : Nat) : List Nat := rangeFrom (72 * q) 72

/-- The core behind a virtual core id changed by a function. -/
def State.onCoreReg (s : State) (v : Nat) (f : CoreSt → CoreSt) : State :=
  match s.phys v with
  | none => s
  | some p => s.modCore p f
/-- OUT of a row as the keeper records it (R507). -/
def State.rowOut (s : State) (q r : Nat) : Nat := s.fld .KPR_SPARE_ROW (q * 8 + r) 8 0
/-- FAILED of a row. -/
def State.rowFailed (s : State) (q r : Nat) : Nat := s.fld .KPR_SPARE_ROW (q * 8 + r) 17 9

/-- The keeper keeps a row of the spare map in flash (R478, R546). -/
def State.saveSpare (s : State) (i : Nat) : State :=
  let f := s.keeper.flash
  let rows := Map.set (α := U64) (f.spare.use.getD []) i (s.reg .KPR_SPARE_ROW i)
  { s with keeper := { s.keeper with flash := { f with spare := f.spare.put rows } } }

/-- A reset recorded in RST_CAUSE (R549, R574). -/
def State.noteReset (s : State) (code scope detail : Nat) (many held : Bool) : State :=
  let s := ((s.setFld .RST_CAUSE 0 3 0 code).setFld .RST_CAUSE 0 6 4 scope).setBit .RST_CAUSE 0 7 many
  ((s.setBit .RST_CAUSE 0 8 held).setFld .RST_CAUSE 0 23 16 detail).bump .RST_CAUSE 0 47 32 1

/-! ### Facts of the device -/

/-- The device's 20-bit global ID (R399, R430). -/
def State.globalId (s : State) : Nat := s.fld .KPR_FABRIC_ID 0 19 0
/-- Does a quadrant run a plan (R45). -/
def State.runs (s : State) (q : Nat) : Bool := s.bit .QD_VARIANT q 3
/-- The epoch index a quadrant runs (R45). -/
def State.epoch (s : State) (q : Nat) : Nat := (s.reg .QD_EPOCH_INDEX q).toNat
/-- The variant a quadrant runs, when its plan is loaded (R22). -/
def State.variant (s : State) (q : Nat) : Option Variant := (s.quad q).variants[s.fld .QD_VARIANT q 2 0]?
/-- The launch count of epoch k under a launch rule (R25, R42). -/
def LaunchRule.launch (r : LaunchRule) (vs : List Variant) (k : Nat) : Nat :=
  r.at' + (k - r.first) * ((vs[r.variant]?).map (·.epochLen)).getD 0

/-! ### Completions and notices -/

/-- Unreserved places free in a function's completion queue (R521): 1,792 less the places reserved and the entries that
hold none. -/
def FuncSt.placesFree (f : FuncSt) : Nat :=
  1792 - f.reserved - (f.queue.filter (fun c => !c.slotPlace && !c.reserved)).length

/-- A completion put into a function's internal queue. -/
def State.complete (s : State) (f : Nat) (c : Completion) : State :=
  s.modFunc f (fun x => { x with queue := x.queue ++ [c] })

/-- A completion that holds no reservation, dropped and counted when no place is free (R521). A function that is not
enabled holds no queue (R540; log entry 8). -/
def State.offer (s : State) (f : Nat) (c : Completion) : State :=
  if s.bit .HIF_CTRL f 0 && decide (0 < (s.func f).placesFree) then s.complete f c
  else s.bump .HIF_STAT f 31 16 1

/-- A notice (R529): to the function of the quadrant it names and a copy to the management function. -/
def State.notice (s : State) (q : Option Nat) (code a0 a1 : Nat) (rehearse : Bool := false) : State :=
  let c : Completion := { kind := 9, rehearse := rehearse, quad := q.getD 0, status := code, arg0 := a0, arg1 := a1 }
  match q with
  | some k => (s.offer k c).offer 4 c
  | none => s.offer 4 c

/-- A 32-bit little-endian half of a doorbell or list word. -/
def word32 (l : List Byte) (i : Nat) : Nat := ofLe ((l.drop (4 * i)).take 4)
/-- A 64-bit little-endian word of a byte string. -/
def word64 (l : List Byte) (i : Nat) : Nat := ofLe ((l.drop (8 * i)).take 8)

end Sys2Proof.Machine
end

