-- ==== Sys2Proof/Machine/HbmOps.lean ====
section
/-! DEFINITION. The operations over a quadrant's HBM stack (R217 to R224, R228, R230): reads and writes, uncorrectable words, what the
controller finds. -/
namespace Sys2Proof.Machine

/-- Known uncorrectable HBM words inside a range. -/
def QuadSt.badWords (x : QuadSt) (a n : Nat) : List Nat := x.hbmBad.filter (fun b => decide (a < b + 8 ∧ b < a + n))

/-- Uncorrectable words met by the controller (R224): QD_HBM_ERR holds the last, UE is set. -/
def State.hbmError (s : State) (q : Nat) (ws : List Nat) : State :=
  match ws.getLast? with
  | none => s
  | some a => (s.setReg .QD_HBM_ERR q (BitVec.ofNat 64 (a % 2 ^ 40))).setFld .QD_HBM_STAT q 48 48 1

/-- Addresses of 8-byte words found uncorrectable now, kept with those known. -/
def State.noteBadWords (s : State) (q : Nat) (bad : List Nat) : State :=
  s.modQuad q (fun x => { x with hbmBad := x.hbmBad ++ (bad.map (· / 8 * 8)).filter (fun b => !x.hbmBad.contains b) })

/-- What the controller finds in a read taken into account (R223, R224): corrections counted, newly uncorrectable words kept. -/
def State.hbmFinds (s : State) (q : Nat) (f : HbmFinds) : State :=
  ((s.bump .QD_HBM_STAT q 31 0 f.sec).bump .QD_HBM_STAT q 47 32 f.ondie).noteBadWords q f.bad

/-- Device traffic over an HBM range: uncorrectable words it meets are reported (R224, R228). -/
def State.hbmTraffic (s : State) (q a n : Nat) : State := s.hbmError q ((s.quad q).badWords a n)

/-- HBM bytes of a quadrant. -/
def State.hbmRead (s : State) (q a n : Nat) : List Byte := (s.quad q).hbm.readN a n

/-- Bytes that device traffic delivers from HBM (R224): what the stack holds, and a free value for each uncorrectable word, which is
reported (DESIGN CHOICE, log entry 124). -/
def State.hbmDeliver (s : State) (q a n : Nat) : State × List Byte :=
  ((s.quad q).badWords a n).foldl (fun (x : State × List Byte) w =>
    let (v, s) := x.1.fresh
    (s, x.2.zipIdx.map (fun (y : Byte × Nat) =>
      if w ≤ a + y.2 ∧ a + y.2 < w + 8 then BitVec.ofNat 8 (v.toNat / 2 ^ (8 * (a + y.2 - w))) else y.1)))
    (s.hbmTraffic q a n, s.hbmRead q a n)

/-- Bytes stored in a stack (R224): the words they cover are correctable again but for those marked. -/
def QuadSt.store (x : QuadSt) (a : Nat) (b : List Byte) (marked : List Nat := []) : QuadSt :=
  { x with
    hbm := x.hbm.writeN a b
    hbmBad := x.hbmBad.filter (fun w => !decide (a ≤ w ∧ w + 8 ≤ a + b.length)) ++ marked }

/-- HBM bytes written by device traffic. -/
def State.hbmWrite (s : State) (q a : Nat) (b : List Byte) : State := s.modQuad q (fun x => x.store a b)

/-- The SLOW_OUT descriptors a reset of core p cuts off (R230): each 512-byte piece of their HBM bytes is old or new, by free values. -/
def State.cutSlowOut (s : State) (p : Nat) : State :=
  ((s.core p).queue 2).ents.foldl (fun s e => match e.hbm with
    | none => s
    | some (a, bs) => (chunks 512 bs).zipIdx.foldl (fun (s : State) x =>
        let (w, s) := s.fresh
        if w.toNat % 2 = 1 then s.hbmWrite (p / 72) (a + 512 * x.2) x.1 else s) s) s

/-- Is slot i of the frame a controller slot (R218). -/
def controllerSlot (i : Nat) : Bool := decide (i * 615 / 4096 < (i + 1) * 615 / 4096)

end Sys2Proof.Machine
end

