-- ==== Sys2Proof/Machine/Packets.lean ====
section
/-! DEFINITION. Elastic packets (R415, R416): header fields, lengths, and their bytes. -/
namespace Sys2Proof.Machine

/-- TYPE: 0 write request, 1 read request, 2 write acknowledgement, 3 read data. -/
def pkType (p : Packet) : Nat := bitsOf p.w0 1 0
/-- STATUS of a response. -/
def pkStatus (p : Packet) : Nat := bitsOf p.w0 3 2
/-- FLAGGED. -/
def pkFlagged (p : Packet) : Bool := bitAt p.w0 4
/-- ROUTE. -/
def pkRoute (p : Packet) : Nat := bitsOf p.w0 7 5
/-- DST_VCORE. -/
def pkDstCore (p : Packet) : Nat := bitsOf p.w0 15 8
/-- DST_ID. -/
def pkDst (p : Packet) : Nat := bitsOf p.w0 35 16
/-- SRC_ID. -/
def pkSrc (p : Packet) : Nat := bitsOf p.w0 55 36
/-- SRC_VCORE. -/
def pkSrcCore (p : Packet) : Nat := bitsOf p.w0 63 56
/-- PKEY. -/
def pkKey (p : Packet) : Nat := bitsOf p.w1 15 0
/-- REQ_ID. -/
def pkReq (p : Packet) : Nat := bitsOf p.w1 31 16
/-- DST_WIN. -/
def pkWin (p : Packet) : Nat := bitsOf p.w1 41 32
/-- PKT. -/
def pkIndex (p : Packet) : Nat := bitsOf p.w1 47 42
/-- HOPS. -/
def pkHops (p : Packet) : Nat := bitsOf p.w1 55 48
/-- ADDR. -/
def pkAddr (p : Packet) : Nat := bitsOf p.w2 47 0
/-- GROUP bits [11:0]. -/
def pkGroup (p : Packet) : Nat := bitsOf p.w2 59 48
/-- GROUP bits [15:12]: the event counter. -/
def pkEvent (p : Packet) : Nat := bitsOf p.w2 63 60
/-- Granules of the request. -/
def pkLen (p : Packet) : Nat := bitsOf p.w3 11 0 + 1
/-- GROUP_COUNT. -/
def pkCount (p : Packet) : Nat := bitsOf p.w3 31 16

/-- Packets a request of G granules travels as. -/
def packetsOf (g : Nat) : Nat := (g + 63) / 64
/-- Granules packet i carries. -/
def granulesOf (g i : Nat) : Nat := min 64 (g - 64 * i)
/-- Flits of a packet that carries g granules. -/
def flitsOf (g : Nat) : Nat := (1 + g + 1) / 2
/-- Flits of all data packets of a request of G granules. -/
def dataFlits (g : Nat) : Nat := ((List.range (packetsOf g)).map (fun i => flitsOf (granulesOf g i))).foldl (· + ·) 0
/-- Code units of the packet a header begins: the header, and a granule in each of the others. -/
def packetUnits (p : Packet) : Nat :=
  if (pkType p = 0 ∨ pkType p = 3) ∧ pkStatus p = 0 then 1 + granulesOf (pkLen p) (pkIndex p) else 1
/-- Flits of the packet a header begins. -/
def packetFlits (p : Packet) : Nat := (packetUnits p + 1) / 2

/-- The header bytes of a packet followed by its data. -/
def packetBytes (p : Packet) : List Byte :=
  leBytes 8 p.w0.toNat ++ leBytes 8 p.w1.toNat ++ leBytes 8 p.w2.toNat ++ leBytes 8 p.w3.toNat ++ List.replicate 32 0 ++ p.data
/-- A packet read from its bytes. -/
def packetOf (b : List Byte) : Packet :=
  ⟨BitVec.ofNat 64 (word64 b 0), BitVec.ofNat 64 (word64 b 1), BitVec.ofNat 64 (word64 b 2), BitVec.ofNat 64 (word64 b 3),
   b.drop 64⟩

end Sys2Proof.Machine
end

