-- ==== Sys2Proof/Machine/SeqOps.lean ====
section
/-! DEFINITION. The sequencer's shared operations (R52 to R86): registers, issue, the loop back-edge, exceptions, waits,
pushes and claims (R87 to R103), frames and the epoch-done marker (R76, R27 to R34). -/
namespace Sys2Proof.Machine

/-! ### Registers of the sequencer -/

/-- Scalar register n; s0 reads 0 (R52). -/
def SeqSt.rd (q : SeqSt) (n : Nat) : U64 := if n = 0 then 0 else Map.get (α := U64) q.s n 0

/-- Scalar register n written; a write to s0 is discarded (R52). -/
def SeqSt.wr (q : SeqSt) (n : Nat) (v : U64) : SeqSt :=
  if n = 0 then q else { q with s := Map.set (α := U64) q.s n v }

/-- Address register n. -/
def SeqSt.areg (q : SeqSt) (n : Nat) : AddrReg := Map.get (α := AddrReg) q.a n {}
/-- Address register n replaced. -/
def SeqSt.setAreg (q : SeqSt) (n : Nat) (x : AddrReg) : SeqSt := { q with a := Map.set (α := AddrReg) q.a n x }
/-- Loop count register n. -/
def SeqSt.creg (q : SeqSt) (n : Nat) : BitVec 32 := Map.get (α := BitVec 32) q.c n 0
/-- Loop count register n replaced. -/
def SeqSt.setCreg (q : SeqSt) (n : Nat) (x : BitVec 32) : SeqSt := { q with c := Map.set (α := BitVec 32) q.c n x }
/-- Event counter n. -/
def SeqSt.evc (q : SeqSt) (n : Nat) : BitVec 32 := Map.get (α := BitVec 32) q.ev n 0
/-- Event counter n replaced. -/
def SeqSt.setEvc (q : SeqSt) (n : Nat) (x : BitVec 32) : SeqSt := { q with ev := Map.set (α := BitVec 32) q.ev n x }
/-- Staging buffer n. -/
def SeqSt.stg (q : SeqSt) (n : Nat) : Desc := Map.get (α := Desc) q.t n {}
/-- Staging buffer n replaced. -/
def SeqSt.setStg (q : SeqSt) (n : Nat) (x : Desc) : SeqSt := { q with t := Map.set (α := Desc) q.t n x }

/-- The low 32 bits of a word. -/
def low32 (w : U64) : BitVec 32 := BitVec.ofNat 32 w.toNat

/-- step(off, d) of R58 for an address register: 64-bit signed addition, then 32 bits kept, or the sum reduced into
0 to WRAP − 1. -/
def AddrReg.step (a : AddrReg) (d : Int) : AddrReg :=
  let sum := intOfWord (wordOfInt ((a.off.toNat : Int) + d))
  { a with off :=
      if a.wrap = 0 then BitVec.ofInt 32 sum
      else BitVec.ofNat 32 (sum % (a.wrap.toNat : Int)).toNat }

/-- The effective address BASE + OFF modulo 2^48 (R58). -/
def AddrReg.ea (a : AddrReg) : BitVec 48 := a.base + BitVec.ofNat 48 a.off.toNat

/-- Every item of R52 but the memories cleared, with the program counter at an entry. -/
def SeqSt.restart (q : SeqSt) (entry : Nat) : SeqSt :=
  { prog := q.prog, data := q.data, tmpl := q.tmpl, codeLen := q.codeLen, tmplCount := q.tmplCount,
    pc := entry, run := .issuing }

/-! ### Exceptions -/

/-- A sequencer exception: the sequencer stops, FAULT, CODE and SEQ_FAULT_PC are set, address-stream mode ends, and a
record of kind 0x01 is written (R61, R63, R79). -/
def raiseSeq (c : CoreSt) (code : Nat) : CoreSt × List CoreEvent :=
  let c' := { c with seq := { c.seq with run := .faulted, asActive := false } }
  let c' := (c'.setFld .SEQ_STATUS 0 7 7 1).setFld .SEQ_STATUS 0 15 8 code
  let c' := c'.setReg .SEQ_FAULT_PC 0 (BitVec.ofNat 64 (c.seq.pc % 32768))
  (c', [.record { kind := 0x01, source := 4, detail := code, pc := c.seq.pc }])

/-! ### Issue -/

/-- What an instruction does with the sequencer: it completes; it jumps; it skips a loop body to the given last
instruction; it waits; it raises an exception. -/
inductive SeqRes where
  | ok (q : SeqSt)
  | jump (q : SeqSt) (target : Int)
  | skip (q : SeqSt) (last : Nat)
  | wait (q : SeqSt) (w : Wait)
  | exc (code : Nat)

/-- Instructions that exist: 32,768, or the loaded code length (R52, R60; log entry 6). -/
def SeqSt.limit (q : SeqSt) : Nat :=
  match q.codeLen with
  | some n => min n 32768
  | none => 32768

/-- The loop back-edge (R65, R67): the inner level first, and a finished level lets the next one's end be judged. -/
def loopEnd : List LoopLevel → Nat → List LoopLevel × Nat
  | [], last => ([], last + 1)
  | l :: ls, last =>
    if l.last = last then
      (if l.index + 1 < l.count then ({ l with index := l.index + 1 } :: ls, l.first) else loopEnd ls last)
    else (l :: ls, last + 1)

/-- The program counter moved to a target, or exception 0x02 of the present instruction (R60). -/
def seqGoto (c : CoreSt) (q : SeqSt) (target : Int) : CoreSt × List CoreEvent :=
  if 0 ≤ target ∧ target < (q.limit : Int) then
    ({ c with seq := { q with pc := target.toNat, run := .issuing } }, [])
  else raiseSeq { c with seq := { q with pc := c.seq.pc } } 0x02

/-- The instruction whose last word is `last` completes without a taken branch (R65). -/
def seqAdvance (c : CoreSt) (q : SeqSt) (last : Nat) : CoreSt × List CoreEvent :=
  let (ls, nxt) := loopEnd q.loops last
  seqGoto c { q with loops := ls } (nxt : Int)

/-- Exception 0x07: a taken jump leaves the innermost active body (R60). -/
def jumpLeaves (q : SeqSt) (target : Int) : Bool :=
  match q.loops with
  | [] => false
  | l :: _ => !(decide ((l.first : Int) ≤ target) && decide (target ≤ (l.last : Int)))

/-- The result of an instruction put into the core. A jump that raises an exception writes no register (log entry 7); a target both
outside the innermost body and beyond the code raises 0x07 (DESIGN CHOICE, log entry 105). -/
def seqFinish (c : CoreSt) (r : SeqRes) : CoreSt × List CoreEvent :=
  match r with
  | .ok q => seqAdvance c q c.seq.pc
  | .skip q last => seqAdvance c q last
  | .jump q target =>
    if jumpLeaves c.seq target then raiseSeq c 0x07
    else if 0 ≤ target ∧ target < (q.limit : Int) then seqGoto c q target
    else raiseSeq c 0x02
  | .wait q w => ({ c with seq := { q with run := .waiting w } }, [])
  | .exc code => raiseSeq c code

/-- The sequencer issues an instruction; nothing happens unless it is issuing (R55, R84) (DESIGN CHOICE, log entry 15). -/
def seqIssue (c : CoreSt) (f : SeqSt → SeqRes) : CoreSt × List CoreEvent :=
  if c.inReset then (c, [])
  else match c.seq.run with
    | .issuing => seqFinish (c.occur 0x03) (f c.seq)
    | _ => (c, [])

/-- Cycles of a wait or stall added to SEQ_STALL_COUNT (R85) (DESIGN CHOICE, log entry 17). -/
def addStall (c : CoreSt) (n : Nat) : CoreSt := c.bumpWrap .SEQ_STALL_COUNT 0 63 0 n

/-- A waiting instruction completes: its stall is counted and the sequencer goes on. -/
def seqReturn (c : CoreSt) (q : SeqSt) (stall : Nat) : CoreSt × List CoreEvent :=
  seqAdvance (addStall c stall) q c.seq.pc

/-! ### Claims and pushes -/

/-- KIND of claim specifier i (R93). -/
def Desc.clKind (d : Desc) (i : Nat) : Nat := d.f 7 (10 * i + 1) (10 * i)
/-- SRC of claim specifier i. -/
def Desc.clSrc (d : Desc) (i : Nat) : Nat := d.f 7 (10 * i + 4) (10 * i + 2)
/-- EXP of claim specifier i. -/
def Desc.clExp (d : Desc) (i : Nat) : Nat := d.f 7 (10 * i + 9) (10 * i + 5)

/-- The claim of a specifier with a legal SRC (R94). -/
def Desc.claim (d : Desc) (i : Nat) : Claim :=
  let base := d.f (d.clSrc i) 47 0
  ⟨decide (d.clKind i ≥ 2), base / 64 * 64, 64 * 2 ^ d.clExp i⟩

/-- Do two byte ranges share a byte. -/
def overlaps (a n b m : Nat) : Bool := decide (a < b + m ∧ b < a + n)

/-- Does a range touch a crystal or trace region (R99). -/
def touchesLocked (c : CoreSt) (a n : Nat) : Bool :=
  (List.range 16).any (fun i => (c.regType i = 1 || c.regType i = 4) && overlaps a n (c.regBase i) (c.regLen i))

/-- The causes that make claim i impossible, 0 for none: 0x10 bad SRC or KIND, 0x20 out of map, 0x40 a write to crystal or
trace (R99, R122) (DEDUCED, log entry 20). -/
def claimCauses (c : CoreSt) (d : Desc) (i : Nat) : Nat :=
  let k := d.clKind i
  if k = 0 then (if d.clSrc i = 0 ∧ d.clExp i = 0 then 0 else 0x10)
  else if d.clSrc i = 0 ∨ d.clSrc i = 7 then 0x10
  else
    let cl := d.claim i
    (if inMap cl.base cl.len then 0 else 0x20) + (if cl.write && touchesLocked c cl.base cl.len then 0x40 else 0)

/-- The lowest-numbered impossible claim with its causes: DETAIL of the claim-error record (R122). -/
def claimError (c : CoreSt) (d : Desc) : Option Nat :=
  (List.range 6).findSome? (fun i => let x := claimCauses c d i; if x = 0 then none else some (x + i))

/-- The claims of a descriptor (R94, R95). -/
def Desc.claims (d : Desc) : List Claim :=
  ((List.range 6).filter (fun i => d.clKind i ≠ 0)).map d.claim

/-- Claim entries in use (R95, R127). -/
def CoreSt.claimsUsed (c : CoreSt) : Nat :=
  (List.range 4).foldl (fun n q => (c.queue q).ents.foldl (fun n e => n + e.claims.length) n) 0

/-- The frame that is open now, if one is. -/
def CoreSt.openFrame (c : CoreSt) : Option Frame := c.frames.find? (fun f => !f.closed)

/-- A frame of the core replaced by id. -/
def CoreSt.setFrame (c : CoreSt) (f : Frame) : CoreSt :=
  { c with frames := c.frames.map (fun g => if g.id = f.id then f else g) }

/-- Pushes to a queue in the open frame: the ORDINAL of the next one (R121). -/
def CoreSt.ordinal (c : CoreSt) (q : Nat) : Nat :=
  match c.openFrame with
  | some f => Map.get (α := Nat) f.pushes q 0
  | none => 0

/-- The queue entry of a push (R69, R87, R95, R121). -/
def pushedEntry (c : CoreSt) (r : PushReq) : QEntry :=
  { desc := r.desc, pc := c.seq.pc, tpl := r.tpl, stage := r.stage, ord := c.ordinal r.queue
    frame := (match c.openFrame with | some f => f.id | none => 0), seqNo := c.pushNo, claims := r.desc.claims }

/-- A descriptor queued with its claims (R69, R87, R95), PEAK raised (R127). -/
def enqueue (c : CoreSt) (r : PushReq) : CoreSt :=
  let qs := c.queue r.queue
  let c1 := { c.setQueue r.queue { qs with ents := qs.ents ++ [pushedEntry c r] } with pushNo := c.pushNo + 1 }
  let c2 := match c.openFrame with
    | some f => c1.setFrame { f with
        left := f.left.set r.queue (Map.get (α := Nat) f.left r.queue 0 + 1)
        pushes := f.pushes.set r.queue (Map.get (α := Nat) f.pushes r.queue 0 + 1) }
    | none => c1
  c2.setFld .SB_STATUS 0 14 8 (max (c2.fld .SB_STATUS 0 14 8) c2.claimsUsed)

/-- What a PUSH meets: refused with the record's DETAIL, a full queue, no room in the claim table, or room
(R69, R95, R99: claims are judged before room). -/
inductive PushOutcome where
  | refused (detail : Nat)
  | full
  | noClaims
  | room
  deriving DecidableEq, Repr

/-- What a push meets now. -/
def pushOutcome (c : CoreSt) (r : PushReq) : PushOutcome :=
  match claimError c r.desc with
  | some d => .refused d
  | none =>
    if (c.queue r.queue).ents.length ≥ 8 then .full
    else if c.claimsUsed + r.desc.claims.length > 64 then .noClaims
    else .room

/-- A push made or put to wait; `q` is the sequencer as the instruction leaves it (R69, R95, R99). It counts as issued when it
is made (R613) (DEDUCED, log entry 31). The record of a refused push, which holds no queue entry, gives as POSITION the place the
push would take, at most 7 (DESIGN CHOICE, log entry 106). -/
def doPush (c : CoreSt) (q : SeqSt) (r : PushReq) (stall : Nat) : CoreSt × List CoreEvent :=
  match pushOutcome c r with
  | .room =>
    let c1 := (enqueue (addStall c stall) r).occur 0x03
    seqAdvance c1 q c.seq.pc
  | .full => ({ c with seq := { q with run := .waiting (.pushFull r) } }, [])
  | .noClaims => ({ c with seq := { q with run := .waiting (.pushClaims r) } }, [])
  | .refused det =>
    let c1 := { c with seq := { q with run := .waiting (.pushRefused r) } }
    (c1.setFld .SB_STATUS 0 16 16 1,
     [.record { kind := 0x03, source := 5, detail := det, pc := c.seq.pc, tpl := r.tpl, stage := r.stage,
                ord := c.ordinal r.queue, pos := min (c.queue r.queue).ents.length 7,
                w0 := r.desc.w0, w7 := r.desc.w7 }])

/-! ### The head of a queue -/

/-- The first entry not yet started, with its position (R88). -/
def headFrom : Nat → List QEntry → Option (Nat × QEntry)
  | _, [] => none
  | i, e :: es => match e.st with | .waiting => some (i, e) | .executing => headFrom (i + 1) es

/-- The head of queue k; none while the queue is halted or the core held in reset. -/
def CoreSt.head (c : CoreSt) (k : Nat) : Option (Nat × QEntry) :=
  if (c.queue k).halted || c.inReset then none else headFrom 0 (c.queue k).ents

/-- Two claims that conflict (R96): a shared byte, and not both only reads. -/
def Claim.conflicts (a b : Claim) : Bool := (a.write || b.write) && overlaps a.base a.len b.base b.len

/-- Does a claim of a descriptor conflict with an earlier descriptor of another queue (R96). -/
def CoreSt.conflict (c : CoreSt) (k : Nat) (e : QEntry) : Bool :=
  (List.range 4).any (fun j => decide (j ≠ k) && (c.queue j).ents.any (fun f =>
    decide (f.seqNo < e.seqNo) && e.claims.any (fun a => f.claims.any (fun b => a.conflicts b))))

/-- Does the head of a queue wait on a claim (R96, R126): not that of a halted queue, which starts nothing (R118, R129). -/
def CoreSt.headWaits (c : CoreSt) (k : Nat) : Bool :=
  match c.head k with
  | some (_, e) => c.conflict k e
  | none => false

/-- Does some queue head wait on a claim, or did one when a flush took it (R97, R120, R128). -/
def CoreSt.someWaits (c : CoreSt) : Bool := c.waitDue || (List.range 4).any c.headWaits

/-! ### Frames and the epoch-done marker -/

/-- Lateness recorded (R32 to R34, R39, R40): LATE_LAST, LATE_COUNT and CORE_LATE_EPOCH, and beyond MAX_LATE the overrun
with its record. -/
def recordLate (c : CoreSt) (f : Frame) (done : Nat) : CoreSt × List CoreEvent :=
  let guard := f.next - 64
  if done ≤ guard then (c, [])
  else
    let late := done - guard
    let c := (c.setFld .CORE_EPOCH_STAT 0 31 0 (min late 0xFFFFFFFF)).bump .CORE_EPOCH_STAT 0 47 32 1
    let c := (c.setReg .CORE_LATE_EPOCH 0 (BitVec.ofNat 64 f.epoch)).occur 0x12
    if late > f.maxLate then
      (c.setFld .CORE_EPOCH_STAT 0 48 48 1,
       [.record { kind := 0x0B, source := 4, pc := f.endPc, arg := late, epoch := some f.epoch, drip := some done }])
    else (c, [])

/-- Slots open at the marker are closed and discarded (R138). -/
def discardOpen (c : CoreSt) : CoreSt :=
  if (List.range 4).any (fun i => (c.slot i).isOpen) then
    { c with slots := [] }.setFld .CORE_MX_STAT 0 5 5 1
  else c

/-- The epoch-done marker of a frame, when every queue is complete for it (R76, R27, R33). -/
def frameStep (c : CoreSt) (fid now : Nat) : CoreSt × List CoreEvent :=
  match c.frames.find? (fun f => f.id = fid) with
  | none => (c, [])
  | some f =>
    if f.closed && f.left.all (fun p => p.2 = 0) then
      let c := discardOpen { c with frames := c.frames.filter (fun g => g.id ≠ fid) }
      let (c, evs) := recordLate c f now
      (c, evs ++ [.marker f.epoch])
    else (c, [])

/-- A descriptor of a frame left its queue by completion (R76). -/
def frameComplete (c : CoreSt) (fid q now : Nat) : CoreSt × List CoreEvent :=
  match c.frames.find? (fun f => f.id = fid) with
  | none => (c, [])
  | some f =>
    let c := c.setFrame { f with left := f.left.set q (Map.get (α := Nat) f.left q 0 - 1) }
    frameStep c fid now

end Sys2Proof.Machine
end

