-- ==== Sys2Proof/Machine/HubOps.lean ====
section
/-! DEFINITION. Shared operations of the serving hub: sequence slots, aborting commit groups (R323), and what a quadrant's
recovery and its cores' flush and reset do (R52, R120, R490). -/
namespace Sys2Proof.Machine

/-! ### Slots and groups -/

/-- Sequence slot n of a quadrant. -/
def QuadSt.slot (x : QuadSt) (n : Nat) : SlotSt := Map.get (α := SlotSt) x.slots n {}
/-- Sequence slot n replaced. -/
def QuadSt.setSlot (x : QuadSt) (n : Nat) (v : SlotSt) : QuadSt := { x with slots := Map.set (α := SlotSt) x.slots n v }
/-- A slot of a quadrant changed by a function. -/
def State.modSlot (s : State) (q n : Nat) (f : SlotSt → SlotSt) : State :=
  s.modQuad q (fun x => x.setSlot n (f (x.slot n)))
/-- The serving parameters of a quadrant's plan. -/
def QuadSt.params (x : QuadSt) : Serving := match x.plan with | some p => p.serving | none => {}

/-- The group of a row aborted (R323): discarded and counted; IN_STEP clears at the next snapshot. -/
def State.abortGroup (s : State) (q row : Nat) : State :=
  match Map.find (α := Group) (s.quad q).groups row with
  | none => s
  | some g =>
    let s := s.modQuad q (fun x => { x with groups := Map.del (α := Group) x.groups row })
    (s.modSlot q g.slot (fun t => { t with aborted := true })).bump .HUB_COMMIT_STAT q 47 32 1

/-- Every open group of a quadrant aborted. -/
def State.abortGroups (s : State) (q : Nat) : State :=
  s.each ((s.quad q).groups.map (·.1)) (fun s r => s.abortGroup q r)

/-- Every open group aborted by a restart or a hold, counted in QD_RECOVERY.ABORTS (R509). -/
def State.abortForRecovery (s : State) (q : Nat) : State :=
  (s.abortGroups q).bump .QD_RECOVERY q 23 8 (s.quad q).groups.length

/-! ### Flush, stop and reset of a core -/

/-- FLUSH (R120): every uncompleted descriptor discarded, claims released, slots closed; closed frames abandoned and the open
frame kept with nothing outstanding. The wait of a head it takes is still to be counted (R128). -/
def CoreSt.flush (c : CoreSt) : CoreSt :=
  { c with
    waitDue := c.someWaits
    queues := c.queues.map (fun p => (p.1, { p.2 with ents := [], halted := false }))
    slots := []
    frames := (c.frames.filter (fun f => !f.closed)).map (fun f => { f with left := [] }) }

/-- Is some queue of the core halted. -/
def CoreSt.anyHalted (c : CoreSt) : Bool := c.queues.any (fun p => p.2.halted)

/-- SEQ_CTRL.RUN = 0 (R83): the sequencer stops, a wait is abandoned; a faulted sequencer stays faulted. -/
def CoreSt.stop (c : CoreSt) : CoreSt :=
  let c1 := (c.setFld .SEQ_CTRL 0 0 0 0).setFld .SB_STATUS 0 16 16 0
  match c.seq.run with
  | .faulted => c1
  | _ => { c1 with seq := { c1.seq with run := .stopped } }

/-- SEQ_CTRL.RUN = 1 (R83): every item of R52 but the memories cleared, the frame closed, the program at SEQ_ENTRY; an open
frame is abandoned (R120). Nothing starts while the core is held in reset or its sequencer is faulted (R62). -/
def CoreSt.start (c : CoreSt) : CoreSt :=
  let c1 := c.setFld .SEQ_CTRL 0 0 0 1
  if c.inReset then c1
  else match c.seq.run with
    | .faulted => c1
    | _ => { c1 with
        seq := c1.seq.restart (c.fld .SEQ_ENTRY 0 14 0)
        frames := c1.frames.filter (fun f => f.closed) }

/-- A core reset (R52, R91, R159, R548, R562): sequencer with its memories, queues, claims, slots, anchors and core status
cleared; SRAM, region table, shares, the sequencer's settings, the last fault record and CLK_CORE_CTRL kept (log entry 9). -/
def CoreSt.reset (c : CoreSt) : CoreSt :=
  let c := { c with seq := {}, queues := [], frames := [], slots := [], anchors := [], tiles := 0, staged := [], outbox := [], pmc := [],
                    injectResidue := false, waitDue := false, stretchUsed := 0, stretchWin := 0, warnCycles := 0 }
  let c := (((c.setFld .SEQ_CTRL 0 0 0 0).setReg .SEQ_STATUS 0 0).setReg .SEQ_STALL_COUNT 0 0).setReg .SB_STATUS 0 0
  let c := ((c.setReg .SB_WAIT_CYCLES 0 0).setReg .CORE_MX_STAT 0 0).setReg .CORE_VX_STAT 0 0
  let c := ((c.setReg .CORE_MEM_STAT 0 0).setReg .CORE_EPOCH_STAT 0 0).setReg .CORE_FAULT_STAT 0 0
  let c := c.setReg .CORE_STRETCH_COUNT 0 0
  ((c.setFld .CLK_CORE_STAT 0 11 6 40).setFld .CLK_CORE_STAT 0 15 13 0).setFld .CLK_CORE_STAT 0 47 16 0

/-! ### Recovery -/

/-- A recovery event of a quadrant that runs a plan (R490): PENDING at once, a notice, and the event on the report flow to the
partition master. -/
def State.recoveryEvent (s : State) (q : Nat) (rehearse : Bool) : State :=
  if s.runs q then
    let s := s.modQuad q (fun x => { x with rehearsed := rehearse && (x.rehearsed || !s.bit .QD_RECOVERY q 0) })
    let s := if s.bit .QD_RECOVERY q 0 then s else s.notice (some q) 0x04 0 0 rehearse
    (s.setBit .QD_RECOVERY q 0 true).send (.message 1 [q, 0])
  else s

/-- Recovery reports a sequence's state lost (R497): its slot enters LOST at the next snapshot (R277). -/
def State.loseSlot (s : State) (q n : Nat) : State :=
  s.modSlot q n (fun t => if t.state = 0 ∨ t.state = 4 then t else { t with lost := true })

end Sys2Proof.Machine
end

