-- ==== Sys2Proof/Machine/RecordOps.lean ====
section
/-! DEFINITION. Fault records (R121 to R123): their layout, the core's own copy and the quadrant supervisor's queue. -/
namespace Sys2Proof.Machine

/-- The eight words of a record (R121) for virtual core v, physical core p of quadrant q. -/
def State.recordWords (s : State) (q v p : Nat) (r : FaultRec) : List U64 :=
  let epoch := r.epoch.getD (s.epoch q)
  let drip := r.drip.getD s.now
  let w0 := r.kind + r.source * 2 ^ 8 + (if r.rehearse then 2 ^ 11 else 0) + r.detail % 256 * 2 ^ 16 + v * 2 ^ 24 +
    (p % 9) * 2 ^ 32 + (p % 72 / 9) * 2 ^ 36 + q * 2 ^ 39 + s.globalId * 2 ^ 44
  let w3 := r.pc % 32768 + r.tpl * 2 ^ 16 + r.stage * 2 ^ 26 + r.ord % 65536 * 2 ^ 32 + r.pos % 8 * 2 ^ 48
  [BitVec.ofNat 64 w0, BitVec.ofNat 64 epoch, BitVec.ofNat 64 drip, BitVec.ofNat 64 w3,
   BitVec.ofNat 64 (r.addr % 2 ^ 48), r.w0, r.w7, BitVec.ofNat 64 r.arg]

/-- Is there room in a quadrant's fault queue of 64 records (R123). -/
def State.recordRoom (s : State) (q : Nat) : Bool := decide ((s.quad q).faultQ.length < 64)

/-- A record appended to the supervisor's queue, or dropped when it is full (R123). -/
def State.queueRecord (s : State) (q : Nat) (ws : List U64) : State :=
  if s.recordRoom q then s.modQuad q (fun x => { x with faultQ := x.faultQ ++ [ws] }) else s

/-- CORE_FAULT_RECORD and CORE_FAULT_STAT of a record, dropped or not (R123, R128). -/
def CoreSt.keepRecord (c : CoreSt) (ws : List U64) (dropped : Bool) : CoreSt :=
  let c := ws.zipIdx.foldl (fun (c : CoreSt) (p : U64 × Nat) => c.setReg .CORE_FAULT_RECORD p.2 p.1) c
  let c := (c.bump .CORE_FAULT_STAT 0 31 0 1).setFld .CORE_FAULT_STAT 0 48 48 1
  if dropped then c.bump .CORE_FAULT_STAT 0 47 32 1 else c

/-- A record of virtual core v on physical core p. -/
def State.coreRecord (s : State) (v p : Nat) (r : FaultRec) : State :=
  let q := p / 72
  let ws := s.recordWords q v p r
  (s.modCore p (fun c => c.keepRecord ws (!s.recordRoom q))).queueRecord q ws

/-- A record the quadrant supervisor itself writes (SOURCE 6, or 3 for a port's key check), naming virtual core v; PCORE is the physical
core that v names in the quadrant, row 0 and column 0 where it names none (DESIGN CHOICE, log entry 107). -/
def State.superRecord (s : State) (q v : Nat) (r : FaultRec) : State :=
  s.queueRecord q (s.recordWords q v (if v / 64 = q then (s.phys v).getD (72 * q) else 72 * q) r)

end Sys2Proof.Machine
end

