-- ==== Sys2Proof/Machine/MeshOps.lean ====
section
/-! DEFINITION. Shared operations of the on-die mesh (R333 to R358): slot tables and their banks, flits and their sidebands,
what is forwarded, fenced outputs, elastic and service buffers. -/
namespace Sys2Proof.Machine

/-! ### Flits (R335) -/

/-- TAG. -/
def flitTag (f : Flit) : Nat := natBits f.sb.toNat 9 0
/-- CLASS. -/
def flitClass (f : Flit) : Nat := natBits f.sb.toNat 11 10
/-- FIRST. -/
def flitFirst (f : Flit) : Bool := f.sb.toNat.testBit 12
/-- LAST. -/
def flitLast (f : Flit) : Bool := f.sb.toNat.testBit 13
/-- HALF. -/
def flitHalf (f : Flit) : Bool := f.sb.toNat.testBit 14
/-- Set bits of the low n bits. -/
def popcount : Nat → Nat → Nat
  | 0, _ => 0
  | n + 1, x => x % 2 + popcount n (x / 2)
/-- Is PARITY the even parity of bits 14:0. -/
def flitParityOk (f : Flit) : Bool := decide (popcount 16 f.sb.toNat % 2 = 0)
/-- CRC0 and CRC1 agree with the data. -/
def flitCrcOk (f : Flit) : Bool :=
  decide (natBits f.sb.toNat 31 16 = crc16 (f.data.take 64)) &&
  (flitHalf f || decide (natBits f.sb.toNat 47 32 = crc16 (f.data.drop 64)))
/-- A flit with its CRCs formed from its data and its parity computed last. -/
def mkFlit (tag cls : Nat) (first last half : Bool) (data : List Byte) (stomp : Bool := false) : Flit :=
  let d := if half then data.take 64 else data.take 128
  let low := tag % 1024 + cls % 4 * 1024 + (if first then 4096 else 0) + (if last then 8192 else 0) + (if half then 16384 else 0)
  let c0 := crc16 (d.take 64)
  let c1 := if half then 0 else crc16 (d.drop 64)
  let c0 := if stomp then c0 ^^^ 0xFFFF else c0
  let c1 := if stomp && !half then c1 ^^^ 0xFFFF else c1
  ⟨BitVec.ofNat 48 (low + popcount 15 low % 2 * 32768 + c0 * 65536 + c1 * 4294967296), d⟩

/-- The flits of a planned transfer (R335, R336, R343): two code units each, each with its CRC-16, FIRST and LAST on its ends (DEDUCED,
log entry 132). A flow-coded source is read under its stored CRC, so the CRC computed from the data is the one it would copy. -/
def planFlits (tag : Nat) (bs : List Byte) : List Flit :=
  let n := (bs.length + 127) / 128
  (List.range n).map (fun i =>
    let d := (bs.drop (128 * i)).take 128
    mkFlit tag 1 (decide (i = 0)) (decide (i + 1 = n)) (decide (d.length ≤ 64)) d)

/-! ### Slot tables (R354) -/

/-- The active bank of a quadrant (R357). -/
def State.meshBank (s : State) (q : Nat) : Nat := s.fld .MSH_CTRL q 0 0
/-- The 16-bit entry of slot n of output o of router p in bank b. -/
def State.slotEntry (s : State) (b p o n : Nat) : Nat :=
  let w := (s.reg .MSH_SLOT (((b * 288 + p) * 5 + o) * 256 + n / 4)).toNat
  natBits w (16 * (n % 4) + 15) (16 * (n % 4))
/-- KIND of an entry. -/
def entKind (e : Nat) : Nat := natBits e 1 0
/-- IN of an entry. -/
def entIn (e : Nat) : Nat := natBits e 4 2
/-- TAG of an entry. -/
def entTag (e : Nat) : Nat := natBits e 15 6

/-- Is output or input i of router p a bridge lane (R350): the west input of rows 0 to 5 of column 0. -/
def bridgeInput (p i : Nat) : Bool := decide (i = 3 ∧ p % 9 = 0 ∧ p % 72 / 9 ≤ 5)
/-- The quadrant at the far end of a bridge lane. -/
def bridgePeer (p : Nat) : Nat := (p / 72) ^^^ (p % 72 / 9 / 2 + 1)

/-- Do two quadrants hold roles of one partition (R351): both hold a plan of the same placement and set-up tag. -/
def State.samePartition (s : State) (a b : Nat) : Bool :=
  match (s.quad a).plan, (s.quad b).plan with
  | some x, some y => decide (x.placement = y.placement ∧ x.setupTag = y.setupTag ∧ x.roles = y.roles)
  | _, _ => false

/-- Does a bridge lane of router p carry flits (R351, R475). -/
def State.bridgeOpen (s : State) (p : Nat) : Bool :=
  let q := p / 72
  s.samePartition q (bridgePeer p) && !(s.quad q).idled && !(s.quad (bridgePeer p)).idled

/-- The entry by which an output's slot acts: a lane that carries no flits idles in every slot (R351). -/
def State.liveEntry (s : State) (b p o n : Nat) : Nat :=
  if bridgeInput p o && !s.bridgeOpen p then 0 else s.slotEntry b p o n

/-- Are the cores of a router's row-pair powered (R349, R591, R609). -/
def State.rowPowered (s : State) (p : Nat) : Bool := s.fld .PWR_DOMAIN_STAT (p / 72 * 8 + 4 + p % 72 / 18) 1 0 = 2

/-- Is the L output of a router fenced (R349): its core cordoned, held in reset, powered down or not mapped. -/
def State.fenced (s : State) (p : Nat) : Bool :=
  s.bit .MSH_ROUTER_STAT p 48 || (s.core p).inReset || (s.core p).fenced || (s.quad (p / 72)).heldReset || !s.rowPowered p ||
  (s.virtOf p).isNone

/-- At most one notice for each TAG in an epoch (R349, R413). -/
def State.noticeTag (s : State) (q tag p : Nat) : State :=
  if (s.quad q).noticed.contains tag then s
  else (s.modQuad q (fun x => { x with noticed := tag :: x.noticed })).notice (some q) 0x09 tag p

/-- The link port attached at the east output of router p (R337, R338), if any. -/
def portAt (p : Nat) : Option Nat :=
  let r := p % 72 / 9
  if p % 9 = 8 ∧ r % 2 = 1 ∧ r ≤ 5 then
    ([[0, 3, 8], [1, 2, 11], [4, 7, 9], [5, 6, 10]].getD (p / 72) [])[r / 2]?
  else none

/-- What an output of router p leads to at the edge of its quadrant's grid (R337), if anything. -/
def edgeOf (p o : Nat) : Option Attach :=
  let r := p % 72 / 9
  let c := p % 9
  match o with
  | 0 => if r ≠ 0 then none
    else some (if c ≤ 3 then .hub else if c = 4 then .supervisor else if c ≤ 6 then .ingest else if c = 7 then .keeper else .trace)
  | 1 => (portAt p).map .port
  | 2 => if r = 7 ∧ c ≤ 7 then some .hbm else none
  | 3 => if bridgeInput p 3 then some .lane else none
  | _ => none

/-- The quadrant a port belongs to (R338). -/
def portQuad (port : Nat) : Nat := [0, 1, 1, 0, 2, 3, 3, 2, 0, 2, 3, 1].getD port 0

/-- Port number `port`. -/
def State.port (s : State) (port : Nat) : PortSt := Map.get (α := PortSt) s.ports port {}
/-- A port replaced. -/
def State.setPort (s : State) (port : Nat) (x : PortSt) : State := { s with ports := Map.set (α := PortSt) s.ports port x }
/-- A port changed by a function. -/
def State.modPort (s : State) (port : Nat) (f : PortSt → PortSt) : State := s.setPort port (f (s.port port))
/-- A LNK_COUNT counter raised (R398). -/
def State.count (s : State) (port k n : Nat) : State := s.bumpWrap .LNK_COUNT (port * 16 + k) 63 0 n
/-- A LNK_FAB_COUNT counter raised (R436). -/
def State.fabCount (s : State) (port k : Nat) : State := s.bumpWrap .LNK_FAB_COUNT (port * 8 + k) 63 0 1

/-- Is key entry k of a port valid (R404, R432). -/
def State.keyValid (s : State) (port k : Nat) : Bool :=
  let e := s.reg .LNK_PKEY (port * 64 + k)
  bitAt e 16 && decide (bitsOf e 15 0 ≠ 0xFFFF)
/-- Is a key valid in some entry of a port. -/
def State.keyIn (s : State) (port key : Nat) : Bool :=
  (List.range 64).any (fun k => s.keyValid port k && s.fld .LNK_PKEY (port * 64 + k) 15 0 = key)

/-- A unit or packet failed a key check at a port (R405): a record, at most one for each port and key in an epoch. -/
def State.keyRecord (s : State) (port key vcore src flow : Nat) : State :=
  let q := portQuad port
  if (s.quad q).keyRecs.contains (port, key) then s
  else
    (s.modQuad q (fun x => { x with keyRecs := (port, key) :: x.keyRecs })).superRecord q vcore
      { kind := 0x0C, source := 3, arg := key + src * 2 ^ 16 + flow * 2 ^ 36 + port * 2 ^ 52 }

/-- A planned flit taken by a port whose pause signal is raised (R389): it gets its sequence number and waits unsent in the replay
buffer. -/
def PortSt.holdUnsent (x : PortSt) (flow : Nat) (f : Flit) : PortSt :=
  let mask := if !flitCrcOk f then 2 else if flitHalf f then 1 else 0
  { x with
    buffer := x.buffer ++ [{ seq := x.nextSeq, cls := 1, mask := mask, payload := (f.data ++ List.replicate 128 0).take 128, slot := none, sentAt := 0, flow := flow }]
    nextSeq := (x.nextSeq + 1) % 65536 }

/-- An elastic flit put into a port's channel. -/
def PortSt.queueElastic (x : PortSt) (ch : Nat) (f : Flit) : PortSt :=
  { x with elastic := Map.upd (α := List Flit) x.elastic ch [] (· ++ [f]) }

/-- The header flit of a packet with one hop fewer (R417). -/
def hopTaken (f : Flit) : Flit :=
  let k := packetOf f.data
  mkFlit 0 2 true (flitLast f) (flitHalf f) (packetBytes { k with w1 := putBits k.w1 55 48 (pkHops k - 1) }) (!flitCrcOk f)

/-- The rest of a discarded packet goes with its header flit. -/
def State.dropPacket (s : State) (port ch : Nat) (f : Flit) : State :=
  s.modPort port (fun x => { x with dropping := if flitLast f then Map.del (α := Bool) x.dropping ch else Map.set (α := Bool) x.dropping ch true })

/-- An elastic flit reaches a port from the mesh (R371, R405, R417): at its header HOPS and the key are checked and HOPS goes down, and the
flits of a packet that is not sent are discarded with it. -/
def State.portElastic (s : State) (port ch : Nat) (f : Flit) : State :=
  let k := packetOf f.data
  if flitFirst f then
    if pkHops k = 0 then (s.fabCount port 5).dropPacket port ch f
    else if !s.keyIn port (pkKey k) then
      ((s.fabCount port 2).keyRecord port (pkKey k) (pkDstCore k) (pkSrc k) 0).dropPacket port ch f
    else s.modPort port (fun x => x.queueElastic ch (hopTaken f))
  else if Map.get (α := Bool) (s.port port).dropping ch false then s.dropPacket port ch f
  else s.modPort port (fun x => x.queueElastic ch f)

/-- A flit reaches a port from the mesh (R371, R389, R409): planned flits by their TAG, elastic flits into their channel. -/
def State.portTakes (s : State) (port ch : Nat) (f : Flit) : State :=
  if flitClass f = 2 then s.portElastic port ch f
  else
    let e := s.reg .LNK_TX_TAG (port * 1024 + flitTag f)
    let x := s.port port
    if !bitAt e 0 then s.fabCount port 0
    else if !s.keyValid port (bitsOf e 6 1) then
      (s.fabCount port 0).keyRecord port (s.fld .LNK_PKEY (port * 64 + bitsOf e 6 1) 15 0) 0 0 (bitsOf e 22 7)
    else if x.paused && decide (x.buffer.length < 8192) then s.setPort port (x.holdUnsent (bitsOf e 22 7) f)
    else if x.planned.length ≥ 1024 then s
    else s.setPort port { x with planned := x.planned ++ [(bitsOf e 22 7, f)] }

/-- The router that output o of router p leads to, across a bridge or inside its quadrant (R333, R350), with the input it arrives on. -/
def nextRouter (p o : Nat) : Option (Nat × Nat) :=
  let q := p / 72
  let r := p % 72 / 9
  let c := p % 9
  match o with
  | 0 => if r = 0 then none else some (physIndex q (r - 1) c, 2)
  | 1 => if c = 8 then none else some (physIndex q r (c + 1), 3)
  | 2 => if r = 7 then none else some (physIndex q (r + 1) c, 0)
  | 3 => if c = 0 then (if r ≤ 5 then some (physIndex (bridgePeer p) r 0, 3) else none)
         else some (physIndex q r (c - 1), 1)
  | _ => none

/-- A flit leaves router p by output o (R333, R337, R349): `ch` is the channel of an elastic flit. At an edge where R337 puts nothing it
goes nowhere. -/
def State.emit (s : State) (p o : Nat) (f : Flit) (ch : Nat := 0) : State :=
  if o = 4 then
    if s.fenced p then (s.bump .MSH_ROUTER_STAT p 15 0 1).noticeTag (p / 72) (flitTag f) p
    else s.send (.mesh (p / 72) (p * 5 + 4) f)
  else match nextRouter p o, edgeOf p o with
    | none, none => s
    | none, some (.port n) => if flitParityOk f then s.portTakes n ch f else s
    | _, _ => s.send (.mesh (p / 72) (p * 5 + o) f)

/-- The outputs whose entry for a slot forwards a flit of this TAG from this input (R340): planned entries only. -/
def State.plannedOuts (s : State) (b p n inp tag : Nat) : List Nat :=
  (List.range 5).filter (fun o =>
    let e := s.liveEntry b p o n
    entKind e = 1 && entIn e = inp && entTag e = tag)

/-- Does the west neighbour's L output take a flit of this router's column path through its tap, input 5 (R348). -/
def State.tapTakes (s : State) (b p n tag : Nat) : Bool :=
  let e := s.slotEntry b (p - 1) 4 n
  decide (p % 9 ≠ 0) && entKind e = 1 && entIn e = 5 && entTag e = tag

/-- A flit forwarded in slot n by every output that names its input, and to the tap (R340, R347, R348). -/
def State.forward (s : State) (b p inp n : Nat) (f : Flit) : State :=
  let tap := s.tapTakes b p n (flitTag f)
  let s := s.each (s.plannedOuts b p n inp (flitTag f)) (fun s o => s.emit p o f)
  if tap then s.emit (p - 1) 4 f else s

/-- Is some output due to take a flit of this TAG from this input in slot n under a bank. -/
def State.takesPlanned (s : State) (b p inp n tag : Nat) : Bool := !(s.plannedOuts b p n inp tag).isEmpty || s.tapTakes b p n tag

/-- Fabric cycles from a flit's arrival at a router's input until it may leave: 3, or 9 from a bridge lane (R340, R350). -/
def hopCycles (p inp : Nat) : Nat := if bridgeInput p inp then 9 else 3

/-- How long ago a flit that reaches router p by input `inp` in slot n entered the mesh, in fabric cycles, by the entries of the banks
that are not active (R343); by fuel. -/
def State.travelled (s : State) (tag : Nat) : Nat → Nat → Nat → Nat → Nat
  | 0, _, _, _ => 0
  | f + 1, p, inp, n =>
    match nextRouter p inp with
    | none => 0
    | some (p', o') =>
      let e := s.slotEntry (1 - s.meshBank (p' / 72)) p' o' n
      if entKind e ≠ 1 ∨ entTag e ≠ tag ∨ 4 < entIn e then 0
      else
        let d := hopCycles p' (entIn e)
        d + s.travelled tag f p' (entIn e) ((n + 1024 - d) % 1024)

/-- Was a flit of a flow that the other bank forwards still in flight at the quadrant's latest bank swap (R352). -/
def State.caughtBySwap (s : State) (p inp cycle tag : Nat) : Bool :=
  let b := 1 - s.meshBank (p / 72)
  s.takesPlanned b p inp ((cycle + hopCycles p inp) % 1024) tag &&
  (match (s.quad (p / 72)).swapped with
    | some x => decide (cycle < x + s.travelled tag 64 p inp (cycle % 1024))
    | none => false)

/-- A flit discarded by a router and counted as a mismatch (R340, R351, R352). -/
def State.lostFlit (s : State) (p : Nat) : State := s.bump .MSH_ROUTER_STAT p 31 16 1

/-- A planned flit at router p, input `inp`, in a fabric cycle (R340, R350 to R352): forwarded 3 slots on (9 from a bridge lane), or
discarded, counted and, unless a bank swap caught it in flight, noticed. -/
def State.plannedFlit (s : State) (p inp cycle : Nat) (f : Flit) : State :=
  let q := p / 72
  let b := s.meshBank q
  let n := (cycle + hopCycles p inp) % 1024
  if s.takesPlanned b p inp n (flitTag f) then s.forward b p inp n f
  else if s.caughtBySwap p inp cycle (flitTag f) then s.lostFlit p
  else (s.lostFlit p).notice (some q) 0x09 (flitTag f) p

/-! ### Elastic and service buffers (R345, R346) -/

/-- The buffer key of an input and channel: 0 requests, 1 responses, 2 service. -/
def bufKey (p inp ch : Nat) : Nat := (p * 5 + inp) * 3 + ch
/-- The flits that wait at an input in a channel. -/
def State.buf (s : State) (p inp ch : Nat) : List MeshFlit := Map.get (α := List MeshFlit) s.mesh (bufKey p inp ch) []
/-- A buffer replaced. -/
def State.setBuf (s : State) (p inp ch : Nat) (l : List MeshFlit) : State :=
  { s with mesh := if l.isEmpty then Map.del (α := List MeshFlit) s.mesh (bufKey p inp ch)
                   else Map.set (α := List MeshFlit) s.mesh (bufKey p inp ch) l }

/-- An elastic or service flit taken into its input's buffer: 8 flits for each elastic channel (R345). -/
def State.bufferFlit (s : State) (p inp ch : Nat) (m : MeshFlit) : State :=
  let l := s.buf p inp ch
  if ch < 2 ∧ l.length ≥ 8 then s else s.setBuf p inp ch (l ++ [m])

/-- How many entries of a KIND stand before slot n on an output: the number e of R345. -/
def State.kindBefore (s : State) (b p o k : Nat) : Nat → Nat
  | 0 => 0
  | n + 1 => s.kindBefore b p o k n + (if entKind (s.slotEntry b p o n) = k then 1 else 0)

/-- Has what an output leads to room for one more flit of a channel (R345): the next router's buffer, or a port's queue of 64 while its
pause signal is down (R371, R389). -/
def State.roomBeyond (s : State) (p o ch : Nat) : Bool :=
  match nextRouter p o with
  | some (p', i) => ch ≥ 2 || decide ((s.buf p' i ch).length < 8)
  | none => match edgeOf p o with
    | some (.port n) => !(s.port n).paused && decide ((Map.get (α := List Flit) (s.port n).elastic ch []).length < 64)
    | _ => true

/-- A service user's turn within an input (R230, R346). -/
def serviceRank : ServiceUser → Nat
  | .signal => 0
  | .commit => 1
  | .writeBack => 2
  | .gateway => 3
  | .ingest => 4
  | .other => 5

/-- The first flit of a list whose user's turn comes first (R346). -/
def firstServed (l : List MeshFlit) : Option MeshFlit :=
  let m := l.foldl (fun a x => min a (serviceRank x.user)) 9
  l.find? (fun x => serviceRank x.user = m)

end Sys2Proof.Machine
end

