-- ==== Sys2Proof/Machine/ElasticOps.lean ====
section
/-! DEFINITION. Elastic traffic (R408, R415 to R428): packets, routing, windows at the source and at the target. -/
namespace Sys2Proof.Machine

/-! ### Routing (R417) -/

/-- The port that route r of the destination table gives for a device number; 12 to 14 are taken as 15 (R431). -/
def State.destPort (s : State) (dev r : Nat) : Nat :=
  let e := natBits (s.reg .LNK_DEST (dev / 2)).toNat (32 * (dev % 2) + 31) (32 * (dev % 2))
  let p := natBits e (4 * r + 3) (4 * r)
  if p < 12 then p else 15

/-- STATE of a port (R395). -/
def State.linkState (s : State) (port : Nat) : Nat := s.fld .LNK_STATE port 2 0

/-- Can a quadrant reach a port over the bridges (R351). -/
def State.reaches (s : State) (q port : Nat) : Bool := q = portQuad port || s.samePartition q (portQuad port)

/-- The port an elastic packet leaves by: that of its ROUTE, else the next alternatives in order (R417). -/
def State.routePort (s : State) (q dev route : Nat) : Option Nat :=
  ((List.range 5).map (fun k => s.destPort dev ((route + k) % 5))).find?
    (fun p => decide (p < 12) && decide (s.linkState p = 5) && s.reaches q p)

/-- The lowest port of a quadrant: packets of the quadrant's own cores that find no route are counted there
(DEDUCED, log entry 87). -/
def homePort (q : Nat) : Nat := [0, 1, 4, 5].getD q 0

/-- The lane by which a quadrant's elastic traffic crosses to another: one of the two rows of the bridge (R350). -/
def laneRow (q dst : Nat) : Nat := 2 * ((q ^^^ dst) - 1) + (if Config.elasticLane q dst then 1 else 0)

/-- Where elastic traffic for quadrant `dst` and position (row, column, output) leaves quadrant q (R337, R345, R350). -/
def leaveBy (q dst : Nat) (x : Nat × Nat × Nat) : Nat × Nat × Nat := if q = dst then x else (laneRow q dst, 0, 3)

/-- The row and column of a port's edge router (R337, R338). -/
def portRow (port : Nat) : Nat :=
  match (List.range 3).find? (fun k => portAt (physIndex (portQuad port) (2 * k + 1) 8) = some port) with
  | some k => 2 * k + 1
  | none => 1

/-- A port's edge router (R337). -/
def edgeRouter (port : Nat) : Nat := physIndex (portQuad port) (portRow port) 8

/-- The row, column and output at which a packet leaves a quadrant's grid (R345, R417): the keeper's window at its attachment, a core of
the device at its L output, another device at the port of its route; none when no port qualifies. -/
def State.packetExit (s : State) (q : Nat) (p : Packet) : Option (Nat × Nat × Nat) :=
  if pkDst p = s.globalId then
    let dst := pkDstCore p / 64
    if pkWin p = 1023 then some (leaveBy q dst (0, 7, 0))
    else (s.phys (pkDstCore p)).map (fun i => leaveBy q dst (i % 72 / 9, i % 9, 4))
  else (s.routePort q (pkDst p % 65536) (pkRoute p)).map (fun n => leaveBy q (portQuad n) (portRow n, 8, 1))

/-- The output of router p toward a position: first along the row, then along the column (R345). -/
def dimensionOrder (p : Nat) (x : Nat × Nat × Nat) : Nat :=
  let r := p % 72 / 9
  let c := p % 9
  if c < x.2.1 then 1 else if x.2.1 < c then 3 else if r < x.1 then 2 else if x.1 < r then 0 else x.2.2

/-- The flits of a packet (R415, R416, R418): two code units each, the last a half flit when one unit remains for it. -/
def packetFlitList (p : Packet) : List Flit :=
  let n := packetFlits p
  let b := (packetBytes p ++ List.replicate (64 * packetUnits p) 0).take (64 * packetUnits p)
  (List.range n).map (fun i => let d := (b.drop (128 * i)).take 128; mkFlit 0 2 (decide (i = 0)) (decide (i + 1 = n)) (decide (d.length ≤ 64)) d)

/-- A packet enters the mesh at input `inp` of router p, routed by the device and counted at port `at'` where it is discarded (R345, R417):
its flits wait at the input in its channel. -/
def State.routePacket (s : State) (p inp at' : Nat) (pk : Packet) : State :=
  if pkDst pk ≠ s.globalId ∧ pkDst pk / 65536 ≠ s.globalId / 65536 then s.fabCount at' 3
  else match s.packetExit (p / 72) pk with
    | none => if pkDst pk = s.globalId then s else s.fabCount at' 4
    | some x =>
      let ch := if 2 ≤ pkType pk then 1 else 0
      s.setBuf p inp ch (s.buf p inp ch ++ (packetFlitList pk).map (fun f => { flit := f, exit := dimensionOrder p x, ready := 0 }))

/-- A packet that a core sends (R417). -/
def State.corePacket (s : State) (p : Nat) (pk : Packet) : State := s.routePacket p 4 (homePort (p / 72)) pk

/-! ### Windows at the source (R419, R425, R427) -/

/-- Window w of a quadrant. -/
def QuadSt.win (x : QuadSt) (w : Nat) : WinSt := Map.get (α := WinSt) x.wins w {}
/-- Window w of a quadrant changed by a function. -/
def State.modWin (s : State) (q w : Nat) (f : WinSt → WinSt) : State :=
  s.modQuad q (fun x => { x with wins := Map.set (α := WinSt) x.wins w (f (x.win w)) })
/-- A QD_ELA_COUNT counter raised (R436). -/
def State.elaCount (s : State) (q k n : Nat) : State := s.bumpWrap .QD_ELA_COUNT (q * 8 + k) 63 0 n

/-- The window of quadrant q to a quadrant of a peer device, none when no valid one exists (R419). -/
def State.findWin (s : State) (q peer pq : Nat) : Option Nat :=
  (List.range 1023).find? (fun w =>
    let e := s.reg .QD_ELA_WIN (q * 1024 + w)
    bitAt e 0 && decide (bitsOf e 20 1 = peer) && decide (bitsOf e 22 21 = pq))

/-- Flits outstanding on a window: of requests, of responses. -/
def WinSt.charged (w : WinSt) : Nat × Nat :=
  (w.reqs.filter (fun r => r.waiting.isNone)).foldl (fun a r => (a.1 + r.reqFlits, a.2 + r.rspFlits)) (0, 0)

/-- May a request be sent now within its window's limits (R419). -/
def State.winRoom (s : State) (q w : Nat) (r : ElaReq) : Bool :=
  let x := (s.quad q).win w
  let budget := 16 * s.fld .QD_ELA_WIN (q * 1024 + w) 55 49
  let (a, b) := x.charged
  decide (a + r.reqFlits ≤ budget ∧ b + r.rspFlits ≤ budget) &&
  decide ((x.reqs.filter (fun r => r.waiting.isNone)).length < 256)

/-- Every packet of a request sent by its core on its route (R427). -/
def State.sendReq (s : State) (r : ElaReq) : State :=
  s.each r.packets (fun s p => s.corePacket r.core { p with w0 := putBits p.w0 7 5 r.route })

/-- A request of a window replaced by its id. -/
def State.setReq (s : State) (q w : Nat) (r : ElaReq) : State :=
  s.modWin q w (fun x => { x with reqs := x.reqs.map (fun y => if y.id = r.id then r else y) })

/-- TRIES, 0 taken as 1 (R435). -/
def State.elaTries (s : State) (q : Nat) : Nat := max 1 (s.fld .QD_ELA_CFG q 35 32)

/-- Is route r of a request available (R427). -/
def State.routeOpen (s : State) (q : Nat) (r : ElaReq) (dev k : Nat) : Bool :=
  let p := s.destPort dev k
  decide (p < 12 ∧ s.linkState p ≠ 7 ∧ s.linkState p ≠ 0) &&
  decide (Map.get (α := Nat) r.tries k 0 < s.elaTries q)

/-- The device number a request goes to. -/
def ElaReq.dest (r : ElaReq) : Nat := match r.packets with | p :: _ => pkDst p % 65536 | [] => 0

/-- The route of a retry: the same while available, else the next available in the order 0 to 4 (R427). -/
def State.nextRoute (s : State) (q : Nat) (r : ElaReq) : Option Nat :=
  if s.routeOpen q r r.dest r.route then some r.route
  else (List.range 5).find? (fun k => s.routeOpen q r r.dest k)

/-- The queue entry of an elastic request. -/
def CoreSt.elaEntry (c : CoreSt) (r : ElaReq) : Option QEntry := (c.queue 3).ents.find? (fun e => e.seqNo = r.seqNo)

/-- An entry of queue k replaced by its push number. -/
def CoreSt.setEntry (c : CoreSt) (k : Nat) (e : QEntry) : CoreSt :=
  let qs := c.queue k
  c.setQueue k { qs with ents := qs.ents.map (fun y => if y.seqNo = e.seqNo then e else y) }

/-- The entry of an elastic request marked finished, with the bytes an EREAD will make visible; its DESCRIPTOR_COMPLETE may
follow. -/
def State.finishReq (s : State) (r : ElaReq) (ws : List MemWrite) : State :=
  s.modCore r.core (fun c => match c.elaEntry r with
    | some e => c.setEntry 3 { e with pend := ws, moved := 1 }
    | none => c)

/-- A request removed from its window. -/
def State.dropReq (s : State) (q w id : Nat) : State :=
  s.modWin q w (fun x => { x with reqs := x.reqs.filter (fun r => r.id ≠ id) })

/-- A request that completes as lost (R115, R428): counted, recorded, its descriptor finished without data. -/
def State.loseReq (s : State) (q w : Nat) (r : ElaReq) : State :=
  let s := (s.dropReq q w r.id).elaCount q 2 1
  let s := match (s.core r.core).elaEntry r with
    | some e => s.coreRecord ((s.virtOf r.core).getD 0) r.core
        { kind := 0x0E, source := 3, pc := e.pc, tpl := e.tpl, stage := e.stage, ord := e.ord, w0 := e.desc.w0
          pos := ((s.core r.core).queue 3).ents.findIdx (fun (x : QEntry) => decide (x.seqNo = e.seqNo))
          w7 := e.desc.w7, arg := r.id + w * 2 ^ 16 }
    | none => s
  s.finishReq r []

/-- A retry of a request (R427): resent on its next route, or lost when none remains. -/
def State.retryReq (s : State) (q w : Nat) (r : ElaReq) (t : Nat) : State :=
  match s.nextRoute q r with
  | none => s.loseReq q w r
  | some k =>
    let r := { r with route := k, sentAt := t, data := [], tries := Map.upd (α := Nat) r.tries k 0 (· + 1) }
    ((s.setReq q w r).elaCount q 1 1).sendReq r

/-- Requests whose present route's port is `port` retried at once when it is declared down (R427). -/
def State.retryPort (s : State) (port t : Nat) : State :=
  s.each (List.range 4) (fun s q =>
    s.each (s.quad q).wins (fun s p =>
      s.each (p.2.reqs.filter (fun r => r.waiting.isNone && decide (s.destPort r.dest r.route = port)))
        (fun s r => s.retryReq q p.1 r t)))

/-- Requests of a window that wait, sent in order while its limits allow (R419); their wait is counted. -/
def State.releaseWaiting (s : State) (q w t : Nat) : State :=
  s.each ((s.quad q).win w).reqs (fun s r =>
    match r.waiting with
    | none => s
    | some since =>
      if s.winRoom q w r && ((s.quad q).win w).reqs.all (fun y => y.waiting.isNone || decide (r.id = y.id) ||
          decide ((y.id + 65536 - r.id) % 65536 < 32768)) then
        let r := { r with waiting := none, sentAt := t, tries := [(r.route, 1)] }
        ((s.setReq q w r).elaCount q 6 (t - since)).sendReq r
      else s)

/-! ### The target (R420 to R426) -/

/-- The window check of R420. -/
def State.winAccepts (s : State) (q : Nat) (p : Packet) : Bool :=
  let e := s.reg .QD_ELA_WIN (q * 1024 + pkWin p)
  bitAt e 0 && decide (bitsOf e 20 1 = pkSrc p ∧ bitsOf e 22 21 = pkSrcCore p / 64 ∧ bitsOf e 48 33 = pkKey p)

/-- A response to a request packet (R416): sent by the target's core with DST_WIN from the window's PEER_WIN. -/
def State.respond (s : State) (q : Nat) (p : Packet) (status : Nat) (data : List Byte) : State :=
  let win := s.fld .QD_ELA_WIN (q * 1024 + pkWin p) 32 23
  let hops := max 1 (s.fld .QD_ELA_CFG q 43 36)
  let isRead : Bool := pkType p = 1
  let n := if isRead && status = 0 then packetsOf (pkLen p) else 1
  let mk := fun (i : Nat) =>
    let w0 := (if isRead then 3 else 2) + status * 4 + pkRoute p % 5 * 32 + pkSrcCore p * 256 + pkSrc p * 65536 +
      s.globalId * 2 ^ 36 + pkDstCore p * 2 ^ 56
    let w1 := pkKey p + pkReq p * 65536 + win * 2 ^ 32 + i * 2 ^ 42 + hops * 2 ^ 48
    (⟨BitVec.ofNat 64 w0, BitVec.ofNat 64 w1, 0, BitVec.ofNat 64 (pkLen p - 1), (data.drop (4096 * i)).take 4096⟩ : Packet)
  s.each ((List.range n).map mk) (fun s r => s.corePacket ((s.phys (pkDstCore p)).getD (72 * q)) r)

/-- The key of a group counter: window and group number (R421). -/
def groupKey (w g : Nat) : Nat := w * 4096 + g
/-- A group's count. -/
def CoreSt.groupCount (c : CoreSt) (k : Nat) : Int := Map.get (α := Int) c.groups k 0
/-- A group's count set; a count of 0 with no flagged request held is freed (R421). -/
def CoreSt.setGroup (c : CoreSt) (k : Nat) (n : Int) : CoreSt :=
  if n = 0 && !(c.held.any (fun h => groupKey h.win (pkGroup h.pkt) = k)) then
    { c with groups := Map.del (α := Int) c.groups k }
  else { c with groups := Map.set (α := Int) c.groups k n }

/-- May a member raise its counter (R421): one exists or a place of the 64 is free, and it stays within its range. -/
def CoreSt.groupRoom (c : CoreSt) (k : Nat) : Bool :=
  ((Map.find (α := Int) c.groups k).isSome || decide (c.groups.length < 64)) && decide (c.groupCount k < 131071)

end Sys2Proof.Machine
end

