-- ==== Sys2Proof/Machine/LinkCode.lean ====
section
/-! DEFINITION. The lane code of a Jalben port (R359 to R362): the RS(544,514) code over 10-bit symbols, the codeword's message, the PRBS31
scrambler, and the striping of the link stream over lanes. The field, generator and symbol order are those of the IEEE 802.3 RS-FEC
sublayer that R359 names (PRESUMED, log entry 134). -/
namespace Sys2Proof.Machine

/-! ### The field GF(2^10), by x^10 + x^3 + 1 -/

/-- An element times α. -/
def gf10Double (a : Nat) : Nat := if a < 512 then 2 * a else (2 * a) ^^^ 0x409
/-- A product. -/
def gf10Times (a b : Nat) : Nat := (List.range 10).foldr (fun i r => if b.testBit i then gf10Double r ^^^ a else gf10Double r) 0
/-- The power α^n. -/
def gf10Power : Nat → Nat
  | 0 => 1
  | n + 1 => gf10Double (gf10Power n)
/-- The inverse of a nonzero element: its power of 1,022. -/
def gf10Inverse (a : Nat) : Nat :=
  ((List.range 9).foldl (fun (x : Nat × Nat) _ => let y := gf10Times x.1 x.1; (y, gf10Times x.2 y)) (a, 1)).2
/-- The value at x of a polynomial given from its highest coefficient down. -/
def gf10Horner (l : List Nat) (x : Nat) : Nat := l.foldl (fun r c => gf10Times r x ^^^ c) 0
/-- The value at x of a polynomial given from its lowest coefficient up. -/
def gf10Value (l : List Nat) (x : Nat) : Nat := gf10Horner l.reverse x

/-! ### RS(544,514) (R359) -/

/-- The generator's coefficients below its leading one, from the highest down: the product of x + α^i for i from 0 to 29. -/
def rs544Generator : List Nat :=
  ((List.range 30).foldl (fun (g : List Nat) i =>
    (g ++ [0]).zipWith (· ^^^ ·) (0 :: g.map (gf10Times (gf10Power i)))) [1]).drop 1

/-- The 30 parity symbols of 514 message symbols, in the order of transmission. -/
def rs544Parity (m : List Nat) : List Nat :=
  m.foldl (fun (r : List Nat) x => let k := x ^^^ r.headD 0; ((r.drop 1) ++ [0]).zipWith (fun a g => a ^^^ gf10Times k g) rs544Generator)
    (List.replicate 30 0)

/-- The 30 syndromes of a received codeword. -/
def rs544Syndromes (w : List Nat) : List Nat := (List.range 30).map (fun i => gf10Horner w (gf10Power i))

/-- A sum of polynomials, one scaled and shifted, from the lowest coefficient up. -/
def gf10AddShifted (a b : List Nat) (c k : Nat) : List Nat :=
  (List.range (max a.length (b.length + k))).map (fun i => a.getD i 0 ^^^ (if i < k then 0 else gf10Times c (b.getD (i - k) 0)))

/-- The state of the locator search: the locator, its last other form, its length, the shift since and the discrepancy then. -/
structure Locator where
  now   : List Nat := [1]
  last  : List Nat := [1]
  len   : Nat := 0
  shift : Nat := 1
  disc  : Nat := 1
  deriving DecidableEq, Repr

/-- One step of the search with syndrome n. -/
def Locator.step (s : List Nat) (x : Locator) (n : Nat) : Locator :=
  let d := (List.range (x.len + 1)).foldl (fun r i => r ^^^ gf10Times (x.now.getD i 0) (s.getD (n - i) 0)) 0
  if d = 0 then { x with shift := x.shift + 1 }
  else
    let next := gf10AddShifted x.now x.last (gf10Times d (gf10Inverse x.disc)) x.shift
    if 2 * x.len ≤ n then { now := next, last := x.now, len := n + 1 - x.len, shift := 1, disc := d }
    else { x with now := next, shift := x.shift + 1 }

/-- The error values at the places a locator names, by place from the start of the codeword; none when it names too few. -/
def rs544Errors (s : List Nat) (l : Locator) : Option (List (Nat × Nat)) :=
  let omega := (List.range 30).map (fun n => (List.range (n + 1)).foldl (fun r i => r ^^^ gf10Times (l.now.getD i 0) (s.getD (n - i) 0)) 0)
  let slope := (List.range l.now.length).map (fun i => if i % 2 = 0 then l.now.getD (i + 1) 0 else 0)
  let hits := (List.range 544).filter (fun k => gf10Value l.now (gf10Power (480 + k)) = 0)
  if hits.length ≠ l.len ∨ 15 < l.len then none
  else some (hits.map (fun k =>
    let y := gf10Power (480 + k)
    (k, gf10Times (gf10Power (543 - k)) (gf10Times (gf10Value omega y) (gf10Inverse (gf10Value slope y))))))

/-- A codeword decoded: its 514 message symbols and whether any symbol was corrected, or none when it is uncorrectable. -/
def rsDecode544 (w : List Nat) : Option (List Nat × Bool) :=
  let s := rs544Syndromes w
  if s.all (· = 0) then some (w.take 514, false)
  else match rs544Errors s ((List.range 30).foldl (Locator.step s) {}) with
    | none => none
    | some es =>
      let w' := es.foldl (fun w e => setNth w e.1 (w.getD e.1 0 ^^^ e.2)) w
      if (rs544Syndromes w').all (· = 0) then some (w'.take 514, true) else none

/-! ### The message (R360, R361) -/

/-- The low 10-bit symbols of a number, the lowest first. -/
def symbolsOf : Nat → Nat → List Nat
  | 0, _ => []
  | n + 1, x => x % 1024 :: symbolsOf n (x / 1024)
/-- The number of which symbols are the digits. -/
def ofSymbols : List Nat → Nat
  | [] => 0
  | x :: xs => x + 1024 * ofSymbols xs

/-- The codeword header (R361): LANE, GCOUNT, SB. -/
def laneHeader (lane gcount sb : Nat) : Nat := lane % 8 + gcount % 32 * 8 + sb % 4096 * 256

/-- The codeword of a header and 640 bytes as they are sent. -/
def laneCodeword (header : Nat) (bytes : List Byte) : List (BitVec 10) :=
  let m := symbolsOf 514 (header + ofLe bytes * 2 ^ 20)
  (m ++ rs544Parity m).map (BitVec.ofNat 10)

/-- The header and the 640 bytes that message symbols hold. -/
def laneMessage (m : List Nat) : Nat × List Byte :=
  let x := ofSymbols m
  (x % 2 ^ 20, leBytes 640 (x / 2 ^ 20))

/-! ### The scrambler (R360) -/

/-- The sequence's state at the first codeword of a group whose GCOUNT is 0: all ones, the lane number XORed into the low 3 bits. -/
def prbsSeed (lane : Nat) : Nat := 0x7FFFFFFF ^^^ (lane % 8)
/-- One bit of x^31 + x^28 + 1 shifted in at bit 0 (DEDUCED, log entry 139). -/
def prbsStep (x : Nat) : Nat := 2 * x % 2 ^ 31 + (if x.testBit 30 != x.testBit 27 then 1 else 0)
/-- The next byte of the sequence, its first bit the least significant, and the state after it. -/
def prbsByte (x : Nat) : Byte × Nat :=
  (List.range 8).foldl (fun (r : Byte × Nat) i => let y := prbsStep r.2; (r.1 ||| BitVec.ofNat 8 (y % 2 * 2 ^ i), y)) (0, x)
/-- Bytes XORed with the sequence, and its state after them. -/
def scramble : List Byte → Nat → List Byte × Nat
  | [], x => ([], x)
  | b :: bs, x =>
    let (k, y) := prbsByte x
    let (r, z) := scramble bs y
    ((b ^^^ k) :: r, z)

/-! ### Striping (R362) -/

/-- The bytes of a group's stream that go to one of `w` lanes: its 8-byte words j with j mod w = lane. -/
def stripe (w lane : Nat) (b : List Byte) : List Byte :=
  (List.range 80).flatMap (fun j => (b.drop (8 * (j * w + lane))).take 8)
/-- The stream of a group again from its lanes' bytes. -/
def unstripe {α : Type} (lanes : List (List α)) : List α :=
  (List.range 80).flatMap (fun j => lanes.flatMap (fun l => (l.drop (8 * j)).take 8))
/-- The physical lanes that are working, in ascending order: logical lane k is the k-th (R362). -/
def workingLanes (mask : Nat) : List Nat := (List.range 8).filter (fun k => mask.testBit k)

end Sys2Proof.Machine
end

