-- ==== Sys2Proof/Machine/TimeOps.lean ====
section
/-! DEFINITION. The timebase's operations (R438 to R467): states, bound, election and parent choice, servo, and the symbols of
the snap barrier. -/
namespace Sys2Proof.Machine

/-- The timebase changed by a function. -/
def State.modTime (s : State) (f : TimeSt → TimeSt) : State := { s with time := f s.time }
/-- TB_STAT.STATE (R469): 0 FREE, 1 ACQUIRE, 2 LOCKED, 3 HOLDOVER, 4 OUT_OF_STEP. -/
def State.tbState (s : State) : Nat := s.fld .TB_STAT 0 2 0
/-- TB_STAT.GM. -/
def State.isGm (s : State) : Bool := s.bit .TB_STAT 0 3
/-- TB_STAT.PARENT, 15 for none. -/
def State.tbParent (s : State) : Nat := s.fld .TB_STAT 0 7 4
/-- Does some quadrant run a plan. -/
def State.anyRuns (s : State) : Bool := (List.range 4).any s.runs

/-- The error bound in thousandths of a sixty-fourth of a drip (R459), none where it has none. -/
def State.bound (s : State) (t : Nat) : Option Nat :=
  match s.tbState with
  | 2 => if s.isGm then some 0 else some (3072 + 1152 * s.fld .TB_STAT 0 14 8)
  | 3 => some (s.time.lostBound + (t - s.time.lostAt) * 192 / 1000000)
  | _ => none

/-- TB_STAT.BOUND brought up to date at drip t: in sixty-fourths, rounded up; 0xFFFF in FREE (R459). -/
def State.noteBound (s : State) (t : Nat) : State :=
  match s.bound t with
  | some b => s.setFld .TB_STAT 0 47 32 (min 0xFFFF (ceilDiv b 1000))
  | none => if s.tbState = 0 then s.setFld .TB_STAT 0 47 32 0xFFFF else s

/-- A change of timebase state with its notice (R457, R529); OUT_OF_STEP is reported to the partition master,
and stands in for HOLDOVER once the reference is lost (R681). -/
def State.tbEnter (s : State) (dest t : Nat) : State :=
  let st := if dest = 3 ∧ s.time.refLost then 4 else dest
  if s.tbState = st then s.noteBound t
  else
    let s := if st = 3 then s.modTime (fun x => { x with lostAt := t, lostBound := (s.bound t).getD (s.fld .TB_STAT 0 47 32 * 1000) }) else s
    let s := (s.setFld .TB_STAT 0 2 0 st).modTime (fun x => { x with good := 0, far := 0, skips := 0, stepped := false })
    let s := if st = 4 then (s.setBit .TB_STAT 0 16 true).send (.message 8 [s.globalId]) else s
    let s := s.noteBound t
    s.notice none 0x07 (s.reg .TB_STAT 0).toNat 0

/-- A parent lost (R458): HOLDOVER, the stratum-127 hold begins. -/
def State.loseParent (s : State) (t : Nat) : State :=
  let ms := max 1 (s.fld .TB_CFG 0 28 21)
  let s := (s.setFld .TB_STAT 0 7 4 15).modTime (fun x => { x with hold := some (t + ms * 1000000), retrain := none, thetas := [] })
  if s.tbState = 1 ∨ s.tbState = 2 then s.tbEnter 3 t else s

/-- The parent's port changes link state (R458): a retrain gives HOLDOVER without the hold, a return the same parent, any other
departure from ACTIVE loses the parent. -/
def State.parentLink (s : State) (port old st : Nat) : State :=
  -- the first port to enter ACTIVE starts the wait for a key (R451)
  let first : Bool := old ≠ 5 && st = 5 && (List.range 12).all (fun p => decide (s.fld .LNK_STATE p 2 0 ≠ 5))
  let s := if first then s.modTime (fun x => { x with keySeen := max x.keySeen s.now }) else s
  if s.tbParent = port ∧ old = 5 ∧ st ≠ 5 then
    if st = 6 then
      ((s.setFld .TB_STAT 0 7 4 15).modTime (fun x => { x with retrain := some (port, s.now) })).tbEnter 3 s.now
    else s.loseParent s.now
  else match s.time.retrain with
    | some (p, since) =>
      if p ≠ port then s
      else if st = 5 ∧ s.now ≤ since + 100000000 then
        ((s.setFld .TB_STAT 0 7 4 port).modTime (fun x => { x with retrain := none })).tbEnter 1 s.now
      else if st ≠ 6 then s.loseParent s.now
      else s
    | none => s

/-! ### Election (R451, R452) -/

/-- The key of a priority and a global ID: the lower ranks better (R451). -/
def gmKey (prio id : Nat) : Nat := prio * 2 ^ 20 + id
/-- This device's own key. -/
def State.ownKey (s : State) : Nat := gmKey (s.fld .TB_CFG 0 8 1) s.globalId
/-- Is the device a grandmaster candidate (R451). -/
def State.candidate (s : State) : Bool :=
  s.bit .KPR_FABRIC_ID 0 20 && !s.bit .TB_CFG 0 0 && decide (s.fld .TB_CFG 0 8 1 < 255)

/-- A port of the device, as data. -/
def State.portSt (s : State) (port : Nat) : PortSt := Map.get (α := PortSt) s.ports port {}
/-- Ports whose advertised key counts (R451): ACTIVE, in PORT_MASK, a stratum below 127, the device's own fabric number. -/
def State.keyPorts (s : State) : List Nat :=
  (List.range 12).filter (fun p =>
    s.fld .LNK_STATE p 2 0 = 5 && bitAt (s.reg .TB_CFG 0) (9 + p) && decide ((s.portSt p).peerStratum < 127) &&
    (s.portSt p).peerKey.isSome && s.fld .LNK_PEER p 19 16 = s.globalId / 65536)
/-- The key a port's partner advertises. -/
def State.keyOf (s : State) (p : Nat) : Nat := ((s.portSt p).peerKey).getD (2 ^ 28)
/-- The best key advertised. -/
def State.bestKey (s : State) : Option Nat := ((s.keyPorts).map s.keyOf).min?

/-- The port R452 chooses: the best key, then the lowest stratum (below 126), then the lowest number. -/
def State.bestPort (s : State) : Option Nat :=
  match s.bestKey with
  | none => none
  | some k =>
    let ps := (s.keyPorts).filter (fun p => decide (s.keyOf p = k ∧ (s.portSt p).peerStratum < 126))
    match (ps.map (fun p => (s.portSt p).peerStratum)).min? with
    | some st => ps.find? (fun p => decide ((s.portSt p).peerStratum = st))
    | none => none

/-- TB_GM written from a key. -/
def State.setGmKey (s : State) (key : Nat) : State := s.setReg .TB_GM 0 (BitVec.ofNat 64 (key % 2 ^ 28 + 2 ^ 28))

/-- Does this device's own key rank better than the best advertised one (R451, R474): equal keys, which a clash of IDs gives, rank by factory
identity, and a grandmaster's own key told back by the devices that follow it is no other's. -/
def State.ownBetter (s : State) (k : Nat) : Bool :=
  decide (s.ownKey < k) || (decide (s.ownKey = k) && (s.keyPorts.filter (fun p => decide (s.keyOf p = k))).all (fun p =>
    if (s.portSt p).peerStratum = 0 then decide ((s.reg .KPR_FACTORY_ID 0).toNat < (s.reg .LNK_PEER_FACTORY p).toNat) else s.isGm))

/-- The device becomes grandmaster (R451, R457); a stratum-127 hold that runs goes on (R458). -/
def State.becomeGm (s : State) (t : Nat) : State :=
  let s := (((s.setBit .TB_STAT 0 3 true).setFld .TB_STAT 0 7 4 15).setFld .TB_STAT 0 14 8 0).setGmKey s.ownKey
  let s := s.modTime (fun x => { x with retrain := none, thetas := [] })
  s.tbEnter 2 t

/-- A parent taken (R452, R457): ACQUIRE from FREE, HOLDOVER, or OUT_OF_STEP with no plan running. -/
def State.takeParent (s : State) (p t : Nat) : State :=
  if s.tbState = 4 ∧ s.anyRuns then s
  else
    let wasGm := s.isGm
    let s := ((s.setBit .TB_STAT 0 3 false).setFld .TB_STAT 0 7 4 p).setFld .TB_STAT 0 14 8 ((s.portSt p).peerStratum + 1)
    let s := (s.setGmKey (s.keyOf p)).modTime (fun x => { x with thetas := [], skips := 0, hold := none, retrain := none })
    if s.tbState = 2 ∧ !wasGm then s.noteBound t else s.tbEnter 1 t

/-- Election and parent choice at an exchange (R451, R452, R458) (DEDUCED, log entry 78). -/
def State.electTime (s : State) (t : Nat) : State :=
  if s.bit .TB_CFG 0 0 then s
  else match s.bestKey with
    | none => s
    | some k =>
      if s.candidate ∧ s.ownBetter k then (if s.isGm then s else s.becomeGm t)
      else if s.time.hold.isSome ∨ s.time.retrain.isSome then s
      else match s.bestPort with
        | none => s
        | some p =>
          let cur := s.tbParent
          if cur = 15 ∨ s.tbState = 4 ∨
              (p ≠ cur ∧ (k < s.keyOf cur ∨ (s.portSt p).peerStratum + 2 ≤ (s.portSt cur).peerStratum)) then s.takeParent p t
          else (s.setFld .TB_STAT 0 14 8 (min 127 ((s.portSt cur).peerStratum + 1))).setGmKey (s.keyOf cur)

/-! ### The servo (R456, R457) -/

/-- The filtered offset in sixty-fourths of a drip: the mean of the last offsets, rounded down or up by `up` when it is not whole (R456
states no rounding). -/
def TimeSt.filtered (x : TimeSt) (up : Bool) : Int :=
  let n : Int := 2 * (x.thetas.length : Int)
  let sum := x.thetas.foldl (· + ·) 0
  if n = 0 then 0 else sum / n + (if up && decide (sum % n ≠ 0) then 1 else 0)

/-- An offset in halves of a sixty-fourth rounded to a multiple of 2 drips, in drips (R457). -/
def stepOf (theta2 : Int) : Int := (theta2 + 128) / 256 * 2

/-- TB_OFFSET: the filtered offset, and an applied slew toward the parent of at most 100 ppb; the law of the servo within that
limit is not given, so its size is a free value (R456, R473). -/
def State.noteOffset (s : State) : State :=
  let (v, s) := s.fresh
  let f := s.time.filtered (bitAt v 63)
  let m : Int := ((v.toNat % 2 ^ 32 % 100001 : Nat) : Int)
  let slew : Int := if f = 0 then 0 else if f < 0 then -m else m
  s.setReg .TB_OFFSET 0 (BitVec.ofNat 64 ((BitVec.ofInt 32 f).toNat + (BitVec.ofInt 32 slew).toNat * 2 ^ 32))

/-- A valid exchange with the parent, its offset doubled (R456, R457). -/
def State.servo (s : State) (theta2 : Int) (t : Nat) : State :=
  let a := theta2.natAbs
  let near : Bool := decide (a ≤ 32)
  let far : Bool := decide (2048 < a)
  let s := (s.modTime (fun x => { x with
    thetas := (theta2 :: x.thetas).take 16, good := if near then x.good + 1 else 0, far := if far then x.far + 1 else 0, skips := 0 })).noteOffset
  match s.tbState with
  | 1 =>
    if far ∧ s.anyRuns then s.tbEnter 4 t
    else if 256 < a ∧ !s.anyRuns ∧ !s.time.stepped ∧ (List.range 4).all (fun q => (s.quad q).plan.isNone) then
      let n : Int := (s.now : Int) + stepOf theta2
      let s := (s.setReg .TB_COUNT 0 (BitVec.ofNat 64 n.toNat)).setBit .TB_STAT 0 15 true
      s.modTime (fun x => { x with stepped := true, thetas := [], good := 0 })
    else if 16 ≤ s.time.good then s.tbEnter 2 t
    else s
  | 2 => if 2 ≤ s.time.far then s.tbEnter 4 t else s.noteBound t
  | _ => s

/-! ### The snap barrier (R461 to R466) -/

/-- A sideband symbol requested of a port (R363): it waits for the first group that starts after the request and that it is chosen for
(R467). A port that sends no groups, in OFF, DETECT or ACQUIRE, takes none (DESIGN CHOICE, log entry 136). -/
def State.symbol (s : State) (port kind data : Nat) : State :=
  if s.fld .LNK_STATE port 2 0 < 3 then s
  else
    let p := s.portSt port
    { s with ports := Map.set (α := PortSt) s.ports port { p with symQ := p.symQ ++ [(kind, data)] } }

/-- A symbol's place in the order of precedence (R467): RETRAIN and RECONFIG, HOLD, EPOCH0, RELEASE, ARRIVE, TIME_MARK, PROBE. -/
def symbolRank (x : Nat × Nat) : Nat :=
  match x.1 with
  | 1 | 2 => 0
  | 3 => 4 - x.2 / 64
  | 4 => 5
  | _ => 6

/-- The symbol a group that starts carries: of the first rank, the one requested earliest (R363, R467). -/
def nextSymbol (l : List (Nat × Nat)) : Option (Nat × Nat) :=
  l.find? (fun x => l.all (fun y => decide (symbolRank x ≤ symbolRank y)))

/-- A SNAP symbol requested of a port (R461, R363). -/
def State.snapSymbol (s : State) (port event code : Nat) : State := s.symbol port 3 (code % 64 + event * 64)
/-- Ports of a mask. -/
def maskPorts (m : Nat) : List Nat := (List.range 12).filter (fun p => m.testBit p)
/-- A SNAP symbol sent on every port of TB_SNAP_CFG.PORTS but one (R463). -/
def State.snapForward (s : State) (event code except : Nat) : State :=
  s.each ((maskPorts (s.fld .TB_SNAP_CFG 0 11 0)).filter (· ≠ except)) (fun s p => s.snapSymbol p event code)

/-- The event count an originator chooses (R462). -/
def State.eventCount (s : State) : Nat :=
  let lead := max 1 (s.fld .TB_SNAP_CFG 0 32 28)
  ceilDiv (s.now + lead * 2 ^ 20) (2 ^ 20) * 2 ^ 20

/-- The event count a receiver finds from a code (R462): the multiple of 2^20 within ±2^25 of its own count
(DEDUCED, log entry 79). -/
def countOf (code t : Nat) : Nat :=
  let base := t / 2 ^ 20
  let d := (code + 64 - base % 64) % 64
  if d ≤ 32 then (base + d) * 2 ^ 20
  else (base - (64 - d)) * 2 ^ 20

/-- Was the same EVENT and CODE received within 2^26 drips (R463). -/
def State.seenSnap (s : State) (event code t : Nat) : Bool :=
  s.time.seen.any (fun x => x.event = event && x.code = code && decide (t < x.at' + 2 ^ 26))
/-- A SNAP symbol remembered. -/
def State.noteSnap (s : State) (event code t : Nat) : State :=
  s.modTime (fun x => { x with seen := (x.seen.filter (fun y => decide (t < y.at' + 2 ^ 26))) ++ [⟨event, code, t⟩] })

/-- A timed SNAP symbol taken at drip t (R462, R463): dropped when it repeats; forwarded; then `act` with its event count, or
LATE when that has passed. -/
def State.takeSnap (s : State) (port event code t : Nat) (act : State → Nat → State) (late : State → State) : State :=
  if s.seenSnap event code t then s
  else
    let s := (s.noteSnap event code t).snapForward event code port
    let n := countOf code t
    if n < t then late (s.setBit .TB_SNAP_STAT 0 9 true) else act s n

/-- An originated event (R462, R463): its count, sent on every member port. -/
def State.originate (s : State) (event : Nat) (act : State → Nat → State) : State :=
  let n := s.eventCount
  let code := n / 2 ^ 20 % 64
  act ((s.noteSnap event code s.now).snapForward event code 15) n

/-- Is a launch count held (R466). -/
def State.heldAt (s : State) (l : Nat) : Bool :=
  s.bit .TB_SNAP_STAT 0 7 && (s.time.holdNow || decide ((s.reg .TB_HOLD_AT 0).toNat ≤ l))

/-- A hold of count n in force (R44, R466, R512): the earlier count governs; EPOCH0s at or after it, pending switches and
restarts are cancelled; the quadrants that run plans are held, and their cores given no launch at or after it (R72). -/
def State.holdAt (s : State) (n : Nat) : State :=
  let old := (s.reg .TB_HOLD_AT 0).toNat
  let h := if s.bit .TB_SNAP_STAT 0 7 ∧ old ≠ 0 then min old n else n
  let s := (s.setReg .TB_HOLD_AT 0 (BitVec.ofNat 64 h)).setBit .TB_SNAP_STAT 0 7 true
  let s := match s.time.epoch0 with
    | some e => if h ≤ e then (s.modTime (fun x => { x with epoch0 := none })).setBit .TB_SNAP_STAT 0 8 false else s
    | none => s
  s.each ((List.range 4).filter s.runs) (fun s q =>
    let s := s.each (s.virtCores q) (fun s v => match s.phys v with
      | some p => s.modCore p (fun c =>
        if h ≤ (c.reg .SEQ_NEXT_LAUNCH 0).toNat then c.setFld .SEQ_NEXT_SEL 0 16 16 0 else c)
      | none => s)
    let s := (s.setFld .QD_VARIANT q 7 4 0).setBit .QD_VARIANT q 8 true
    let s := (s.setReg .QD_SWITCH_COUNT q 0).modQuad q (fun x => { x with notice := none, restart := none })
    (s.setBit .QD_RECOVERY q 1 false).setReg .QD_RESTART_AT q 0)

/-- This device's keeper raises the emergency hold (R466). -/
def State.raiseHold (s : State) : State :=
  (s.modTime (fun x => { x with holdNow := true, holdFired := false })).originate 3 (fun s n => s.holdAt n)

/-- An EPOCH0 of event count n taken (R465, R466): dropped when a hold in force lies at or after it. -/
def State.epoch0At (s : State) (n : Nat) : State :=
  if s.bit .TB_SNAP_STAT 0 7 ∧ n ≤ (s.reg .TB_HOLD_AT 0).toNat then s.bump .TB_SNAP_STAT 0 31 16 1
  else (s.modTime (fun x => { x with epoch0 := some n })).setBit .TB_SNAP_STAT 0 8 true

/-- Quadrants whose roles an epoch-zero alignment concerns (R24, R43): loaded and not yet started, or held; a standby takes no part. -/
def State.originQuads (s : State) : List Nat :=
  (List.range 4).filter (fun q => match (s.quad q).plan with
    | some p => !p.standby && (!s.runs q || s.bit .QD_VARIANT q 8)
    | none => false)

/-- Load-late (R24, R465) of the quadrants `qs`: notice 0x0E to the owning host of each quadrant concerned and to the management
function, and the message to the partition master's keeper. -/
def State.loadLate (s : State) (qs : List Nat) (count : Nat) : State :=
  let mask := qs.foldl (fun m q => m + 2 ^ q) 0
  (s.each qs (fun s q => s.notice (some q) 0x0E count s.now)).send (.message 10 [s.globalId, mask, s.now])

end Sys2Proof.Machine
end

