-- ==== Sys2Proof/Machine/LinkOps.lean ====
section
/-! DEFINITION. Shared operations of a Jalben port (R359 to R399): units and their CRC, slot tables, sending, receiving,
acknowledgement and replay, states, training, retrain and bank swaps. -/
namespace Sys2Proof.Machine

/-! ### CRC-32 and units (R365, R366) -/

/-- Eight shifts of the reflected CRC-32. -/
def crc32Bits : Nat → Nat → Nat
  | 0, c => c
  | f + 1, c => crc32Bits f (if c % 2 = 1 then (c / 2) ^^^ 0xEDB88320 else c / 2)
/-- The CRC-32 of IEEE 802.3 of a byte string (R366). -/
def crc32 (b : List Byte) : Nat :=
  (b.foldl (fun c x => crc32Bits 8 (c ^^^ x.toNat)) 0xFFFFFFFF) ^^^ 0xFFFFFFFF
/-- The mask of a unit kind: 0 whole, 1 half, 2 stomped (R366). -/
def unitMask (k : Nat) : Nat := match k with | 0 => 0 | 1 => 0xFFFF | _ => 0xFFFF0000
/-- The 136 bytes of a unit (R364). -/
def unitBytes (seq cls lk lv mask : Nat) (payload : List Byte) (invert : Bool) : List Byte :=
  let body := leBytes 4 (seq % 65536 + cls % 4 * 65536 + lk % 4 * 2 ^ 18 + lv % 4096 * 2 ^ 20) ++
    (payload ++ List.replicate 128 0).take 128
  let c := crc32 body ^^^ unitMask mask
  body ++ leBytes 4 (if invert then c ^^^ 0xFFFFFFFF else c)
/-- The mask kind of a received unit, none for a bad one. -/
def maskOf (b : List Byte) : Option Nat :=
  let c := crc32 (b.take 132) ^^^ ofLe ((b.drop 132).take 4)
  (List.range 3).find? (fun k => unitMask k = c)

/-! ### Slots -/

/-- The 32-bit entry of slot n of a port's active transmit table (R396). -/
def State.txEntry (s : State) (port n : Nat) : Nat :=
  let b := s.fld .LNK_STATE port 19 19
  natBits (s.reg .LNK_TX_SLOT ((b * 12 + port) * 2048 + n / 2)).toNat (32 * (n % 2) + 31) (32 * (n % 2))
/-- The entry of slot n of its active receive table. -/
def State.rxEntry (s : State) (port n : Nat) : Nat :=
  let b := s.fld .LNK_STATE port 20 20
  natBits (s.reg .LNK_RX_SLOT ((b * 12 + port) * 2048 + n / 2)).toNat (32 * (n % 2) + 31) (32 * (n % 2))
/-- Elastic slots before slot n in a table given by its entries. -/
def elasticBefore (ent : Nat → Nat) : Nat → Nat
  | 0 => 0
  | n + 1 => elasticBefore ent n + (if natBits (ent n) 1 0 = 2 then 1 else 0)
/-- The stream of a slot under a table: its owner (R378). -/
def slotStream (ent : Nat → Nat) (n : Nat) : Stream :=
  match natBits (ent n) 1 0 with
  | 1 => .planned (natBits (ent n) 31 16)
  | 2 => .elastic (elasticBefore ent n % 2)
  | 3 => .control
  | _ => .nobody

/-- The slot time over 1.36 drips: 8 / width, doubled at half rate (R368, R385). -/
def State.slotScale (s : State) (port : Nat) : Nat :=
  2 ^ (s.fld .LNK_STATE port 4 3) * (if s.bit .LNK_STATE port 5 then 2 else 1)

/-- Is a below b in sequence order, modulo 65,536. -/
def seqBelow (a b : Nat) : Bool := let d := (b + 65536 - a) % 65536; decide (0 < d ∧ d < 32768)

/-- One table digest: the CRC-32 over a bank's 4,096 entries in slot order (R384). -/
def State.digest (s : State) (r : Reg) (bank port : Nat) : Nat :=
  crc32 ((List.range 2048).flatMap (fun i => leBytes 8 (s.reg r ((bank * 12 + port) * 2048 + i)).toNat))

/-! ### Notices and going down -/

/-- Notice 0x06 of a port (R529). -/
def State.linkNotice (s : State) (port : Nat) : State :=
  s.notice (some (portQuad port)) 0x06 (s.reg .LNK_STATE port).toNat port

/-- STATE of a port set; LASER reads 1 beyond the probe (R381, R382); the timebase sees its parent's port leave ACTIVE or return
(R458). -/
def State.setLink (s : State) (port st : Nat) : State :=
  let s := s.parentLink port (s.linkState port) st
  let s := s.setFld .LNK_STATE port 2 0 st
  s.setBit .LNK_STATE port 21 (decide (2 ≤ st))

/-- LAST_REASON. -/
def State.linkReason (s : State) (port r : Nat) : State := s.setFld .LNK_STATE port 27 24 r

/-- A training starts afresh: exchange marks cleared, PEER_VALID cleared. -/
def PortSt.retrainFresh (p : PortSt) : PortSt :=
  { p with probes := 0, identIn := false, syncIn := false, syncOut := false, phase := none, request := false, target := none,
           symQ := p.symQ.filter (fun x => decide (x.1 ≠ 4)), markAt := none, delay := none, marksOut := [],
           marksIn := [], lastOut := none, lastIn := none, told := true, peerKey := none, peerStratum := 127 }

/-- What a link keeps nothing of when it goes down or off: queues, replay and reorder state, packets in part (R418). -/
def PortSt.emptied (p : PortSt) : PortSt :=
  { p.retrainFresh with
    paused := false, toMesh := [], stream := [], symQ := [], rxLanes := [], rxStream := [], nextSeq := 0, buffer := [], sentIn := [],
    replayQ := [], planned := [], elastic := [], dropping := [], rxSwap := false, control := [], nakQ := [], ackQ := [], txSlot := 0,
    sending := [], point := 0, expected := 0, got := [], bad := [], held := [], rxSlot := 0, lastAck := 0, elasticIn := [],
    partPkt := [] }

/-- A mirror lost for the given slots (R488). -/
def State.mirrorLost (s : State) (q : Nat) (ns : List Nat) (rehearse : Bool) : State :=
  let s := s.setBit .QD_MIRROR q 23 true
  let s := s.each ns (fun s n => if s.fld .HUB_SEQ_MIRROR (q * 128 + n) 1 0 = 0 then s else s.setFld .HUB_SEQ_MIRROR (q * 128 + n) 1 0 3)
  s.notice (some q) 0x03 (s.reg .QD_MIRROR q).toNat 0 rehearse

/-- Mirrors whose flow leaves by a link declared down that has no detour (R488). -/
def State.mirrorCut (s : State) (port : Nat) : State :=
  s.each (List.range 4) (fun s q =>
    let cut : Bool := s.bit .QD_MIRROR q 22 && !s.bit .QD_MIRROR q 23 &&
      decide (Config.mirrorPort q (s.fld .QD_MIRROR q 19 0) (s.fld .QD_MIRROR q 21 20) = port) &&
      (match (s.quad q).plan with | some p => !p.detours.contains port | none => false)
    if cut then s.mirrorLost q (List.range 128) false else s)

/-- A link declared down (R382, R390, R399): counted and noticed, truncated packets counted, elastic requests retried on other
routes, recovery begun where the port's quadrant runs a plan. -/
def State.declareDown (s : State) (port t : Nat) (rehearse : Bool := false) : State :=
  let cut := ((s.port port).partPkt.filter (fun p => !p.2.isEmpty)).length
  let s := s.bumpWrap .LNK_FAB_COUNT (port * 8 + 6) 63 0 cut
  let s := ((s.count port 14 1).modPort port PortSt.emptied).linkNotice port
  ((s.retryPort port t).mirrorCut port).recoveryEvent (portQuad port) rehearse

/-- A port goes OFF (R394, R399). -/
def State.portOff (s : State) (port t : Nat) : State :=
  let st := s.linkState port
  let s := (s.setBit .LNK_CTRL port 0 false).setLink port 0
  if st = 5 ∨ st = 6 then s.declareDown port t else s.modPort port PortSt.emptied

/-- A port leaves OFF for DETECT (R381, R394). -/
def State.portOn (s : State) (port : Nat) : State :=
  let s := s.setBit .LNK_CTRL port 0 true
  if s.linkState port = 0 then (s.setLink port 1).modPort port PortSt.emptied else s

/-! ### Retrain (R387 to R391) -/

/-- The planned flits that wait in the transmit queue when a pause begins get their sequence numbers too, while the replay buffer has room
(R389; DEDUCED, log entry 141). -/
def PortSt.holdPlanned (p : PortSt) : PortSt :=
  p.planned.foldl (fun (x : PortSt) e =>
    if x.buffer.length < 8192 ∧ x.planned = [] then x.holdUnsent e.1 e.2 else { x with planned := x.planned ++ [e] }) { p with planned := [] }

/-- The retrain begins: RETRAIN in two groups, PAUSED, replay counts and NAK queues cleared (R388). -/
def State.beginRetrain (s : State) (port reason : Nat) : State :=
  let s := ((s.setLink port 6).linkReason port reason).count port 11 1
  let s := s.modPort port (fun p => { p.holdPlanned with
    phase := some .pause, paused := true, nakQ := [], replayQ := [], syncIn := false, syncOut := false,
    buffer := p.holdPlanned.buffer.map (fun u => { u with replays := 0 }) })
  (s.symbol port 1 reason).symbol port 1 reason

/-- A port asks for a retrain at drip t (R387, R390, R391): it joins one that runs; the third in 10 s declares the link down;
commands and rehearsals do not count. -/
def State.retrain (s : State) (port reason t : Nat) (counts : Bool) : State :=
  if s.linkState port ≠ 5 then s
  else
    let recent := (s.port port).retrains.filter (fun x => decide (t < x + 10000000000))
    if counts && decide (recent.length ≥ 2) then
      ((s.setLink port 7).linkReason port 7).declareDown port t
    else
      (s.modPort port (fun p => { p with retrains := if counts then recent ++ [t] else recent })).beginRetrain port reason

/-- The limit of uncorrectable codewords in a window (R387, R397). -/
def State.errorLimit (s : State) (port : Nat) : Nat :=
  let e := s.fld .LNK_ERR_CFG port 5 0
  let e := if 20 ≤ e ∧ e ≤ 48 then e else 36
  let ms := s.fld .LNK_ERR_CFG port 47 32
  let ms := if 1 ≤ ms ∧ ms ≤ 10000 then ms else 1000
  800000000 * ms / s.slotScale port / 2 ^ e

/-! ### Groups of codewords (R359 to R363, R467) -/

/-- A calibration figure of a port at its present rate: transmit or receive, in sixty-fourths of a drip (R453, R473). -/
def State.portCal (s : State) (port : Nat) (rx : Bool) : Nat :=
  let lo := (if s.bit .LNK_STATE port 5 then 32 else 0) + (if rx then 16 else 0)
  s.fld .TB_PORT_CAL port (lo + 15) lo

/-- Lanes in use, 8, 4 or 2. -/
def State.lanes (s : State) (port : Nat) : Nat := 8 / 2 ^ s.fld .LNK_STATE port 4 3

/-- A group starts (R361, R363, R453, R467): its symbol is chosen, TX_BANK and PAUSED are set in lane 1, and a mark that goes in it departs
with it. A mark passed over waits for the next group, 51.2 drips on at full rate. -/
def PortSt.startGroup (p : PortSt) (cal : Nat) (half bank : Bool) : PortSt :=
  let sb1 := (if bank then 1 else 0) + (if p.paused then 2 else 0)
  match nextSymbol p.symQ with
  | none => { p with sb0 := 0, sb1 := sb1 }
  | some x =>
    let p := { p with sb0 := x.1 + x.2 % 256 * 16, sb1 := sb1, symQ := p.symQ.erase x }
    match p.markAt with
    | none => p
    | some d =>
      if x.1 = 4 then { p with marksOut := Map.set (α := Nat) p.marksOut x.2 (d / 5 + cal), lastOut := some x.2, told := false, markAt := none }
      else { p with markAt := some (d + if half then 32768 else 16384) }

/-- The next group of a port starts. -/
def State.startLaneGroup (s : State) (port : Nat) : State :=
  s.modPort port (fun p => p.startGroup (s.portCal port false) (s.bit .LNK_STATE port 5) (s.bit .LNK_STATE port 19))

/-- The stream begins anew (R360, R381, R388): no byte of it, GCOUNT 0, a new group. -/
def State.freshStream (s : State) (port : Nat) : State :=
  (s.modPort port (fun p => { p with
    stream := [], gcount := 0, txPrbs := [], rxLanes := [], rxPrbs := [], rxNext := [], rxStream := [] })).startLaneGroup port

/-- The state a lane's scrambler has at a codeword of a GCOUNT (R360). -/
def prbsAt (m : Map Nat) (gcount lane : Nat) : Nat := if gcount = 0 then prbsSeed lane else Map.get (α := Nat) m lane (prbsSeed lane)

/-- The codeword of a lane in the group that is full (R360 to R362), and the scrambler's state after it. -/
def PortSt.laneOut (p : PortSt) (w lane : Nat) : List (BitVec 10) × Nat :=
  let (bytes, x) := scramble (stripe w lane p.stream) (prbsAt p.txPrbs p.gcount lane)
  (laneCodeword (laneHeader lane p.gcount (if lane = 0 then p.sb0 else if lane = 1 then p.sb1 else 0)) bytes, x)

/-- Bytes of the link stream sent (R360, R362): a group leaves whenever one is whole, and the next one starts. -/
def State.pump (s : State) (port : Nat) (bytes : List Byte) : State :=
  let w := s.lanes port
  let p := { (s.port port) with stream := (s.port port).stream ++ bytes }
  if p.stream.length < 640 * w then s.setPort port p
  else
    let outs := (List.range w).map (p.laneOut w)
    let phys := workingLanes (s.fld .LNK_STATE port 13 6)
    let words := outs.zipIdx.map (fun (x : (List (BitVec 10) × Nat) × Nat) => (⟨Fin.ofNat 8 (phys.getD x.2 x.2), x.1.1⟩ : LaneWord))
    let p := { p with
      stream := p.stream.drop (640 * w), gcount := (p.gcount + 1) % 32
      txPrbs := outs.zipIdx.map (fun (x : (List (BitVec 10) × Nat) × Nat) => (x.2, x.1.2)) }
    ((s.setPort port p).send (.group port words)).startLaneGroup port

/-- A codeword decoded on logical lane `lane` (R359 to R361), with whether it was corrected: one that is uncorrectable keeps its place by
the GCOUNT expected there. -/
def PortSt.laneIn (p : PortSt) (lane : Nat) (sym : List (BitVec 10)) : PortSt × Bool × Bool :=
  let due := Map.get (α := Nat) p.rxNext lane 0
  let (x, fixed) : RxWord × Bool := match rsDecode544 (sym.map (·.toNat)) with
    | none => (⟨due, 0, List.replicate 640 0, true⟩, false)
    | some (m, fixed) => let (h, b) := laneMessage m; (⟨natBits h 7 3, natBits h 19 8, b, false⟩, fixed)
  let (b, st) := scramble x.bytes (prbsAt p.rxPrbs x.gcount lane)
  ({ p with
      rxLanes := Map.upd (α := List RxWord) p.rxLanes lane [] (· ++ [{ x with bytes := b }])
      rxPrbs := Map.set (α := Nat) p.rxPrbs lane st, rxNext := Map.set (α := Nat) p.rxNext lane ((x.gcount + 1) % 32) }, fixed, x.bad)

/-- An uncorrectable codeword counted, and a retrain begun by the one that breaks the window's limit (R387, R398). -/
def State.badWord (s : State) (port t : Nat) : State :=
  let s := (s.modPort port (fun p => { p with uncorr := p.uncorr + 1 })).count port 10 1
  if s.errorLimit port < (s.port port).uncorr then s.retrain port 2 t true else s

/-- A codeword comes in on a physical lane (R359, R362, R398): logical lanes are the working physical ones in ascending order. -/
def State.takeWord (s : State) (port : Nat) (x : LaneWord) (t : Nat) : State :=
  let lane := (workingLanes (s.fld .LNK_STATE port 13 6)).findIdx (fun k => decide (k = x.lane.val))
  if s.lanes port ≤ lane ∨ s.linkState port < 4 ∨ s.linkState port = 7 then s
  else
    let (p, fixed, bad) := (s.port port).laneIn lane x.sym
    let s := s.setPort port p
    let s := if fixed then s.count port 9 1 else s
    if bad then s.badWord port t else s

/-- The codewords at the head of every lane, once all of them belong to one group (R362). -/
def PortSt.headGroup (p : PortSt) (w : Nat) : Option (List RxWord) :=
  let l := (List.range w).filterMap (fun k => (Map.get (α := List RxWord) p.rxLanes k []).head?)
  if l.length = w ∧ l.all (fun x => x.gcount = (l.map (·.gcount)).headD 0) then some l else none

/-- Whole groups joined into the stream, by fuel (R362): a sideband symbol of a reserved kind is a class mismatch (R363). -/
def State.joinGroups (s : State) (port : Nat) : Nat → State
  | 0 => s
  | f + 1 => match (s.port port).headGroup (s.lanes port) with
    | none => s
    | some l =>
      let s := s.modPort port (fun p => { p with
        rxLanes := p.rxLanes.map (fun (e : Nat × List RxWord) => (e.1, e.2.drop 1))
        rxStream := p.rxStream ++ unstripe (l.map (fun x => x.bytes.map (fun b => (b, x.bad)))) })
      let sb := match l with | x :: _ => if x.bad then 0 else x.sb | [] => 0
      (if 6 ≤ sb % 16 then s.count port 7 1 else s).joinGroups port f

/-! ### Sending (R370 to R376) -/

/-- What a port puts into one slot: the new port, the unit, and the counters of LNK_COUNT it raises. -/
structure Sent where
  port   : PortSt
  bytes  : List Byte
  counts : List Nat := []
  eighth : Bool := false
  deriving DecidableEq, Repr

/-- The item an outgoing unit carries: NAK items ahead of ACK items (R373). -/
def PortSt.item (p : PortSt) : PortSt × Nat × Nat × List Nat :=
  match p.nakQ with
  | n :: r => ({ p with nakQ := r }, 2, n, [3])
  | [] => match p.ackQ with
    | a :: r => ({ p with ackQ := r }, 1, a / 16 % 4096, [])
    | [] => (p, 0, 0, [])

/-- An idle unit in slot n. -/
def PortSt.idleUnit (p : PortSt) (n : Nat) (counts : List Nat) : Sent :=
  let (p, lk, lv, cs) := p.item
  ⟨{ p with sentIn := Map.del (α := Nat) p.sentIn n, txSlot := p.txSlot + 1 }, unitBytes p.nextSeq 0 lk lv 0 [] false,
   counts ++ cs, false⟩

/-- A new sequenced unit in slot n, an idle unit and a window stall while 8,192 are unacknowledged (R372); a rehearsal may
invert its CRC (R501). -/
def PortSt.newUnit (p : PortSt) (n t cls mask : Nat) (payload : List Byte) (took : PortSt) : Sent :=
  if p.buffer.length ≥ 8192 then p.idleUnit n [12]
  else
    let (p, lk, lv, cs) := took.item
    let inv : Bool := decide (0 < p.corrupt)
    let u : TxUnit := { seq := p.nextSeq, cls := cls, mask := mask, payload := payload, slot := some n, sentAt := t, injected := inv }
    ⟨{ p with
        buffer := p.buffer ++ [u], nextSeq := (p.nextSeq + 1) % 65536, sentIn := Map.set (α := Nat) p.sentIn n p.nextSeq,
        txSlot := p.txSlot + 1, corrupt := p.corrupt - 1 },
      unitBytes u.seq cls lk lv mask payload inv,
      cs ++ (if inv then [] else [0]) ++ (if mask = 2 then [8] else []), false⟩

/-- The oldest replay in slot n (R375, R376): original SEQ, class, payload and mask, with ORIGIN. -/
def PortSt.replayUnit (p : PortSt) (n t : Nat) (seq lv : Nat) (timed : Bool) (rest : List (Nat × Nat × Bool)) : Sent :=
  match p.buffer.find? (fun u => u.seq = seq) with
  | none => { p with replayQ := rest }.idleUnit n []
  | some u =>
    let u' := { u with replays := u.replays + 1, sentAt := t }
    ⟨{ p with
        replayQ := rest, buffer := p.buffer.map (fun x => if x.seq = seq then u' else x),
        sentIn := Map.set (α := Nat) p.sentIn n seq, txSlot := p.txSlot + 1 },
      unitBytes u.seq u.cls 3 lv u.mask u.payload false,
      (if u.injected then [] else [if timed then 5 else 4]) ++ (if u.mask = 2 then [8] else []),
      decide (u'.replays ≥ 8) && !u.injected⟩

/-- Mask kind and payload of a flit as a unit (R366, R367). -/
def flitUnit (f : Flit) : Nat × List Byte :=
  (if !flitCrcOk f then 2 else if flitHalf f then 1 else 0, (f.data ++ List.replicate 128 0).take 128)

/-- The first element that passes a test, and the list without it. -/
def takeFirst {α : Type} (f : α → Bool) : List α → Option (α × List α)
  | [] => none
  | x :: xs => if f x then some (x, xs) else (takeFirst f xs).map (fun p => (p.1, x :: p.2))

/-- The next elastic flit of a channel: a packet starts only when all of it waits (R418). -/
def PortSt.elasticNext (p : PortSt) (ch : Nat) : Option (Flit × PortSt) :=
  let l := Map.get (α := List Flit) p.elastic ch []
  match l with
  | [] => none
  | f :: rest =>
    let going := Map.get (α := Bool) p.sending ch false
    if going || (l.take 64).any flitLast then
      some (f, { p with
        elastic := Map.set (α := List Flit) p.elastic ch rest
        sending := Map.set (α := Bool) p.sending ch (!flitLast f) })
    else none

/-- A replay, then a control unit, and otherwise an idle unit (R370). -/
def PortSt.repairUnit (p : PortSt) (n t : Nat) : Sent :=
  match p.replayQ with
  | (seq, lv, timed) :: rest => p.replayUnit n t seq lv timed rest
  | [] => match p.control with
    | m :: rest => p.newUnit n t 3 0 ((m ++ List.replicate 128 0).take 128) { p with control := rest }
    | [] => p.idleUnit n []

/-- The slot that tells the receiver whose a unit resent in CATCHUP is: the one it was first sent in, else the first one that its flow owns
(R365, R378; DESIGN CHOICE, log entry 142). -/
def TxUnit.origin (ent : Nat → Nat) (u : TxUnit) : Nat :=
  u.slot.getD (((List.range 4096).find? (fun n => slotStream ent n = .planned u.flow)).getD 0)

/-- CATCHUP (R388, R389): the oldest unit from the partner's P on that has not been resent in this retrain, in SEQ order, and after them the
flits held unsent during the pause; each with ORIGIN, as a replay. -/
def PortSt.catchupUnit (p : PortSt) (ent : Nat → Nat) (n t start : Nat) : Sent :=
  match p.buffer.find? (fun u => u.slot.isNone || decide (u.sentAt < start)) with
  | none => p.idleUnit n []
  | some u =>
    ⟨{ p with
        buffer := p.buffer.map (fun x => if x.seq = u.seq then { x with sentAt := t, slot := some (u.origin ent) } else x),
        sentIn := Map.set (α := Nat) p.sentIn n u.seq, txSlot := p.txSlot + 1 },
      unitBytes u.seq u.cls 3 (u.origin ent) u.mask u.payload false, if u.slot.isNone then [0] else [], false⟩

/-- The unit of the next slot of a port that is ACTIVE: used by its owner only (R370). -/
def PortSt.activeUnit (p : PortSt) (ent : Nat → Nat) (t : Nat) : Sent :=
  let n := p.txSlot % 4096
  match slotStream ent n with
  | .planned fl => match takeFirst (fun (x : Nat × Flit) => decide (x.1 = fl)) p.planned with
    | some (x, rest) => let (m, d) := flitUnit x.2; p.newUnit n t 1 m d { p with planned := rest }
    | none => p.idleUnit n []
  | .elastic ch => match p.elasticNext ch with
    | some (f, p') => let (m, d) := flitUnit f; p.newUnit n t 2 m d p'
    | none => p.idleUnit n []
  | .control => p.repairUnit n t
  | _ => p.idleUnit n []

/-- LINK_UNIT_TRANSMIT at drip t (R370, R381, R383, R388): the slot frame while ACTIVE, control units in any slot before it,
resent units in CATCHUP, idle units while DOWN or paused; nothing before the stream is aligned. -/
def State.transmit (s : State) (port t : Nat) : State :=
  let s := s.at' t
  let p := s.port port
  let st := s.linkState port
  let n := p.txSlot % 4096
  let r : Option Sent :=
    if st = 5 then some (p.activeUnit (s.txEntry port) t)
    else if st = 4 then some (p.repairUnit n t)
    else if st = 6 then
      match p.phase with
      | some .sync => some (p.repairUnit n t)
      | some .catchup => some (p.catchupUnit (s.txEntry port) n t p.catchAt)
      | _ => some (p.idleUnit n [])
    else if st = 7 then some (p.idleUnit n [])
    else none
  match r with
  | none => s
  | some x =>
    let s := ((s.setPort port x.port).send (.unit port x.bytes)).pump port x.bytes
    let s := s.each x.counts (fun s k => s.count port k 1)
    if x.eighth then s.retrain port 1 t true else s

/-! ### Receiving (R373 to R380) -/

/-- An ACK at point P: every unit below it released (R373). -/
def PortSt.acked (p : PortSt) (pt : Nat) : PortSt :=
  { p with
    buffer := p.buffer.filter (fun u => !seqBelow u.seq pt)
    replayQ := p.replayQ.filter (fun r => !seqBelow r.1 pt) }

/-- A NAK for slot n (R375): the unit sent most recently there, if unacknowledged, queued for replay once, under the slot it was first
sent in (R365; DEDUCED, log entry 135). -/
def PortSt.naked (p : PortSt) (n : Nat) : PortSt :=
  match Map.find (α := Nat) p.sentIn n with
  | none => p
  | some q =>
    if p.buffer.any (fun u => u.seq = q) && !(p.replayQ.any (fun r => r.1 = q)) then
      { p with replayQ := p.replayQ ++ [(q, match p.buffer.find? (fun u => u.seq = q) with | some u => u.slot.getD n | none => n, false)] }
    else p

/-- The acknowledgement point moved over the numbers received, by fuel. -/
def advancePoint : Nat → Nat → List Nat → Nat × List Nat
  | 0, pt, got => (pt, got)
  | f + 1, pt, got => if got.contains pt then advancePoint f ((pt + 1) % 65536) (got.erase pt) else (pt, got)

/-- A SEQ taken as received (R373): the point moves, and an ACK item is queued whenever it has advanced by 32. -/
def PortSt.took (p : PortSt) (seq t : Nat) : PortSt :=
  let (pt, got) := advancePoint (p.got.length + 1) p.point (seq :: p.got)
  let p := { p with point := pt, got := got }
  if (pt + 65536 - p.lastAck) % 65536 ≥ 32 then { p with ackQ := p.ackQ ++ [pt], lastAck := pt, lastAckAt := t } else p

/-- Has a SEQ been received already. -/
def PortSt.hasSeq (p : PortSt) (seq : Nat) : Bool := seqBelow seq p.point || p.got.contains seq

/-- The bad slots since the last good unit judged by the SEQ of the first good one after them (R374). -/
def PortSt.judgeGap (p : PortSt) (seq : Nat) : PortSt :=
  if p.bad.all (fun b => b.bound.isSome) then p
  else if seq = p.expected then { p with bad := p.bad.filter (fun b => b.bound.isSome) }
  else
    let fresh := p.bad.filter (fun b => b.bound.isNone && decide (b.slot < 8192))
    { p with
      nakQ := (p.nakQ ++ fresh.map (fun (b : BadSlot) => b.slot % 4096)).take (max 64 p.nakQ.length)
      bad := p.bad.map (fun b => if b.bound.isNone then { b with bound := some seq } else b) }

/-- Bad slots resolved because every number below their bound has been received (R378). -/
def PortSt.resolve (p : PortSt) : PortSt :=
  { p with bad := p.bad.filter (fun b => match b.bound with
      | none => true
      | some q => !(decide (p.point = q) || seqBelow q p.point)) }

/-- May a held unit be released (R378): no unresolved bad slot that came before it, its units numbered from the SEQ then expected on, could
belong to its stream. -/
def PortSt.free (p : PortSt) (h : HeldUnit) : Bool :=
  p.bad.all (fun b => !seqBelow b.from' h.seq || decide (b.stream ≠ h.stream ∧ b.stream ≠ .any))

/-- A flit put behind those that wait for their flow's next owned slot (R378, R411). -/
def PortSt.queueFlit (tag : Nat) (f : Flit) (x : PortSt) : PortSt :=
  { x with toMesh := Map.upd (α := List Flit) x.toMesh tag [] (· ++ [f]) }

/-- Flits a port forms of a planned unit for the mesh, each to wait for its flow's next owned slot (R411, R413). -/
def State.plannedOut (s : State) (port flow mask : Nat) (payload : List Byte) : State :=
  let e := s.reg .LNK_RX_FLOW (port * 65536 + flow)
  if !bitAt e 0 then s.fabCount port 0
  else if !s.keyValid port (bitsOf e 6 1) then
    (s.fabCount port 0).keyRecord port (s.fld .LNK_PKEY (port * 64 + bitsOf e 6 1) 15 0) 0 0 flow
  else
    let q := portQuad port
    let mk := fun tag => mkFlit tag 1 true true (mask = 1) payload (mask = 2)
    let tag := bitsOf e 16 7
    let fwd := bitsOf e 26 17
    let s := if tag = 0 then s
      else if s.bit .KPR_QUAD_STAT q 1 then (s.fabCount port 6).noticeTag q tag (72 * q)
      else s.modPort port (PortSt.queueFlit tag (mk tag))
    if fwd = 0 then s else s.modPort port (PortSt.queueFlit fwd (mk fwd))

/-- An elastic unit taken into its packet; a whole packet is released (R418). -/
def State.elasticOut (s : State) (port ch mask : Nat) (payload : List Byte) : State :=
  let part := Map.get (α := List Flit) (s.port port).partPkt ch []
  let f := mkFlit 0 2 part.isEmpty false (mask = 1) payload (mask = 2)
  let all := part ++ [f]
  let pk := packetOf (all.flatMap (·.data))
  let n := packetFlits pk
  if all.length < n then s.modPort port (fun x => { x with partPkt := Map.set (α := List Flit) x.partPkt ch all })
  else (s.modPort port (fun x => { x with partPkt := Map.del (α := List Flit) x.partPkt ch })).send
    (.packet port { pk with data := if n ≤ 1 then [] else pk.data })

/-- A unit released by the receiver (R378, R379, R383): to the mesh, to its packet, or its message handed on. -/
def State.release (s : State) (port : Nat) (h : HeldUnit) : State :=
  match h.stream with
  | .planned fl => s.plannedOut port fl h.mask h.payload
  | .elastic ch => s.elasticOut port ch h.mask h.payload
  | _ =>
    let code := (h.payload.headD 0).toNat
    if code ≥ 1 ∧ code ≤ 4 then s.send (.message (0x100 + port) (h.payload.map (·.toNat))) else s.count port 7 1

/-- Every held unit that may be released, lowest SEQ first. -/
def State.releaseAll (s : State) (port : Nat) : State :=
  let p := s.port port
  let go := p.held.filter p.free
  let s := s.setPort port { p with held := p.held.filter (fun h => !p.free h) }
  s.each go (fun s h => s.release port h)

/-- The place a held unit takes among the others: by SEQ, which is the order of first sending. -/
def insertHeld (h : HeldUnit) : List HeldUnit → List HeldUnit
  | [] => [h]
  | x :: xs => if seqBelow h.seq x.seq then h :: x :: xs else x :: insertHeld h xs

/-- The digest comparison of R384: planned slots blocked while they differ, with a notice when they begin to. -/
def State.judgeDigest (s : State) (port theirs : Nat) : State :=
  let mine := s.digest .LNK_RX_SLOT (s.fld .LNK_STATE port 20 20) port
  let s' := s.setBit .LNK_STATE port 16 (decide (mine ≠ theirs))
  if mine ≠ theirs then s'.linkNotice port else s'

/-- The receive bank swapped at a frame boundary once the partner's toggle has been seen, and its digest compared (R384, R397). -/
def State.frameStart (s : State) (port : Nat) : State :=
  let p := s.port port
  if s.linkState port = 5 ∧ p.rxSwap ∧ p.rxSlot % 4096 = 0 then
    let s := (s.setFld .LNK_STATE port 20 20 (1 - s.fld .LNK_STATE port 20 20)).setPort port { p with rxSwap := false }
    s.judgeDigest port (Map.get (α := Nat) p.peerDigest 1 0)
  else s

/-- The record of a bad slot (R374, R378): while a retrain runs no frame does, and its unit may be anyone's. -/
def State.badSlot (s : State) (port : Nat) : BadSlot :=
  let p := s.port port
  let n := p.rxSlot % 4096
  match s.linkState port with
  | 5 => { slot := n, from' := p.expected, stream := slotStream (s.rxEntry port) n }
  | 6 => { slot := 4096 + n, from' := p.point, stream := .any }
  | _ => { slot := n, from' := p.expected, stream := .control }

/-- The stream of a good unit (R378, R380, R383): of its slot's owner, or that of its ORIGIN slot; outside the frame control units may use
any slot and others are known by their ORIGIN. -/
def State.unitOwner (s : State) (port n cls : Nat) (origin : Option Nat) : Stream :=
  match s.linkState port, origin with
  | 5, none => slotStream (s.rxEntry port) n
  | 5, some k => slotStream (s.rxEntry port) k
  | 6, some k => if cls = 3 then .control else slotStream (s.rxEntry port) k
  | _, _ => .control

/-- A good unit's effect on the record of bad slots (R374, R378): one with ORIGIN resolves that slot, and only a unit that is no replay, or one
resent in CATCHUP, tells of a gap before it. -/
def PortSt.judgeUnit (p : PortSt) (seq cls : Nat) (origin : Option Nat) (active : Bool) : PortSt :=
  let p := match origin with
    | some k => { p with bad := p.bad.filter (fun b => b.slot ≠ k) }
    | none => p
  if origin.isSome && active then p
  else { p.judgeGap seq with expected := if cls = 0 then seq else (seq + 1) % 65536 }

/-- A unit received at drip t (R373 to R380, R384): `uncorr` says that some byte lies in an uncorrectable codeword. -/
def State.receive (s : State) (port : Nat) (bytes : List Byte) (uncorr : Bool) (t : Nat) : State :=
  let s := s.at' t
  let st := s.linkState port
  if st < 4 ∨ st = 7 then s
  else
    let s := s.frameStart port
    let n := (s.port port).rxSlot % 4096
    let lost := s.badSlot port
    let p := { (s.port port) with rxSlot := (s.port port).rxSlot + 1 }
    match (if uncorr then none else maskOf bytes) with
    | none => (s.setPort port { p with bad := p.bad ++ [lost] }).count port 2 1
    | some mask =>
      let w := ofLe (bytes.take 4)
      let seq := natBits w 15 0
      let cls := natBits w 17 16
      let lk := natBits w 19 18
      let lv := natBits w 31 20
      let payload := (bytes.drop 4).take 128
      let origin : Option Nat := if lk = 3 then some lv else none
      let p := if lk = 1 then p.acked (lv * 16) else if lk = 2 then p.naked lv else p
      let p := p.judgeUnit seq cls origin (decide (st = 5))
      let s := s.count port 1 1
      if cls = 0 then (s.setPort port p.resolve).releaseAll port
      else if p.hasSeq seq then ((s.setPort port p.resolve).count port 6 1).releaseAll port
      else
        let p := (p.took seq t).resolve
        let owner := s.unitOwner port n cls origin
        let fits : Bool := match owner with
          | .planned _ => cls = 1
          | .elastic _ => cls = 2
          | .control => cls = 3
          | _ => false
        if !fits then ((((s.setPort port p).count port 7 1).linkNotice port)).releaseAll port
        else if cls = 1 && s.bit .LNK_STATE port 16 then ((s.setPort port p).count port 7 1).releaseAll port
        else
          let h : HeldUnit := { seq := seq, stream := owner, cls := cls, mask := mask, payload := payload }
          let waiting := (p.held.filter (fun x => x.stream = owner)).length
          if (cls = 2 ∧ waiting ≥ 256) then ((s.setPort port p).count port 13 1).releaseAll port
          else (s.setPort port { p with held := insertHeld h p.held }).releaseAll port

/-- LINK_UNIT_RECEIVE at drip t (R359 to R362, R374): codewords come in on their lanes, and the next unit is taken once all its bytes are
there; nothing before the stream is aligned, nor in DOWN. -/
def State.receiveWords (s : State) (port : Nat) (words : List LaneWord) (t : Nat) : State :=
  let st := s.linkState port
  if st < 4 ∨ st = 7 then s.at' t
  else
    let s := ((s.at' t).each words (fun s x => s.takeWord port x t)).joinGroups port (words.length + 1)
    let p := s.port port
    if p.rxStream.length < 136 then s
    else
      let u := p.rxStream.take 136
      (s.setPort port { p with rxStream := p.rxStream.drop 136 }).receive port (u.map (·.1)) (u.any (·.2)) t

/-! ### Training (R381 to R386) -/

/-- The factory identity: KPR_FACTORY_ID. -/
def State.factory (s : State) : U64 := s.reg .KPR_FACTORY_ID 0
/-- The low 20 bits of the ID with the valid mark in bit 23, as IDENT carries them (R383). -/
def State.identWord (s : State) : Nat :=
  s.globalId + (if s.bit .KPR_FABRIC_ID 0 20 then 2 ^ 23 else 0)
/-- The IDENT message of a port (R383). -/
def State.identMsg (s : State) (port : Nat) : List Byte :=
  let b := s.fld .LNK_STATE port 19 19
  leBytes 1 1 ++ leBytes 3 s.identWord ++ leBytes 8 s.factory.toNat ++ leBytes 1 port ++ leBytes 1 8 ++
  leBytes 1 (s.fld .KPR_IDENT 0 7 0) ++ leBytes 1 0 ++ leBytes 4 (s.digest .LNK_TX_SLOT b port) ++
  leBytes 4 (s.digest .LNK_TX_SLOT (1 - b) port) ++ leBytes 8 (s.reg .KPR_SETUP_TAG 0).toNat
/-- The SYNC message of a port (R383). -/
def State.syncMsg (s : State) (port : Nat) : List Byte :=
  leBytes 1 2 ++ leBytes 2 (s.port port).point ++ leBytes 1 (s.fld .LNK_STATE port 13 6) ++
  leBytes 1 (s.fld .LNK_STATE port 4 3) ++ leBytes 1 (s.fld .LNK_STATE port 5 5) ++ leBytes 1 (s.fld .LNK_STATE port 14 14)
/-- A control message queued. -/
def State.control (s : State) (port : Nat) (m : List Byte) : State :=
  s.modPort port (fun p => { p with control := p.control ++ [m] })

/-- ACTIVE entered: a new slot frame (R368, R388); what is still bad before it is known by SEQ alone. -/
def State.activate (s : State) (port : Nat) : State :=
  (s.setLink port 5).modPort port (fun p => { p with
    phase := none, paused := false, txSlot := 0, rxSlot := 0, sentIn := [], bad := p.bad.map (fun b => { b with slot := 8192 }), syncIn := false, syncOut := false, request := false,
    target := none })

/-- LNK_RTT from a fibre delay (R385): 2d + F. A member reports a new figure to its partition master (R645). -/
def State.setRtt (s : State) (port d : Nat) : State :=
  let rtt := min (2 * d + 250 * s.slotScale port) 65535
  let old := s.fld .LNK_RTT port 15 0
  let s := s.setReg .LNK_RTT port (BitVec.ofNat 64 (rtt + min d 65535 * 65536))
  if rtt ≠ old ∧ (List.range 4).any (fun q => (s.quad q).plan.isSome) then s.send (.message 18 [s.globalId, port, rtt, s.slotScale port])
  else s

/-- Does LNK_RTT break the limit of R377: the frame time less 270 drips, in hundredths of a drip. -/
def State.rttTooLong (s : State) (port : Nat) : Bool :=
  decide (s.fld .LNK_RTT port 15 0 * 100 > 557056 * s.slotScale port - 27000)

/-- A new width (code) and rate taken by a port. -/
def State.setWidth (s : State) (port width rate : Nat) : State :=
  (s.setFld .LNK_STATE port 4 3 width).setFld .LNK_STATE port 5 5 rate

/-- The target width code of LNK_CTRL, 3 taken as 0 (R394). -/
def State.wantWidth (s : State) (port : Nat) : Nat := let w := s.fld .LNK_CTRL port 2 1; if w = 3 then 0 else w

/-- The widest width code a set of locked lanes allows, at or below the wanted one (R381, R392); none without AUTO_NARROW. -/
def State.widthFor (s : State) (port want lanes : Nat) : Option Nat :=
  let n := popcount 8 lanes
  if n ≥ 8 / 2 ^ want then some want
  else if s.bit .LNK_CTRL port 4 then
    (if want < 1 ∧ n ≥ 4 then some 1 else if want < 2 ∧ n ≥ 2 then some 2 else none)
  else none

/-- The reconfiguration of R392 begins: not counted toward R390. -/
def State.reconfigure (s : State) (port data : Nat) : State :=
  (s.modPort port (fun p => { p with target := some (data % 8) })).beginRetrain port 5

end Sys2Proof.Machine
end

