-- ==== Sys2Proof/Machine/ImageOps.lean ====
section
/-! DEFINITION. Reading a Utrum plan image (R637 to R642, R686): its header, sections and section bodies, and the plan they give
one role. -/
namespace Sys2Proof.Machine

/-- A little-endian field of a byte string: offset, bytes. -/
def bytesAt (b : List Byte) (o n : Nat) : Nat := ofLe ((b.drop o).take n)

/-- A section of an image: its number in the table, its table entry and its body (R638). -/
structure Sect where
  no   : Nat
  kind : Nat
  role : Nat
  var  : Nat
  off  : Nat
  len  : Nat
  crc  : Nat
  body : List Byte
  deriving DecidableEq, Repr

/-- The sections of an image. -/
def imageSects (img : List Byte) : List Sect :=
  (List.range (bytesAt img 8 2)).map (fun i =>
    let e := (img.drop (bytesAt img 96 8 + 32 * i)).take 32
    { no := i, kind := bytesAt e 0 2, role := bytesAt e 4 4, var := bytesAt e 8 1, off := bytesAt e 16 8, len := bytesAt e 24 4,
      crc := bytesAt e 28 4, body := (img.drop (bytesAt e 16 8)).take (bytesAt e 24 4) })

/-- COUNT of a body (R686). -/
def Sect.count (x : Sect) : Nat := bytesAt x.body 0 4
/-- ESIZE of a body. -/
def Sect.esize (x : Sect) : Nat := bytesAt x.body 4 2
/-- Entry i of a body. -/
def Sect.entry (x : Sect) (i : Nat) : List Byte := (x.body.drop (64 + i * x.esize)).take x.esize
/-- The entries of a body. -/
def Sect.entries (x : Sect) : List (List Byte) := (List.range x.count).map x.entry

/-- The section of a kind that serves a role and variant. -/
def findSect (ss : List Sect) (kind role var : Nat) : Option Sect :=
  ss.find? (fun x => x.kind = kind && (x.role = role || x.role = 0xFFFFFFFF) && (x.var = var || x.var = 0xFF))
/-- The entries of such a section, none when there is no such section. -/
def sectEntries (ss : List Sect) (kind role : Nat) : List (List Byte) :=
  match findSect ss kind role 0xFF with | some x => x.entries | none => []

/-- A ROLE_MAP entry (R640). -/
def roleOf (nx ny : Nat) (e : List Byte) : RoleEntry :=
  { pos := (bytesAt e 2 1 * ny + bytesAt e 1 1) * nx + bytesAt e 0 1, quad := bytesAt e 3 1 % 4, master := bytesAt e 4 1 % 2 = 1
    standby := bytesAt e 4 1 / 2 % 2 = 1, mirrored := bytesAt e 4 1 / 4 % 2 = 1, parent := bytesAt e 5 1 % 16
    children := bytesAt e 6 2 % 4096, partner := bytesAt e 8 4 }

/-- An EPOCH_TABLE entry of quadrant q. -/
def epochOf (q : Nat) (e : List Byte) : EpochEntry :=
  { core := 64 * q + bytesAt e 0 1 % 64, flow := bytesAt e 1 1 % 2 = 1, w := bytesAt e 4 4, h := bytesAt e 8 4, tile := bytesAt e 12 4
    drawCycles := bytesAt e 16 4, draws := bytesAt e 20 4 }

/-- A variant from its VARIANT entry and EPOCH_TABLE (R22, R271). -/
def variantOf (q : Nat) (v : List Byte) (table : List (List Byte)) : Variant :=
  let slots := List.range (bytesAt v 12 2)
  let rows := fun n => table.filter (fun e => bytesAt e 2 2 = n)
  { epochLen := bytesAt v 0 4, floor := bytesAt v 4 2, varLead := bytesAt v 6 1, maxLate := bytesAt v 8 4, split := bytesAt v 14 1
    decodeRows := bytesAt v 16 1, stepEpochs := bytesAt v 17 1, prefillRows := bytesAt v 18 1, prefillEpochs := bytesAt v 19 1
    switchOk := slots.map (fun n => (rows n).any (fun e => bytesAt e 1 1 / 2 % 2 = 1))
    entries := slots.map (fun n => (rows n).map (epochOf q)) }

/-- The variants of a role. -/
def variantsOf (q role n : Nat) (ss : List Sect) : List Variant :=
  (List.range n).map (fun v =>
    let e := match findSect ss 2 role v with | some x => x.entry 0 | none => []
    let t := match findSect ss 3 role v with | some x => x.entries | none => []
    variantOf q e t)

/-- The serving parameters (R270, R311, R686) with the buffers of a role's cores. -/
def servingOf (q role : Nat) (es : List (List Byte)) : Serving :=
  let b := (es.take 4).flatten
  let stops := (List.range 4).filterMap (fun i =>
    let w := bytesAt b (24 + 4 * i) 4
    if w / 2 ^ 31 = 1 then some (w % 2 ^ 18) else none)
  let skip := bytesAt b 40 4
  { inputKind := bytesAt b 0 1, outKind := bytesAt b 1 1, cadenceIn := bytesAt b 2 1, inPos := bytesAt b 3 1, inCodes := bytesAt b 4 1
    outCodes := bytesAt b 5 1, outMax := bytesAt b 6 1, frameUs := bytesAt b 8 4, chunk := bytesAt b 12 2, kvMax := bytesAt b 16 4
    writesDec := bytesAt b 20 1, writesPre := bytesAt b 21 1, stopIds := stops
    skipId := if skip / 2 ^ 18 % 2 = 1 then some (skip % 2 ^ 18) else none
    buffers := ((es.drop 4).filter (fun e => bytesAt e 0 4 = role)).map (fun e =>
      { core := 64 * q + bytesAt e 4 1 % 64, inBuf := bytesAt e 8 6, prompt := bytesAt e 14 6, outBuf := bytesAt e 20 6,
        batch := bytesAt e 26 6 }) }

/-- The 64-bit words of an entry or entries. -/
def entryU64 (b : List Byte) : List U64 := (chunks 8 b).map (fun c => BitVec.ofNat 64 (ofLe c))

/-- First item entry and item count of a core in a CODE, DATA or TEMPLATES directory. -/
def Sect.directory (x : Sect) (c : Nat) : Nat × Nat := let w := ofLe (x.entry c); (w % 2 ^ 32, w / 2 ^ 32)
/-- A core's program words. -/
def Sect.code (x : Sect) (c : Nat) : List (BitVec 32) :=
  let (first, n) := x.directory c
  (List.range n).map (fun k => BitVec.ofNat 32 (ofLe (x.entry (64 + first + k / 2)) / 2 ^ (32 * (k % 2))))
/-- A core's data words. -/
def Sect.data (x : Sect) (c : Nat) : List U64 :=
  let (first, n) := x.directory c
  (rangeFrom (64 + first) n).map (fun k => BitVec.ofNat 64 (ofLe (x.entry k)))
/-- A core's templates. -/
def Sect.templates (x : Sect) (c : Nat) : List Desc :=
  let (first, n) := x.directory c
  let w := fun k i => BitVec.ofNat 64 (ofLe (x.entry (64 + first + 8 * k + i)))
  (List.range n).map (fun k => ⟨w k 0, w k 1, w k 2, w k 3, w k 4, w k 5, w k 6, w k 7⟩)
/-- Address-stream ranges of a core: first and last instruction (R75). -/
def Sect.asRanges (x : Sect) (c : Nat) : List (Nat × Nat) :=
  ((rangeFrom (bytesAt x.body 8 4) (bytesAt x.body 12 4)).map (fun k => ofLe (x.entry k))).filterMap (fun w =>
    if w % 256 = c then some (natBits w 30 16, natBits w 46 32) else none)

/-- What a directory section gives every core of quadrant q that has items. -/
def perCore {α : Type} (q : Nat) (x : Option Sect) (f : Sect → Nat → List α) : Map (List α) :=
  match x with
  | none => []
  | some x => (List.range 64).filterMap (fun c => let l := f x c; if l.isEmpty then none else some (64 * q + c, l))

/-- The plan of a role on quadrant q (R639, R686), with the global IDs of its placement. -/
def planOf (img : List Byte) (role q : Nat) (placement : List Nat) : Plan :=
  let ss := imageSects img
  let nx := bytesAt img 16 1
  let ny := bytesAt img 17 1
  let roles := (sectEntries ss 1 role).map (roleOf nx ny)
  let me := roles.getD role { pos := 0, quad := 0, master := false, standby := false, mirrored := false, parent := 15, children := 0, partner := 0 }
  let pl := sectEntries ss 0x10 role
  let m := match findSect ss 0x10 role 0xFF with | some x => bytesAt x.body 8 4 | none => 0
  let mir := sectEntries ss 0x13 role
  { role := role, cols := bytesAt img 6 1, setupTag := BitVec.ofNat 64 (bytesAt img 24 8)
    variants := variantsOf q role (bytesAt img 5 1) ss
    serving := servingOf q role (sectEntries ss 4 role)
    signals := (sectEntries ss 0x11 role).map entryU64
    policy := ((sectEntries ss 0x12 role).take 16).map (fun e => BitVec.ofNat 64 (ofLe e))
    roles := roles, placement := placement
    manifests := (List.range m).map (fun i => ((pl.drop (16 * i)).take 16).map (fun e => BitVec.ofNat 64 (ofLe e)))
    places := (pl.drop (16 * m)).map (fun e => BitVec.ofNat 64 (ofLe e))
    code := perCore q (findSect ss 5 role 0xFF) Sect.code
    data := perCore q (findSect ss 6 role 0xFF) Sect.data
    templates := perCore q (findSect ss 7 role 0xFF) Sect.templates
    reloc := (sectEntries ss 0x18 role).map (fun e => (BitVec.ofNat 64 (bytesAt e 0 8), BitVec.ofNat 64 (bytesAt e 8 8)))
    mesh := (sectEntries ss 9 role).map (fun e => BitVec.ofNat 64 (ofLe e))
    regions := (sectEntries ss 8 role).zipIdx.map (fun x => (64 * q + x.2, entryU64 x.1))
    mirror := match mir with
      | [] => none
      | e :: _ => (roles[bytesAt e 0 4]?).map (fun r => (placement.getD r.pos 0, r.quad))
    ranges := (mir.drop 1).map (fun e => 
      ⟨64 * q + bytesAt e 0 1 % 64, bytesAt e 1 1, bytesAt e 4 4, bytesAt e 8 8, bytesAt e 16 8⟩)
    symbols := sectEntries ss 0x16 role
    detours := (ss.filter (fun x => decide (x.kind = 0x14 ∧ bytesAt x.body 8 4 = role))).map (fun x => bytesAt x.body 12 1)
    amps := (List.range (bytesAt img 5 1)).map (fun v => match findSect ss 0x17 role v with
      | some x => ((x.entries.filter (fun e => bytesAt e 0 2 = 0)).head?.map (fun e => bytesAt e 2 2)).getD 0
      | none => 0)
    image := img, standby := me.standby }

/-- The role entry a plan takes. -/
def Plan.me (p : Plan) : Option RoleEntry := p.roles[p.role]?

end Sys2Proof.Machine
end

