-- ==== Sys2Proof/Machine/PlanOps.lean ====
section
/-! DEFINITION. What the loader makes of a plan (R641 to R643): relocations, the physical mesh tables, and the contents of a core's
position. -/
namespace Sys2Proof.Machine

/-! ### Relocation (R642) -/

/-- HBM items of a plan's image (R686). -/
def Plan.hbm (p : Plan) : List (List Byte) := sectEntries (imageSects p.image) 0xF p.role
/-- The register value of the first HBM item of a kind, 0 for none. -/
def Plan.hbmValue (p : Plan) (item : Nat) : Nat :=
  match p.hbm.find? (fun e => bytesAt e 0 1 = item) with | some e => bytesAt e 8 8 | none => 0

/-- The base address of the crystal region of a core of a plan with a residency index (R201). -/
def Plan.crystalBase (p : Plan) (v idx : Nat) : Option Nat :=
  ((Map.get (α := List U64) p.regions v []).take 16).findSome? (fun e =>
    if bitsOf e 30 28 = 1 ∧ bitsOf e 43 32 = idx then some (bitsOf e 15 0 * 4096) else none)

/-- The residency index at which a core holds its piece of a shard: of the live generation, else of the plan's manifest. -/
def State.pieceIndex (s : State) (q v id : Nat) (p : Plan) : Option Nat :=
  let live := ((s.quad q).shards.filter (fun r => r.live && decide (bitsOf (r.words.getD 0 0) 31 0 = id))).reverse
  match live.findSome? (fun r => (r.pieces.find? (fun x => x.1 = v)).map (·.2.1)) with
  | some i => some i
  | none => (p.manifests.filter (fun m => decide (bitsOf (m.getD 0 0) 31 0 = id))).findSome? (fun m =>
      let w := m.getD 5 0
      (((p.places.drop (bitsOf w 47 32)).take (bitsOf w 63 48)).find? (fun x => bitsOf x 7 0 = v)).map (fun x => bitsOf x 19 8))

/-- The value of a relocation record for core v, none for an unknown kind or a name that resolves to nothing. -/
def State.relocValue (s : State) (q v : Nat) (p : Plan) (kind : Nat) (arg : U64) : Option Nat :=
  match kind with
  | 0 =>
    let nx := bytesAt p.image 16 1
    let ny := bytesAt p.image 17 1
    let i := bitsOf arg 4 0
    let j := bitsOf arg 9 5
    let k := bitsOf arg 15 10
    if i < nx ∧ j < ny then p.placement[(k * ny + j) * nx + i]? else none
  | 1 =>
    let off := bitsOf arg 39 0
    match bitsOf arg 41 40 with
    | 0 => some (p.hbmValue 0 % 2 ^ 16 * 2 ^ 20 + off)
    | 1 => some (p.hbmValue 1 % 2 ^ 16 * 2 ^ 20 + off)
    | 2 => (p.manifests[bitsOf arg 63 48]?).map (fun m => bitsOf (m.getD 6 0) 39 0 + off)
    | _ => none
  | 2 => match s.pieceIndex q v (bitsOf arg 31 0) p with
    | some i => (p.crystalBase v i).map (· + bitsOf arg 63 32)
    | none => none
  | _ => none

/-- Where a relocation record writes: core, template store or data memory, word index, low bit, width, kind. -/
def relocAt (q : Nat) (w : U64) : Nat × Bool × Nat × Nat × Nat × Nat :=
  let n := bitsOf w 32 27
  (64 * q + bitsOf w 5 0, bitAt w 6, bitsOf w 20 8, bitsOf w 26 21, if n = 0 then 64 else n, bitsOf w 36 33)

/-- A field of a word of a list of templates replaced. -/
def putTemplate (l : List Desc) (i lsb width v : Nat) : List Desc :=
  match l[i / 8]? with
  | some d => setNth l (i / 8) (d.setWord (i % 8) (putBits (d.word (i % 8)) (lsb + width - 1) lsb v))
  | none => l
/-- A field of a list of words replaced. -/
def putWord (l : List U64) (i lsb width v : Nat) : List U64 :=
  match l[i]? with
  | some w => setNth l i (putBits w (lsb + width - 1) lsb v)
  | none => l

/-- One record applied to a plan, none when it fails (status 0x7D). -/
def State.relocateOne (s : State) (q : Nat) (p : Plan) (r : U64 × U64) : Option Plan :=
  let (v, tpl, i, lsb, width, kind) := relocAt q r.1
  match s.relocValue q v p kind r.2 with
  | none => none
  | some x =>
    if x ≥ 2 ^ width ∨ lsb + width > 64 ∨ bitsOf r.1 7 7 = 1 ∨ bitsOf r.1 63 37 ≠ 0 then none
    else if tpl then
      let l := Map.get (α := List Desc) p.templates v []
      if i < 8 * l.length then some { p with templates := Map.set (α := List Desc) p.templates v (putTemplate l i lsb width x) } else none
    else
      let l := Map.get (α := List U64) p.data v []
      if i < l.length then some { p with data := Map.set (α := List U64) p.data v (putWord l i lsb width x) } else none

/-- Every record applied, in order; the first that fails by its number. -/
def State.relocate (s : State) (q : Nat) : List (U64 × U64) → Nat → Plan → Plan ⊕ Nat
  | [], _, p => .inl p
  | r :: rs, n, p => match s.relocateOne q p r with
    | some p' => s.relocate q rs (n + 1) p'
    | none => .inr n

/-- The program, data and template memories of a core from its plan (R54, R641). -/
def SeqSt.loaded (x : SeqSt) (p : Plan) (v : Nat) : SeqSt :=
  let code := Map.get (α := List (BitVec 32)) p.code v []
  let tpl := Map.get (α := List Desc) p.templates v []
  { x with
    prog := code.zipIdx.map (fun y => (y.2, y.1)), data := (Map.get (α := List U64) p.data v []).zipIdx.map (fun y => (y.2, y.1))
    tmpl := tpl.zipIdx.map (fun y => (y.2, y.1)), codeLen := some code.length, tmplCount := some tpl.length }

/-- Region table and shares of a core from its plan (R201, R196); a plan that declares none, its share word 0 or absent, gives those of
R200's table (DEDUCED, log entry 116). -/
def CoreSt.tables (c : CoreSt) (ws : List U64) : CoreSt :=
  let share := ws.getD 16 0 &&& 0xFFFFFFFFFFFFFFF
  let c := c.setReg .CORE_PORT_SHARE 0 (if share = 0 then 0x0082118114210888 else share)
  if ws.isEmpty then c
  else (List.range 16).foldl (fun (c : CoreSt) i => c.setReg .CORE_REGION i (ws.getD i 0 &&& 0xFFF7FFFFFFF)) c

/-- Flow entries of core v in a plan's FLOWS section (R355, R686). -/
def Plan.flows (p : Plan) (v : Nat) : List (Nat × U64) :=
  ((sectEntries (imageSects p.image) 0x0A p.role).filter (fun e => bytesAt e 0 1 = v % 64)).map (fun e =>
    (bytesAt e 2 2 % 1024, BitVec.ofNat 64 (bytesAt e 8 8) &&& 0xFFFFFFFFFF1FFF))

/-- A core's flow table from its plan: entries not listed are 0 (R686). -/
def CoreSt.flowTable (c : CoreSt) (l : List (Nat × U64)) : CoreSt :=
  let c := { c with regs := c.regs.filter (fun x => decide (x.1 < Reg.key .MSH_FLOW 0 ∨ Reg.key .MSH_FLOW 1024 ≤ x.1)) }
  l.foldl (fun (c : CoreSt) x => c.setReg .MSH_FLOW x.1 x.2) c

/-- The position of virtual core v written into physical core p (R491, R641). -/
def State.loadPosition (s : State) (plan : Plan) (v p : Nat) : State :=
  s.modCore p (fun c =>
    { (c.tables (Map.get (α := List U64) plan.regions v [])).flowTable (plan.flows v) with seq := c.seq.loaded plan v })

/-- The loader's settings of a position taken from its old core (R86, R490): SEQ_ENTRY, SEQ_AS_BASE and SEQ_CTRL but for RUN. -/
def CoreSt.settings (c old : CoreSt) : CoreSt :=
  let c := (c.setReg .SEQ_ENTRY 0 (old.reg .SEQ_ENTRY 0)).setReg .SEQ_AS_BASE 0 (old.reg .SEQ_AS_BASE 0)
  c.setFld .SEQ_CTRL 0 15 1 (old.fld .SEQ_CTRL 0 15 1)

/-- Moved positions given their settings, tables and code on their new cores (R491, R493). -/
def State.movePositions (s : State) (p : Plan) (l : List Moved) : State :=
  let olds := l.map (fun m => (m, s.core m.old))
  s.each olds (fun s (x : Moved × CoreSt) => (s.modCore x.1.new (fun c => c.settings x.2)).loadPosition p x.1.v x.1.new)

/-- The generation of each crystal shard of the plan that its base words name, kept (R252, R253): the live one loaded last, else the
manifest's. -/
def State.noteInUse (s : State) (q : Nat) : State :=
  let ms : List (List U64) := match (s.quad q).plan with | some p => p.manifests.filter (fun m => bitsOf (m.getD 0 0) 50 48 = 0) | none => []
  let live := (s.quad q).shards.filter (fun r => r.live && decide (bitsOf (r.words.getD 0 0) 50 48 = 0))
  let gen := fun (w : U64) => match (live.filter (fun r => bitsOf (r.words.getD 0 0) 31 0 = bitsOf w 31 0)).getLast? with
    | some r => bitsOf (r.words.getD 0 0) 47 32
    | none => bitsOf w 47 32
  let m := ms.foldl (fun (m : Map Nat) (w : List U64) => Map.set (α := Nat) m (bitsOf (w.getD 0 0) 31 0) (gen (w.getD 0 0))) []
  s.modQuad q (fun x => { x with inUse := m })

/-- The base address of the crystal region of residency index i that core v has now, one the keeper added included (R203, R253). -/
def State.liveBase (s : State) (v i : Nat) : Option Nat := (s.vcore v).bind (fun c => (c.crystalAt i).map c.regBase)

/-- CRYSTAL records applied again in the running cores and in the plan, to the region tables as they are now (R253, R503, R642). -/
def State.rebase (s : State) (q : Nat) : State :=
  match (s.quad q).plan with
  | none => s
  | some p => (s.noteInUse q).each p.reloc (fun s r =>
    let (v, tpl, i, lsb, width, kind) := relocAt q r.1
    if kind ≠ 2 then s
    else match ((s.pieceIndex q v (bitsOf r.2 31 0) p).bind (s.liveBase v)).map (· + bitsOf r.2 63 32) with
      | none => s
      | some x =>
        let s := s.modQuad q (fun y => { y with plan := y.plan.map (fun pl =>
          if tpl then { pl with templates := Map.upd (α := List Desc) pl.templates v [] (fun l => putTemplate l i lsb width x) }
          else { pl with data := Map.upd (α := List U64) pl.data v [] (fun l => putWord l i lsb width x) }) })
        s.onCoreReg v (fun c =>
          if tpl then { c with seq := { c.seq with tmpl := Map.upd (α := Desc) c.seq.tmpl (i / 8) {} (fun d =>
            d.setWord (i % 8) (putBits (d.word (i % 8)) (lsb + width - 1) lsb x)) } }
          else { c with seq := { c.seq with data := Map.upd (α := U64) c.seq.data i 0 (fun w => putBits w (lsb + width - 1) lsb x) } }))

/-! ### Physical mesh tables (R643) -/

/-- An owned slot of a physical router's output: row, column, output, slot, input, TAG. -/
structure MeshHop where
  r   : Nat
  c   : Nat
  o   : Nat
  n   : Nat
  inp : Nat
  tag : Nat
  deriving DecidableEq, Repr

/-- Row hops from physical column a to b: the hops, and the input and slot with which the flit then goes on. -/
def rowHops (r tag : Nat) : Nat → Nat → Nat → Nat → Nat → List MeshHop × Nat × Nat
  | 0, _, _, inp, m => ([], inp, m)
  | f + 1, a, b, inp, m =>
    if a = b then ([], inp, m)
    else
      let east : Bool := a < b
      let (l, i, k) := rowHops r tag f (if east then a + 1 else a - 1) b (if east then 3 else 1) ((m + 3) % 1024)
      (⟨r, a, if east then 1 else 3, m, inp, tag⟩ :: l, i, k)

/-- The physical hops of the flow that reaches virtual router (r, c) by virtual input `vin` for slot n, and stands at physical
column pc with input `inp` for slot m; `col` while it runs down its column's path. Output 9 marks a column multicast that no tap
reaches (R481). -/
def walkMesh (ent : Nat → Nat → Nat → Nat → Nat) (phys : Nat → Nat → Nat) (cols tag : Nat) (multi : Bool) :
    Nat → Nat → Nat → Nat → Nat → Nat → Nat → Nat → Bool → List MeshHop
  | 0, _, _, _, _, _, _, _, _ => []
  | f + 1, r, c, vin, n, pc, inp, m, col =>
    let n' := (n + 3) % 1024
    (List.range 5).flatMap (fun o =>
      let e := ent r c o n
      if !(entKind e = 1 && entIn e = vin && entTag e = tag) then []
      else match o with
        | 4 =>
          if multi && col && decide (phys r c + 1 = pc) then [⟨r, phys r c, 4, m, 5, tag⟩]
          else if multi && col && decide (pc < phys r c) then [⟨r, pc, 9, m, inp, tag⟩]
          else let (l, i, k) := rowHops r tag 9 pc (phys r c) inp m; l ++ [⟨r, phys r c, 4, k, i, tag⟩]
        | 1 =>
          if c + 1 = cols then let (l, i, k) := rowHops r tag 9 pc 8 inp m; l ++ [⟨r, 8, 1, k, i, tag⟩]
          else
            let t := max pc (phys r (c + 1))
            let (l, i, k) := rowHops r tag 9 pc t inp m
            l ++ walkMesh ent phys cols tag multi f r (c + 1) 3 n' t i k false
        | 3 =>
          if c = 0 then let (l, i, k) := rowHops r tag 9 pc 0 inp m; l ++ [⟨r, 0, 3, k, i, tag⟩]
          else
            let t := min pc (phys r (c - 1))
            let (l, i, k) := rowHops r tag 9 pc t inp m
            l ++ walkMesh ent phys cols tag multi f r (c - 1) 1 n' t i k false
        | _ =>
          let (l, i, k) := rowHops r tag 9 pc (c + 1) inp m
          let hop : MeshHop := ⟨r, c + 1, o, k, i, tag⟩
          if (o = 0 ∧ r = 0) ∨ (o = 2 ∧ r = 7) then l ++ [hop]
          else l ++ hop :: walkMesh ent phys cols tag multi f (if o = 0 then r - 1 else r + 1) c (if o = 0 then 2 else 0) n' (c + 1)
            (if o = 0 then 2 else 0) ((k + 3) % 1024) true)

/-- Where planned flows enter a quadrant's virtual table: a core's own injection, or an edge (R343). -/
def meshStarts (ent : Nat → Nat → Nat → Nat → Nat) (cols : Nat) : List (Nat × Nat × Nat × Nat × Nat) :=
  ((List.range 8).flatMap (fun r => (List.range cols).flatMap (fun c => (List.range 5).flatMap (fun o =>
    (List.range 1024).filterMap (fun n =>
      let e := ent r c o n
      let i := entIn e
      if entKind e = 1 && (i = 4 || (i = 3 && c = 0) || (i = 1 && c + 1 = cols) || (i = 0 && r = 0) || (i = 2 && r = 7)) then
        some (r, c, i, n, entTag e)
      else none))))).eraseDups

/-- The entry of slot n of output o of virtual router (r, c) in a plan's table (R686). -/
def Plan.meshEntry (p : Plan) (r c o n : Nat) : Nat :=
  natBits (p.mesh.getD (((r * 9 + c) * 5 + o) * 256 + n / 4) 0).toNat (16 * (n % 4) + 15) (16 * (n % 4))

/-- Every planned hop of a quadrant under spare masks by row (R643). -/
def Plan.meshHops (p : Plan) (mask : Nat → Nat) : List MeshHop :=
  let phys := fun r c => (insideCols (mask r)).getD c 8
  (meshStarts p.meshEntry p.cols).flatMap (fun x =>
    let (r, c, i, n, tag) := x
    let plain := walkMesh p.meshEntry (fun _ c => c) p.cols tag false 32 r c i n c i n false
    let multi : Bool := decide ((plain.filter (fun h => h.o = 4)).length > 1)
    let pc := if i = 4 then phys r c else if i = 3 then 0 else if i = 1 then 8 else c + 1
    walkMesh p.meshEntry phys p.cols tag multi 32 r c i n pc i n (decide (i = 0 ∨ i = 2)))

/-- The service or elastic entry a physical router takes from its virtual column, or the nearest one's (R686); the entry's reserved bit
5 is 0 (R14, R354). -/
def Plan.baseEntry (p : Plan) (mask : Nat → Nat) (r c o n : Nat) : Nat :=
  let cols := insideCols (mask r)
  let v := match cols.zipIdx.filter (fun x => x.1 ≤ c) |>.getLast? with | some x => x.2 | none => 0
  let e := p.meshEntry r (min v 7) o n
  if entKind e ≥ 2 then e &&& 0xFFDF else 0

/-- The physical table of a quadrant, by ((r × 9 + c) × 5 + o) × 1,024 + n; none when a slot has two owners (status 0x77) or a column
multicast misses a member (R481). -/
def Plan.meshTable (p : Plan) (mask : Nat → Nat) : Option (Map Nat) :=
  (p.meshHops mask).foldl (fun (t : Option (Map Nat)) h =>
    match t with
    | none => none
    | some m =>
      let k := ((h.r * 9 + h.c) * 5 + h.o) * 1024 + h.n
      let e := 1 + h.inp * 4 + h.tag * 64
      if h.o = 9 ∨ p.baseEntry mask h.r h.c h.o h.n ≠ 0 then none
      else match Map.find (α := Nat) m k with
        | some x => if x = e then some m else none
        | none => some (Map.set (α := Nat) m k e)) (some [])

/-- A quadrant's physical tables written into a bank. -/
def State.writeMesh (s : State) (q bank : Nat) (p : Plan) (mask : Nat → Nat) (t : Map Nat) : State :=
  s.each (List.range 360) (fun s ro => s.each (List.range 256) (fun s i =>
    let w := ((List.range 4).map (fun j =>
      let n := 4 * i + j
      let e := match Map.find (α := Nat) t (ro * 1024 + n) with
        | some e => e
        | none => p.baseEntry mask (ro / 45) (ro / 5 % 9) (ro % 5) n
      e * 2 ^ (16 * j))).foldl (· + ·) 0
    s.setReg .MSH_SLOT (((bank * 288 + q * 72) * 5 + ro) * 256 + i) (BitVec.ofNat 64 w)))

/-- The tables of a quadrant's new spare map prepared in the inactive bank (R352, R491). -/
def State.prepareMesh (s : State) (q : Nat) : State :=
  match (s.quad q).plan with
  | none => s
  | some p =>
    let mask := fun r => s.rowOut q r
    match p.meshTable mask with
    | none => s
    | some t => (s.writeMesh q (1 - s.meshBank q) p mask t).modQuad q (fun x => { x with prepared := true })

end Sys2Proof.Machine
end

