-- ==== Sys2Proof/Machine/Cordon.lean ====
section
/-! DEFINITION. Cordons and the spare map (R475 to R481), and what a core's operation sets off outside it. -/
namespace Sys2Proof.Machine

/-- Is the keeper restarting for a live update (R573). -/
def State.restarting (s : State) : Bool := match s.keeper.live with | some x => x.restart | none => false

/-- A cordon that falls due while the keeper restarts, taken when the new image runs (R573): kind, unit, reason. -/
def State.deferCordon (s : State) (kind unit reason : Nat) (rehearse : Bool) : State :=
  { s with keeper := { s.keeper with due := s.keeper.due ++ [(kind, unit, reason, rehearse)] } }

/-- A reset of a scope for an error in critical state recorded (R549): the spec gives no codes of the critical-state kind that
DETAIL holds, so it is a free value (DESIGN CHOICE, log entry 32). -/
def State.criticalReset (s : State) (scope : Nat) : State :=
  let (w, s) := s.fresh
  s.noteReset 7 scope (w.toNat % 256) false false

/-- KPR_CORDON_STAT and the notice of a cordon or release (R475, R477, R508). -/
def State.noteCordon (s : State) (q : Option Nat) (kind index reason : Nat) (release rehearse : Bool) : State :=
  let unit := kind + index * 4 + (if release then 2048 else 0)
  let s := ((s.setFld .KPR_CORDON_STAT 0 11 0 unit).setFld .KPR_CORDON_STAT 0 15 12 reason).setBit .KPR_CORDON_STAT 0 16 rehearse
  let s := if release then s else s.bump .KPR_CORDON_STAT 0 47 32 1
  (s.notice q 0x02 (s.reg .KPR_CORDON_STAT 0).toNat 0 rehearse).send (.message 2 [unit, reason])

/-- The 7-column grid (R480, R511) (DEDUCED, log entry 43). -/
def State.grid7 (s : State) (q : Nat) : Bool := s.bit .KPR_QUAD_STAT q 0
/-- Columns the quadrant's grid presents. -/
def State.gridCols (s : State) (q : Nat) : Nat := if s.grid7 q then 7 else 8

/-- The healthy column of a mask nearest to column c, the higher on a tie (R479). -/
def nearestSpare (out failed c : Nat) : Option Nat :=
  let ok := fun (k : Nat) => decide (k < 9) && out.testBit k && !failed.testBit k
  ((List.range 9).flatMap (fun d => if d = 0 then [] else [c + d, if d ≤ c then c - d else 99])).find? ok

/-- Bit k of a mask set or cleared. -/
def maskSet (m k : Nat) (b : Bool) : Nat := if m.testBit k = b then m else m ^^^ 2 ^ k

/-- The moved positions of a row whose OUT changes (R479): the failed column's position has lost its contents. -/
def movedOf (q r old new : Nat) (lost : Nat) : List Moved :=
  (List.range 8).filterMap (fun j =>
    match (insideCols old)[j]?, (insideCols new)[j]? with
    | some a, some b => if a = b then none
      else some { v := q * 64 + r * 8 + j, old := physIndex q r a, new := physIndex q r b, lost := decide (a = lost) }
    | _, _ => none)

/-- The row's spare map in effect replaced; positions it maps are no longer held in reset (R475, R659). -/
def State.mapRow (s : State) (q r mask : Nat) : State :=
  let s := { s with outEff := Map.set (α := Nat) s.outEff (q * 8 + r) mask }
  s.each (insideCols mask) (fun s c =>
    if (s.rowFailed q r).testBit c then s else s.modCore (physIndex q r c) (fun x => { x with inReset := false }))

/-- The router of physical core p fenced or not (R349). -/
def State.fence (s : State) (p : Nat) (on : Bool) : State :=
  (s.modCore p (fun x => { x with fenced := on })).setBit .MSH_ROUTER_STAT p 48 on

/-- The routers of a row's mapped cores no longer fenced (R349, R493). -/
def State.unfenceRow (s : State) (q r : Nat) : State :=
  s.each (insideCols (s.outMask q r)) (fun s c => if (s.rowFailed q r).testBit c then s else s.fence (physIndex q r c) false)

/-- Cores that take over a position begin with their memory empty (R189; DEDUCED, log entry 115). -/
def State.emptyNew (s : State) (l : List Moved) : State := s.each l (fun s m => s.modCore m.new CoreSt.initMemory)

/-- The moved positions of a quadrant that runs no plan: nothing to copy, and a loaded role mapped again (R653). -/
def State.reloadMoved (s : State) (q : Nat) : State :=
  let s := s.modQuad q (fun x => { x with moved := x.moved.map (fun m => { m with flow := false }) })
  match (s.quad q).plan with
  | none => s
  | some p =>
    let s := (s.emptyNew (s.quad q).moved).movePositions p (s.quad q).moved
    let mask := fun r => s.rowOut q r
    match p.meshTable mask with
    | none => s
    | some t => s.writeMesh q (s.meshBank q) p mask t

/-- A new OUT recorded (R479): in effect at once on a quadrant that runs no plan, else prepared for the restart. -/
def State.remapRow (s : State) (q r mask lost : Nat) : State :=
  let old := s.outMask q r
  let s := ((s.setFld .KPR_SPARE_ROW (q * 8 + r) 8 0 mask).bump .KPR_SPARE_ROW (q * 8 + r) 47 32 1).saveSpare (q * 8 + r)
  let s := s.modQuad q (fun x => { x with
    moved := x.moved.filter (fun m => decide (m.v / 8 ≠ q * 8 + r)) ++ (movedOf q r old mask lost).map (fun m => { m with lost := m.lost || (s.core m.old).inReset }) })
  if s.runs q then s.prepareMesh q
  else ((s.mapRow q r mask).unfenceRow q r).reloadMoved q

/-- A quadrant cordoned (R475): partition keys of its ports cleared, bridge lanes idled, CORDONED set. -/
def State.cordonQuadrant (s : State) (q reason : Nat) (rehearse : Bool) : State :=
  if s.restarting then s.deferCordon 2 q reason rehearse else
  let ports := (List.range 12).filter (fun p => portQuad p = q)
  let s := s.each ports (fun s p => s.each (rangeFrom 1 63) (fun s k =>
    if s.bit .LNK_PKEY (p * 64 + k) 16 then s.setBit .LNK_PKEY (p * 64 + k) 16 false else s))
  let s := ((s.setReg .KPR_SETUP_TAG 0 0).setBit .KPR_QUAD_STAT q 1 true).modQuad q (fun x => { x with idled := true })
  (s.noteCordon (some q) 2 q reason false rehearse).recoveryEvent q rehearse

/-- The quadrant changes to the 7-column grid (R480): every row but the failed one leaves virtual column 7 out. -/
def State.narrow (s : State) (q row : Nat) : State :=
  let s := s.setBit .KPR_QUAD_STAT q 0 true
  s.each (List.range 8) (fun s r =>
    if r = row then s
    else match (insideCols (s.rowOut q r))[7]? with
      | some c =>
        let mask := maskSet (s.rowOut q r) c true
        { (s.setFld .KPR_SPARE_ROW (q * 8 + r) 8 0 mask).saveSpare (q * 8 + r) with outEff := Map.set (α := Nat) s.outEff (q * 8 + r) mask }
      | none => s)

/-- Does a loaded plan fit a row's new mask (R481, R643). -/
def State.remapFits (s : State) (q r mask : Nat) : Bool :=
  match (s.quad q).plan with
  | none => true
  | some p => (p.meshTable (fun j => if j = r then mask else s.rowOut q j)).isSome

/-- A row that cannot be remapped within its grid (R480). -/
def State.rowExhausted (s : State) (q r c : Nat) (rehearse : Bool) : State :=
  if s.grid7 q then s.cordonQuadrant q 8 rehearse
  else
    let s := s.narrow q r
    let cols := match (s.quad q).plan with | some p => p.cols | none => 7
    if s.runs q ∧ cols = 8 then s.cordonQuadrant q 8 rehearse
    else (s.remapRow q r (maskSet (s.rowOut q r) c true) c).recoveryEvent q rehearse

/-- The remap of a row after column c was cordoned (R479, R480). -/
def State.spareFor (s : State) (q r c : Nat) (rehearse : Bool) : State :=
  let out := s.rowOut q r
  if out.testBit c then s
  else match nearestSpare out (s.rowFailed q r) c with
    | some k =>
      let mask := maskSet (maskSet out k false) c true
      if s.remapFits q r mask then (s.remapRow q r mask c).recoveryEvent q rehearse
      else s.rowExhausted q r c rehearse
    | none => s.rowExhausted q r c rehearse

/-- A core cordoned (R475): the sequencer stops and the core is held in reset, its router fenced, FAILED set but for a
rehearsal, its row remapped. A core cordoned before and not released stays as it is. -/
def State.cordonCore (s : State) (p reason : Nat) (rehearse : Bool) : State :=
  let q := p / 72
  let r := p % 72 / 9
  let c := p % 9
  if (s.core p).inReset ∧ (s.rowFailed q r).testBit c then s
  else if s.restarting then s.deferCordon 0 p reason rehearse
  else
  let s := if reason = 2 ∧ !rehearse then s.criticalReset 3 else s
  let s := ((s.cutSlowOut p).modCore p (fun x => { x.reset with inReset := true, fenced := true })).setBit .MSH_ROUTER_STAT p 48 true
  let s := if rehearse then s else (s.setFld .KPR_SPARE_ROW (q * 8 + r) 17 9 (maskSet (s.rowFailed q r) c true)).saveSpare (q * 8 + r)
  (s.noteCordon (some q) 0 p reason false rehearse).spareFor q r c rehearse

/-- A port cordoned (R475): ENABLE written 0. -/
def State.cordonPort (s : State) (port reason t : Nat) (rehearse : Bool) : State :=
  if s.restarting then s.deferCordon 1 port reason rehearse else
  let s := s.portOff port t
  (s.modPort port (fun x => { x with cordoned := true })).noteCordon none 1 port reason false rehearse

/-- A pending repair with nothing outstanding is reported ready on the report flow (R491). -/
def State.repairReady (s : State) (q : Nat) : State :=
  let x := s.quad q
  if s.runs q ∧ s.bit .QD_RECOVERY q 0 ∧ x.recrys.isEmpty ∧ x.moved.all (fun m => !m.crystal && !m.flow) then s.send (.message 1 [q, 2])
  else s

/-! ### What a core's operation sets off -/

/-- One event of core p applied: records by the core's virtual id, notices to its quadrant, cordons, recovery, signals. -/
def State.coreEvent (s : State) (p : Nat) (e : CoreEvent) : State :=
  let q := p / 72
  let v := (s.virtOf p).getD 0
  match e with
  | .record r =>
    let s := s.coreRecord v p r
    if r.kind = 0x0B ∨ (r.kind = 0x01 ∧ r.detail = 0x11) then { s with trace := { s.trace with hangDue := true } } else s
  | .notice kind a0 a1 => s.notice (some q) kind (if kind = 0x0A then v else a0) a1
  | .cordon reason rehearse => s.cordonCore p reason rehearse
  | .memError kind =>
    let s := if kind = 0x09 ∧ (s.virtOf p).isSome then
        s.modQuad q (fun x => if x.recrys.contains v then x else { x with recrys := x.recrys ++ [v] }) else s
    (s.recoveryEvent q false).repairReady q
  | .signal sig tag => s.send (.signal q sig tag v)
  | .marker epoch => s.send (.message 3 [v, epoch])

/-- A core operation of physical core p: the new core, then what it sets off in order. -/
def State.runCore (s : State) (p : Nat) (r : CoreSt × List CoreEvent) : State :=
  (s.setCore p r.1).each r.2 (fun s e => s.coreEvent p e)

/-- An operation of the core behind a virtual core id; nothing for an id that names no core. -/
def State.onCore (s : State) (v : Nat) (f : CoreSt → CoreSt × List CoreEvent) : State :=
  match s.phys v with
  | none => s
  | some p => s.runCore p (f (s.core p))

end Sys2Proof.Machine
end

