-- ==== Sys2Proof/Machine/ClockOps.lean ====
section
/-! DEFINITION. The core clock governor (R443 to R447): the requested step, floors, and what a request below the floor sets off. -/
namespace Sys2Proof.Machine

/-- The step the governor requests (R444). -/
def CoreSt.request (c : CoreSt) : Nat :=
  min (min (c.fld .CLK_CORE_CTRL 0 5 0) (c.fld .CLK_CORE_CTRL 0 11 6)) (c.fld .CLK_CORE_STAT 0 11 6)
/-- The clock of a step in MHz (R443). -/
def stepMhz (n : Nat) : Nat := 800 + 25 * n
/-- The lowest step whose clock reaches a floor in MHz (R443, R444). -/
def floorStep (mhz : Nat) : Nat := ceilDiv (mhz - 800) 25

/-- The keeper asks the partition master for a variant with a floor at or below a clock (R38): a master quadrant of this device
takes it at once, else a message goes out. -/
def State.askVariant (s : State) (q mhz : Nat) : State :=
  match (List.range 4).find? (fun m => (s.quad m).master && (m = q || s.samePartition q m)) with
  | some m => s.modQuad m (fun x => { x with below := some (min mhz (x.below.getD mhz)) })
  | none => s.send (.message 11 [q, mhz])

/-- BELOW_FLOOR and its request, while the requested step lies below the running variant's floor (R38, R444)
(DEDUCED, log entry 75). -/
def State.judgeClock (s : State) (v : Nat) : State :=
  let q := v / 64
  match s.vcore v, s.variant q with
  | some c, some w =>
    if s.runs q && decide (c.request < floorStep w.floor) then
      (s.onCoreReg v (fun c => c.setFld .CORE_EPOCH_STAT 0 50 50 1)).askVariant q (stepMhz c.request)
    else s
  | _, _ => s

/-- FLOOR written on a core; a TARGET below a higher floor is raised to it (R444). -/
def CoreSt.setFloor (c : CoreSt) (n : Nat) : CoreSt :=
  let old := c.fld .CLK_CORE_CTRL 0 17 12
  let c := c.setFld .CLK_CORE_CTRL 0 17 12 n
  if old < n ∧ c.fld .CLK_CORE_CTRL 0 5 0 < n then c.setFld .CLK_CORE_CTRL 0 5 0 n else c

/-- A variant's floor written on every core of a quadrant (R444). -/
def State.writeFloor (s : State) (q mhz : Nat) : State :=
  s.each (s.virtCores q) (fun s v => s.onCoreReg v (fun c => c.setFloor (floorStep mhz)))

/-- The running variant's floor written, and every core judged by it (R42, R444). -/
def State.governFloor (s : State) (q : Nat) : State :=
  match s.variant q with
  | none => s
  | some w => (s.writeFloor q w.floor).each (s.virtCores q) State.judgeClock

end Sys2Proof.Machine
end

