-- ==== Sys2Proof/Machine/Clock.lean ====
section
/-! DEFINITION. The core clock commands (R443 to R447). -/
namespace Sys2Proof.Machine

/-- M lowered by 1, never below 0 (R446). -/
def CoreSt.fallM (c : CoreSt) : CoreSt :=
  let m := c.fld .CLK_CORE_STAT 0 11 6
  if m = 0 then c else (c.setFld .CLK_CORE_STAT 0 11 6 (m - 1)).setFld .CLK_CORE_STAT 0 13 13 1

/-- A monitor warns in stretch window `win` (R445, R446): a stretch is taken while the window has one left, else M falls. -/
def CoreSt.warn (c : CoreSt) (win : Nat) : CoreSt :=
  let c := (c.setFld .CLK_CORE_STAT 0 12 12 1).bump .CLK_CORE_STAT 0 47 16 1
  let c := if c.stretchWin = win then c else { c with stretchWin := win, stretchUsed := 0 }
  if c.stretchUsed < 64 then { c with stretchUsed := c.stretchUsed + 1 }.bumpWrap .CORE_STRETCH_COUNT 0 63 0 1
  else { c with warnCycles := 0 }.fallM

/-- MONITOR_WARNING (R445): `win` counts the windows of 4,096 core cycles since the frame opened or the core's release
(DESIGN CHOICE, log entry 76). -/
def execMonitorWarning (v : Fin 256) (win : Nat) (s : State) : Host.Outcome State Fault Refusal :=
  .next ((s.onCoreReg v (fun c => c.warn win)).judgeClock v)

/-- A further 1,024 cycles of a warning with no stretches left (R446, R447): M falls; at M = 0 four of them, a whole window, are
a margin failure. -/
def CoreSt.marginFall (c : CoreSt) : CoreSt × List CoreEvent :=
  if c.fld .CLK_CORE_STAT 0 12 12 = 0 ∨ c.stretchUsed < 64 then (c, [])
  else if c.fld .CLK_CORE_STAT 0 11 6 ≠ 0 then ({ c.fallM with warnCycles := 0 }, [])
  else
    let n := c.warnCycles + 1024
    if n < 4096 then ({ c with warnCycles := n }, [])
    else ({ c with warnCycles := 0 }.setFld .CLK_CORE_STAT 0 14 14 1, [.cordon 4 false])

/-- MARGIN_FALL (R446, R447). -/
def execMarginFall (v : Fin 256) (s : State) : Host.Outcome State Fault Refusal :=
  .next ((s.onCore v CoreSt.marginFall).judgeClock v)

/-- MARGIN_RAISE (R446): 2^RAISE_EXP core cycles have passed with no warning. -/
def execMarginRaise (v : Fin 256) (s : State) : Host.Outcome State Fault Refusal :=
  .next (s.onCoreReg v (fun c =>
    let c := { c with warnCycles := 0 }.setFld .CLK_CORE_STAT 0 12 12 0
    c.setFld .CLK_CORE_STAT 0 11 6 (min 40 (c.fld .CLK_CORE_STAT 0 11 6 + 1))))

/-- CLOCK_STEP (R443): 64 core cycles have passed; the commanded step moves one step toward the request. -/
def execClockStep (v : Fin 256) (s : State) : Host.Outcome State Fault Refusal :=
  .next (s.onCoreReg v (fun c =>
    let n := c.fld .CLK_CORE_STAT 0 5 0
    let r := c.request
    c.setFld .CLK_CORE_STAT 0 5 0 (if n < r then n + 1 else if r < n then n - 1 else n)))

/-- CORE_CLOCK_LOCK_LOSS (R447). -/
def execCoreClockLockLoss (v : Fin 256) (s : State) : Host.Outcome State Fault Refusal :=
  .next (s.onCore v (fun c => (c.setFld .CLK_CORE_STAT 0 15 15 1, [.cordon 5 false])))

/-- CLK_CORE_CTRL written (R444, R472): steps above 40 taken as 40; a TARGET below FLOOR ignored while a plan runs. -/
def CoreSt.writeClock (c : CoreSt) (val : U64) (runs : Bool) : CoreSt :=
  let target := min 40 (bitsOf val 5 0)
  let cap := min 40 (bitsOf val 11 6)
  let c := c.setFld .CLK_CORE_CTRL 0 11 6 cap
  if runs ∧ target < c.fld .CLK_CORE_CTRL 0 17 12 then c else c.setFld .CLK_CORE_CTRL 0 5 0 target

/-- CLOCK_TARGET_WRITE (R444). -/
def execClockTargetWrite (v : Fin 256) (val : U64) (s : State) : Host.Outcome State Fault Refusal :=
  .next ((s.onCoreReg v (fun c => c.writeClock val (s.runs (v / 64)))).judgeClock v)

end Sys2Proof.Machine
end

