-- ==== Sys2Proof/Machine/Flags.lean ====
section
/-! DEFINITION. One rounding per result (R148, R166) and the flags a rounding raises (R170, R172): exact values as a
signed mantissa and an exponent of two, possibly with a sticky remainder, rounded once to a floating-point format. -/
namespace Sys2Proof.Machine

/-- A magnitude known to lie at mant × 2^exp, or, with `sticky`, strictly between mant × 2^exp and
(mant + 1) × 2^exp; `neg` is its sign. -/
structure Exact where
  neg    : Bool
  mant   : Nat
  exp    : Int
  sticky : Bool
  deriving DecidableEq, Repr

/-- A floating-point format: precision p, least exponent emin, mantissa bits, exponent bias, the largest finite
magnitude as maxM × 2^maxE with its encoding, whether the format has an infinity and its encoding, and the position
of the sign bit (R130, R149). -/
structure FloatFmt where
  p      : Nat
  emin   : Int
  mb     : Nat
  bias   : Int
  maxM   : Nat
  maxE   : Int
  maxBits : Nat
  infBits : Option Nat
  signPos : Nat
  deriving DecidableEq, Repr

/-- binary32. -/
def fmtF32 : FloatFmt := ⟨24, -126, 23, 127, 16777215, 104, 0x7F7FFFFF, some 0x7F800000, 31⟩
/-- BF16. -/
def fmtBf16 : FloatFmt := ⟨8, -126, 7, 127, 255, 120, 0x7F7F, some 0x7F80, 15⟩
/-- FP8 E4M3: no infinity (R130). -/
def fmtE4m3 : FloatFmt := ⟨4, -6, 3, 7, 14, 5, 0x7E, none, 7⟩
/-- FP8 E5M2. -/
def fmtE5m2 : FloatFmt := ⟨3, -14, 2, 15, 7, 13, 0x7B, some 0x7C, 7⟩
/-- FP4 E2M1. -/
def fmtE2m1 : FloatFmt := ⟨2, 0, 1, 1, 3, 1, 7, none, 3⟩
/-- FP6 E2M3. -/
def fmtE2m3 : FloatFmt := ⟨4, 0, 3, 1, 15, -1, 0x1F, none, 5⟩
/-- FP6 E3M2. -/
def fmtE3m2 : FloatFmt := ⟨3, -2, 2, 3, 7, 2, 0x1F, none, 5⟩

/-- What one rounding raises: inexact, beyond the largest finite value, tiny and inexact (R166, R170). -/
structure RoundFlags where
  inexact : Bool
  ovf    : Bool
  under   : Bool
  deriving DecidableEq, Repr

/-- The integer multiple of 2^qe an exact magnitude rounds to in mode 0 nearest-even, 1 toward zero, 2 toward −∞,
3 toward +∞ (R110), with whether anything was dropped. -/
def roundMant (x : Exact) (mode : Nat) (qe : Int) : Nat × Bool :=
  if qe ≤ x.exp then (x.mant <<< (x.exp - qe).toNat, x.sticky)
  else
    let sh := (qe - x.exp).toNat
    let n := x.mant >>> sh
    let rest := x.mant % 2 ^ sh
    let half := 2 ^ (sh - 1)
    let inexact := rest ≠ 0 || x.sticky
    let up : Bool := match mode with
      | 0 => rest > half || (rest = half && (x.sticky || n % 2 = 1))
      | 1 => false
      | 2 => x.neg && inexact
      | _ => !x.neg && inexact
    (if up then n + 1 else n, inexact)

/-- The value n × 2^qe as the bits of a format, without sign; n is at most 2^p. -/
def encodeMag (f : FloatFmt) (n : Nat) (qe : Int) : Nat :=
  if n < 2 ^ f.mb then n
  else if n = 2 ^ (f.mb + 1) then ((qe + 1 + f.mb + f.bias).toNat) <<< f.mb
  else (((qe + f.mb + f.bias).toNat) <<< f.mb) + (n - 2 ^ f.mb)

/-- The sign bit of a format. -/
def signBits (f : FloatFmt) (neg : Bool) : Nat := if neg then 2 ^ f.signPos else 0

/-- Is n × 2^qe beyond the largest finite magnitude of the format. -/
def beyondMax (f : FloatFmt) (n : Nat) (qe : Int) : Bool :=
  if qe ≥ f.maxE then decide (n <<< (qe - f.maxE).toNat > f.maxM)
  else decide (n > f.maxM <<< (f.maxE - qe).toNat)

/-- The overflow result of R166: with SAT, or in a format with no infinity, the largest finite value; otherwise by
mode and sign. -/
def overflowBits (f : FloatFmt) (neg : Bool) (mode : Nat) (sat : Bool) : Nat :=
  signBits f neg +
    match sat, f.infBits with
    | true, _ => f.maxBits
    | _, none => f.maxBits
    | false, some inf =>
      match mode with
      | 0 => inf
      | 1 => f.maxBits
      | 2 => if neg then inf else f.maxBits
      | _ => if neg then f.maxBits else inf

/-- A non-zero magnitude (or a zero, keeping its sign) rounded once to a format (R166). -/
def roundTo (f : FloatFmt) (mode : Nat) (sat : Bool) (x : Exact) : Nat × RoundFlags :=
  if x.mant = 0 && !x.sticky then (signBits f x.neg, ⟨false, false, false⟩)
  else
    let l : Int := (floorLog2 x.mant : Int) + x.exp
    if l > 300 then (overflowBits f x.neg mode sat, ⟨true, true, false⟩)
    else
      let e : Int := if x.mant = 0 then f.emin else max l f.emin
      let qe := e - f.p + 1
      let (n, ine) := roundMant x mode qe
      if beyondMax f n qe then (overflowBits f x.neg mode sat, ⟨ine, true, false⟩)
      else (signBits f x.neg + encodeMag f n qe,
            ⟨ine, false, ine && (decide (l < -126) || x.mant = 0)⟩)

/-- An integer times a power of two as an exact magnitude. -/
def Exact.ofInt (i : Int) (e : Int) : Exact := ⟨decide (i < 0), i.natAbs, e, false⟩

/-- The signed integer value of an exact magnitude at exponent e, which must not exceed its own. -/
def Exact.toIntAt (x : Exact) (e : Int) : Int :=
  let m : Int := ((x.mant <<< (x.exp - e).toNat : Nat) : Int)
  if x.neg then -m else m

/-- An exact value rounded to an integer in a mode (R172). -/
def roundToInt (x : Exact) (mode : Nat) : Int :=
  let (n, _) := roundMant x mode 0
  if x.neg then -(n : Int) else n

end Sys2Proof.Machine
end

