-- ==== Sys2Proof/Machine/Operands.lean ====
section
/-! DEFINITION. The operand forms of the engines: format codes, element unpacking and packing (R130 to R135, R162 to
R165), block scales (R107, R133), rows and pitches (R132, R164, R683). -/
namespace Sys2Proof.Machine

/-- Bits of one element of a format code (R130, R162); 0 for a code that names no element. -/
def fmtBits (code : Nat) : Nat :=
  match code with
  | 0 => 4 | 1 => 6 | 2 => 6 | 3 => 8 | 4 => 8 | 5 => 8 | 6 => 4 | 7 => 16 | 8 => 32
  | 9 => 128 | 10 => 384 | 11 => 32 | 12 => 16 | _ => 0

/-- Bytes of a 32-element block of an MX format (R107). -/
def blockBytes (code : Nat) : Nat :=
  match code with
  | 0 => 16 | 1 => 24 | 2 => 24 | _ => 32

/-- Mantissa bits, exponent bits and fixed exponent x_f of the block floating formats, codes 0 to 4 (R130). -/
def mxParams (code : Nat) : Nat × Nat × Int :=
  match code with
  | 0 => (1, 2, -1) | 1 => (3, 2, -3) | 2 => (2, 3, -4) | 3 => (3, 4, -9) | _ => (2, 5, -16)

/-- The rate class of a matrix operand format, 0 for one the matrix engine does not take (R106). -/
def rateClass (code : Nat) : Nat :=
  match code with
  | 0 => 16384 | 6 => 16384 | 1 => 8192 | 2 => 8192 | 3 => 8192 | 4 => 8192 | 5 => 8192 | 7 => 2048 | _ => 0

/-- May the code stand in D_FMT (R106). -/
def matrixDst (code : Nat) : Bool :=
  match code with
  | 3 => true | 4 => true | 5 => true | 7 => true | 8 => true | 9 => true | _ => false

/-- Element k of a little-endian bit string (R132). -/
def elemAt (row : Nat) (w k : Nat) : Nat := (row >>> (w * k)) % 2 ^ w

/-- The n elements of width w of a byte string (R132, R164). -/
def unpack (w n : Nat) (bytes : List Byte) : List Nat :=
  let v := ofLe bytes
  (List.range n).map (fun k => elemAt v w k)

/-- Elements of width w packed into a little-endian byte string (R132, R164). -/
def pack (w : Nat) (es : List Nat) : List Byte :=
  leBytes ((es.length * w) / 8)
    ((es.zipIdx).foldl (fun acc (p : Nat × Nat) => acc + ((p.1 % 2 ^ w) <<< (w * p.2))) 0)

/-- The integer form of an element of format code 0 to 4 (R131), or none when it is not finite (R130). -/
def mxInt (code bits : Nat) : Option Int :=
  let (mb, eb, _) := mxParams code
  let m := bits % 2 ^ mb
  let e := (bits >>> mb) % 2 ^ eb
  let s := (bits >>> (mb + eb)) % 2
  let mag : Nat := if e = 0 then m else (2 ^ mb + m) * 2 ^ (e - 1)
  let bad : Bool := (code = 3 && e = 15 && m = 7) || (code = 4 && e = 31)
  if bad then none else some (if s = 1 then -(mag : Int) else mag)

/-- A block of BF16 elements in integer form: the elements (none where not finite) and the exponent X (R135). -/
def bf16Block (es : List Nat) : List (Option Int) × Int :=
  let expOf (b : Nat) : Nat := (b >>> 7) % 256
  let frac (b : Nat) : Nat := b % 128
  let emax : Nat := maxL (1 :: ((es.filter (fun b => expOf b ≠ 255 && (expOf b > 0 || frac b > 0))).map
    (fun b => max (expOf b) 1)))
  let conv (b : Nat) : Option Int :=
    if expOf b = 255 then none
    else
      let e' := max (expOf b) 1
      let m := if expOf b > 0 then frac b + 128 else frac b
      let d := emax - e'
      let q : Nat := if d ≤ 7 then m * 2 ^ (7 - d)
        else (roundMant ⟨false, m, 0, false⟩ 0 ((d - 7 : Nat) : Int)).1
      some (if (b >>> 15) % 2 = 1 then -(q : Int) else q)
  (es.map conv, (emax : Int) - 141)

/-- Two's complement integer elements (codes 5, 6, 11 and 12). -/
def intElem (w bits : Nat) : Int := sext w bits

/-- A finite matrix operand: the integer form I and the exponent x_f + X of every element of one row of A or column of
B; an element that is not finite is none (R130 to R135). `scales` holds the E8M0 byte of each 32-element block. -/
def matrixRow (code : Nat) (k : Nat) (bytes : List Byte) (scales : List Nat) : List (Option Int × Int) :=
  let es := unpack (fmtBits code) k bytes
  match code with
  | 5 => es.map (fun b => (some (intElem 8 b), 0))
  | 6 => es.map (fun b => (some (intElem 4 b), 0))
  | 7 => ((chunks 32 es).map (fun blk =>
      let r := bf16Block blk
      r.1.map (fun i => (i, r.2)))).flatten
  | _ =>
    let (_, _, xf) := mxParams code
    (((chunks 32 es).zipIdx).map (fun (p : List Nat × Nat) =>
      let sc := nthD scales p.2 0
      p.1.map (fun b => if sc = 255 then (none, xf) else (mxInt code b, xf + ((sc : Int) - 127))))).flatten

/-- The byte offset from one row to the next: the pitch in 64 B units, or the row's own length when the pitch is 0
(R132, R164, R683). -/
def rowStep (pitch rowBytes : Nat) : Nat := if pitch = 0 then rowBytes else pitch * 64

/-- A vector operand (R165): NaN (signalling or not), an infinity, or an exact finite value. -/
inductive FVal where
  | nan (signalling : Bool)
  | inf (neg : Bool)
  | fin (neg : Bool) (mant : Nat) (exp : Int)
  deriving DecidableEq, Repr

/-- A binary32 value (R165). -/
def f32Val (b : Nat) : FVal :=
  let s : Bool := (b >>> 31) % 2 = 1
  let e := (b >>> 23) % 256
  let m := b % 2 ^ 23
  if e = 255 then (if m = 0 then .inf s else .nan (decide (m < 2 ^ 22)))
  else if e = 0 then .fin s m (-149)
  else .fin s (2 ^ 23 + m) ((e : Int) - 150)

/-- A BF16 or binary32 element of code 7 or 8: BF16 is the upper half of a binary32 (R165). -/
def floatVal (code bits : Nat) : FVal := if code = 7 then f32Val (bits * 65536) else f32Val bits

/-- The floating-point format of a destination code, if it is one. -/
def dstFmt (code : Nat) : Option FloatFmt :=
  match code with
  | 0 => some fmtE2m1 | 1 => some fmtE2m3 | 2 => some fmtE3m2 | 3 => some fmtE4m3 | 4 => some fmtE5m2
  | 7 => some fmtBf16 | 8 => some fmtF32 | _ => none

/-- The canonical quiet NaN of a code 7 or 8 destination (R165). -/
def canonNan (code : Nat) : Nat := if code = 7 then 0x7FC0 else 0x7FC00000

/-- The infinity of a code 7 or 8 destination. -/
def infBitsOf (code : Nat) (neg : Bool) : Nat :=
  if code = 7 then (if neg then 0xFF80 else 0x7F80) else (if neg then 0xFF800000 else 0x7F800000)

/-- A signed zero of a code 7 or 8 destination. -/
def zeroBits (code : Nat) (neg : Bool) : Nat :=
  if neg then (if code = 7 then 0x8000 else 0x80000000) else 0

end Sys2Proof.Machine
end

