-- ==== Sys2Proof/Machine/DescCheck.lean ====
section
/-! DEFINITION. The checks every engine makes on a descriptor at the head of its queue (R92, R116, R117): a failed check
is a record kind with its DETAIL and address. -/
namespace Sys2Proof.Machine

/-- The first check that fails, if any. -/
def firstBad (l : List (Option MemFault)) : Option MemFault := l.findSome? id

/-- A check of an illegal encoding: fails with the DETAIL when the condition does not hold (R122). -/
def need (ok : Bool) (detail : Nat) : Option MemFault := if ok then none else some ⟨0x02, detail, 0⟩

/-- OP of a descriptor (R92). -/
def Desc.op (d : Desc) : Nat := d.f 0 5 0
/-- ENGINE of a descriptor. -/
def Desc.engine (d : Desc) : Nat := d.f 0 7 6
/-- SIG of a descriptor. -/
def Desc.sig (d : Desc) : Nat := d.f 0 14 13
/-- SIG_TAG of a descriptor. -/
def Desc.sigTag (d : Desc) : Nat := d.f 6 63 48

/-- Are all bits of a word outside a mask 0. -/
def onlyBits (w : U64) (mask : Nat) : Bool := decide (w.toNat &&& (2 ^ 64 - 1 - mask) = 0)

/-- Are the reserved bits of every word 0, by the masks of words 0 to 6 (R92: bit 15 of word 0 and bits [63:60] of word 7
are reserved in every layout). -/
def reservedOk (d : Desc) (m0 m1 m2 m3 m4 m5 m6 : Nat) : Bool :=
  onlyBits d.w0 (m0 ||| 0x7FFF) && onlyBits d.w1 m1 && onlyBits d.w2 m2 && onlyBits d.w3 m3 && onlyBits d.w4 m4 &&
  onlyBits d.w5 m5 && onlyBits d.w6 (m6 ||| 0xFFFF000000000000) && onlyBits d.w7 0xFFFFFFFFFFFFFFF

/-- The role of an operand (R116). -/
inductive Role where
  | matrixSrc | matrixDst | vectorSrc | vectorDst | copySrc | copyDst | slow | sendSrc | recvDst | ereadDst
  deriving DecidableEq, Repr

/-- Which region types a role allows: crystal 1, flow 2, sump 3, trace 4, mirror receive 5 (R116, R201). -/
def Role.allows (r : Role) (ty : Nat) : Bool :=
  match r, ty with
  | .matrixSrc, 1 => true | .matrixSrc, 2 => true | .matrixSrc, 3 => true
  | .matrixDst, 2 => true
  | .vectorSrc, 1 => true | .vectorSrc, 2 => true | .vectorSrc, 3 => true
  | .vectorDst, 2 => true | .vectorDst, 3 => true
  | .copySrc, 1 => true | .copySrc, 2 => true | .copySrc, 3 => true | .copySrc, 4 => true | .copySrc, 5 => true
  | .copyDst, 2 => true | .copyDst, 3 => true
  | .slow, 3 => true
  | .sendSrc, 1 => true | .sendSrc, 2 => true | .sendSrc, 3 => true | .sendSrc, 5 => true
  | .recvDst, 2 => true | .recvDst, 5 => true
  | .ereadDst, 2 => true
  | _, _ => false

/-- The region rule for one operand range (R116): outside every entry is kind 0x04, a wrong type kind 0x05. -/
def regionRule (c : CoreSt) (role : Role) (a n : Nat) : Option MemFault :=
  match c.regionFor a n with
  | none => some ⟨0x04, 0, a⟩
  | some i => if role.allows (c.regType i) then none else some ⟨0x05, 0, a⟩

/-- Bytes an operand spans: rows of `rowBytes` every `step` bytes. -/
def spanOf (rows step rowBytes : Nat) : Nat := (rows - 1) * step + rowBytes

/-- The shares of an engine in the memory that holds an address: local reads, local writes and stacked slots (R196, R226). -/
def CoreSt.share (c : CoreSt) (eng : Nat) (isWrite : Bool) (a : Nat) : Nat :=
  let w := c.reg .CORE_PORT_SHARE 0
  if a < 0x180000 then
    (if isWrite then bitsOf w (23 + 4 * eng) (20 + 4 * eng) else bitsOf w (4 + 5 * eng) (5 * eng))
  else bitsOf w (41 + 6 * eng) (36 + 6 * eng)

/-- An operand an engine has no share for is an illegal encoding with DETAIL 4 (R198). -/
def shareRule (c : CoreSt) (eng : Nat) (isWrite : Bool) (a : Nat) : Option MemFault :=
  need (c.share eng isWrite a ≠ 0) 4

/-- The base of the region that holds an address, 0 for none (R107). -/
def CoreSt.baseOf (c : CoreSt) (a : Nat) : Nat :=
  match c.regionOf a with
  | some i => c.regBase i
  | none => 0

/-- Do the rows of an operand in a block format start at whole blocks of its region (R107, R173). An operand outside every
region is left to the region rules. -/
def blockPlaced (c : CoreSt) (code a step rows : Nat) : Bool :=
  if code ≤ 4 then
    match c.regionOf a with
    | some i => decide ((a - c.regBase i) % blockBytes code = 0 ∧ (rows ≤ 1 ∨ step % blockBytes code = 0))
    | none => true
  else true

end Sys2Proof.Machine
end

