-- ==== Sys2Proof/Machine/EngineOps.lean ====
section
/-! DEFINITION. How an engine queue starts and completes its descriptors (R87 to R103, R116 to R119): the head's checks, the
scoreboard's conflict test, the working memory of an executing descriptor, faults and completion actions. -/
namespace Sys2Proof.Machine

/-! ### Execution -/

/-- Descriptors in execution in queue k, oldest first. -/
def CoreSt.executing (c : CoreSt) (k : Nat) : List QEntry :=
  (c.queue k).ents.filter (fun e => decide (e.st = .executing))

/-- Descriptors an engine may have in execution (R89). -/
def execLimit (k : Nat) : Nat := if k = 3 then 8 else 2

/-! ### Faults -/

/-- The record of a descriptor's fault (R121). -/
def entryRecord (k pos : Nat) (e : QEntry) (f : MemFault) : FaultRec :=
  { kind := f.kind, source := k, detail := f.detail, pc := e.pc, tpl := e.tpl, stage := e.stage, ord := e.ord, pos := pos,
    addr := f.addr, w0 := e.desc.w0, w7 := e.desc.w7 }

/-- Is a kind one of the memory errors that start recovery (R118). -/
def isMemError (kind : Nat) : Bool := kind = 0x09 || kind = 0x0A

/-- A descriptor faults (R117, R118): its queue halts, the record is written, a memory error starts recovery. -/
def State.haltQueue (s : State) (p k pos : Nat) (e : QEntry) (f : MemFault) : State :=
  let s := s.modCore p (fun c => c.setQueue k { c.queue k with halted := true })
  s.runCore p (s.core p, .record (entryRecord k pos e f) :: (if isMemError f.kind then [.memError f.kind] else []))

/-! ### Starting -/

/-- The check of SIG's peer target, step 7 of R117 (R101, R319): a core of the quadrant, or an entry of the signal table. -/
def State.sigCheck (s : State) (q : Nat) (d : Desc) : Option MemFault :=
  match d.sig with
  | 2 => need (decide (d.sigTag % 256 / 64 = q) && (s.phys (d.sigTag % 256)).isSome) 7
  | 3 => need (decide (d.sigTag < (match (s.quad q).plan with | some p => p.signals.length | none => 0))) 7
  | _ => none

/-- The first failing check, with the reserved bits of a SIG 2 tag (R92, R101) judged at their place in R117's order. -/
def sigReserved (d : Desc) (r : Option MemFault) : Option MemFault :=
  if d.sig = 2 ∧ d.sigTag / 4096 ≠ 0 then
    match r with
    | some f => if f.kind = 2 ∧ f.detail ≤ 3 then some f else some ⟨2, 3, 0⟩
    | none => some ⟨2, 3, 0⟩
  else r

/-- How an engine judges a head: its checks, and a wait inside the engine for one in execution. -/
structure Judge where
  queue : Nat
  check : State → Nat → CoreSt → Desc → Option MemFault
  holds : CoreSt → Desc → Desc → Bool := fun _ _ _ => false

/-- What a start command meets: nothing to start, a head that failed its checks, or a head that starts. -/
inductive Start where
  | nothing
  | faulty (p pos : Nat) (e : QEntry) (f : MemFault)
  | go (p pos : Nat) (e : QEntry)

/-- The head of a queue of the core behind v judged for a command that starts descriptors `want` accepts (R88, R117,
R129: checks before any wait). -/
def State.judge (s : State) (v : Nat) (j : Judge) (want : Desc → Bool) : Start :=
  match s.phys v with
  | none => .nothing
  | some p =>
    let c := s.core p
    match c.head j.queue with
    | none => .nothing
    | some (pos, e) =>
      match sigReserved e.desc (j.check s (v / 64) c e.desc) with
      | some f => .faulty p pos e f
      | none =>
        if !want e.desc then .nothing
        else if (c.executing j.queue).length ≥ execLimit j.queue then .nothing
        else if (c.executing j.queue).any (fun x => j.holds c e.desc x.desc) then .nothing
        else if c.conflict j.queue e then .nothing
        else .go p pos e

/-- The working memory of a starting descriptor: the core with the writes of the descriptors of its queue that execute
before it (R90). -/
def CoreSt.working (c : CoreSt) (k seqNo now : Nat) : Run :=
  let r : Run := ⟨c, now, none, [], []⟩
  let r' := ((c.executing k).filter (fun x => decide (x.seqNo < seqNo))).foldl (fun r x => r.applyWrites x.pend) r
  { r' with writes := [] }

/-- A core after a descriptor's execution: its memory as before, but for the poison of an uncorrectable unit (R207). -/
def CoreSt.unwork (c : CoreSt) (r : Run) : CoreSt :=
  let c' := { r.c with sram := c.sram, units := c.units }
  match r.fault with
  | some f => if f.kind = 0x09 ∧ f.detail = 0 then c'.setUnit (f.addr / 64) { c.unit (f.addr / 64) with poison := true } else c'
  | none => c'

/-- A descriptor executes on physical core p (R88): its work done on the working memory, its writes kept for its completion
(R100); a fault halts the queue. The rows a reduction wrote before the row whose partials do not match stay written (R186). `mark`
finishes the entry. -/
def State.work (s : State) (p k pos : Nat) (e : QEntry) (f : Run → Run) (mark : QEntry → QEntry) : State :=
  let c := s.core p
  let r := f (c.working k e.seqNo s.now)
  let c' := c.unwork r
  match r.fault with
  | some m =>
    let c' := if m.kind = 0x02 then ((⟨c', s.now, none, [], []⟩ : Run).applyWrites r.writes.reverse).c else c'
    (s.runCore p (c', r.evs)).haltQueue p k pos e m
  | none =>
    let e' := mark { e with st := .executing, pend := r.writes.reverse }
    s.runCore p (c'.setEntry k e', r.evs)

/-- Cycles in which some head of the core waited on claims, those of a flushed head among them, and which no earlier start brought,
added to SB_WAIT_CYCLES (R97, R128) (DESIGN CHOICE, log entry 104). -/
def State.addWait (s : State) (p n : Nat) : State :=
  s.modCore p (fun c => { c.bumpWrap .SB_WAIT_CYCLES 0 63 0 n with waitDue := false })

/-- A start command: the head of a queue is judged and, when it may start, the meaning `go` starts it (R88, R117)
(DESIGN CHOICE, log entry 30). -/
def State.startHead (s : State) (v : Nat) (j : Judge) (want : Desc → Bool) (waited : Nat)
    (go : State → Nat → Nat → QEntry → State) : State :=
  match s.judge v j want with
  | .nothing => s
  | .faulty p pos e f => s.haltQueue p j.queue pos e f
  | .go p pos e => go (s.addWait p waited) p pos e

end Sys2Proof.Machine
end

