-- ==== Sys2Proof/Machine/Move.lean ====
section
/-! DEFINITION. The move engine's commands (R111, R112, R215 to R224, R683, R684): COPY, SLOW_IN, SLOW_OUT, PULL, FILL and
the peer's side of a PULL. -/
namespace Sys2Proof.Machine

/-! ### Checks (R111, R112, R116, R117, R215) -/

/-- Granules of a move or exchange descriptor, LEN + 1. -/
def Desc.granules (d : Desc) : Nat := d.f 4 23 0 + 1

/-- Does an HBM range lie wholly in a window register (R215, R228). -/
def State.inWindow (s : State) (r : Reg) (q a n : Nat) : Bool :=
  let base := s.fld r q 15 0 * 2 ^ 20
  let size := s.fld r q 31 16 * 2 ^ 20
  decide (a + n ≤ 0x600000000 ∧ base ≤ a ∧ a + n ≤ base + size)

/-- The flow of a kind-5 entry for a peer (R342, R355). -/
def CoreSt.pullFlow (c : CoreSt) (peer : Nat) : Option Nat :=
  (List.range 1024).find? (fun f => c.fld .MSH_FLOW f 12 10 = 5 && c.fld .MSH_FLOW f 55 48 = peer)

/-- Row length, rows and the pitches of COPY in bytes (R111, R683). -/
def Desc.copyShape (d : Desc) : Nat × Nat × Nat × Nat :=
  let n := d.granules * 64
  (n, d.f 4 47 32 + 1, rowStep (d.f 1 63 48) n, rowStep (d.f 2 63 48) n)

/-- The reserved bits of a move descriptor (R111): word 6 [47:0], which the rule does not list, among them (DESIGN CHOICE, log
entry 110). -/
def moveReserved (d : Desc) : Bool :=
  let a48 := 0xFFFFFFFFFFFF
  let len := 0xFFFFFF
  match d.op with
  | 0 => reservedOk d 0 (2 ^ 64 - 1) (2 ^ 64 - 1) 0 0x0000FFFF00FFFFFF 0 0
  | 1 => reservedOk d 0 0xFFFFFFFFFF a48 0 len 0 0
  | 2 => reservedOk d 0 a48 0xFFFFFFFFFF 0 len 0 0
  | 3 => reservedOk d 0 0xFFFFFFFFFFFFFF a48 0 len 0 0
  | _ => reservedOk d 0 0 a48 0 len (2 ^ 64 - 1) 0

/-- The peer check of PULL (R112): a core of the quadrant with a kind-5 flow entry. -/
def State.pullPeer (s : State) (q : Nat) (c : CoreSt) (d : Desc) : Option MemFault :=
  let peer := d.f 1 55 48
  need (decide (peer / 64 = q) && (s.phys peer).isSome && (c.pullFlow peer).isSome) 8

/-- The peer's region rule of PULL (R116): a crystal region of the peer. -/
def State.pullSource (s : State) (d : Desc) : Option MemFault :=
  match s.vcore (d.f 1 55 48) with
  | none => none
  | some c => match c.regionFor (d.f 1 47 0) (d.granules * 64) with
    | none => some ⟨0x04, 0, d.f 1 47 0⟩
    | some i => if c.regType i = 1 then none else some ⟨0x05, 0, d.f 1 47 0⟩

/-- The byte ranges of its own core's memory a move descriptor reads. -/
def Desc.mvReads (d : Desc) : List (Nat × Nat) :=
  let (len, rows, ss, _) := d.copyShape
  match d.op with
  | 0 => [(d.f 1 47 0, spanOf rows ss len)]
  | 2 => [(d.f 1 47 0, len)]
  | _ => []

/-- Must a move descriptor wait inside the engine for one in execution (R90, R216): on bytes a PULL has still to bring, or on HBM bytes a
SLOW_OUT has still to store. -/
def moveWaits (_ : CoreSt) (d e : Desc) : Bool :=
  let n := e.granules * 64
  match e.op with
  | 3 => d.mvReads.any (fun x => overlaps x.1 x.2 (e.f 2 47 0) n)
  | 2 => decide (d.op = 1) && overlaps (d.f 1 39 0) (d.granules * 64) (e.f 2 39 0) n
  | _ => false

/-- The move engine's checks in the order of R117. -/
def moveCheck (s : State) (q : Nat) (c : CoreSt) (d : Desc) : Option MemFault :=
  let n := d.granules * 64
  let a1 := d.f 1 47 0
  let a2 := d.f 2 47 0
  let (len, rows, ss, ds) := d.copyShape
  let shares := match d.op with
    | 0 => firstBad [shareRule c 2 false a1, shareRule c 2 true a2]
    | 2 => shareRule c 2 false a1
    | _ => shareRule c 2 true a2
  let regions := match d.op with
    | 0 => firstBad [regionRule c .copySrc a1 (spanOf rows ss len), regionRule c .copyDst a2 (spanOf rows ds len)]
    | 1 => firstBad [if s.inWindow .QD_HBM_RD_WIN q (d.f 1 39 0) n || s.inWindow .QD_HBM_WR_WIN q (d.f 1 39 0) n then none
        else some ⟨0x04, 0, d.f 1 39 0⟩, regionRule c .slow a2 n]
    | 2 => firstBad [regionRule c .slow a1 n,
        if s.inWindow .QD_HBM_WR_WIN q (d.f 2 39 0) n then none else some ⟨0x04, 0, d.f 2 39 0⟩]
    | 3 => firstBad [s.pullSource d, regionRule c .copyDst a2 n]
    | _ => regionRule c .copyDst a2 n
  firstBad [need (d.engine = 2) 1, need (decide (d.op ≤ 4)) 2, need (moveReserved d) 3, shares, s.sigCheck q d,
    if d.op = 3 then s.pullPeer q c d else none, regions]

/-- The move engine's judgement of a head. -/
def moveJudge : Judge := { queue := 2, check := moveCheck, holds := moveWaits }

/-! ### Meanings -/

/-- COPY row by row: each row read whole before it is written (R683). -/
def copyRows (d : Desc) : Nat → Run → Nat → Run
  | 0, r, _ => r
  | n + 1, r, i =>
    let (len, _, ss, ds) := d.copyShape
    let (r, bs) := r.read (d.f 1 47 0 + i * ss) len
    copyRows d n (r.write (d.f 2 47 0 + i * ds) bs) (i + 1)

/-- COPY (R111, R683). -/
def execCopy (v : Fin 256) (waited : U64) (s : State) : Host.Outcome State Fault Refusal :=
  .next (s.startHead v moveJudge (fun d => d.op = 0) waited.toNat
    (fun s p pos e => s.work p 2 pos e (fun r => copyRows e.desc e.desc.copyShape.2.1 r 0) id))

/-- FILL (R111): the 64-bit pattern repeated. -/
def execFill (v : Fin 256) (waited : U64) (s : State) : Host.Outcome State Fault Refusal :=
  .next (s.startHead v moveJudge (fun d => d.op = 4) waited.toNat (fun s p pos e =>
    s.work p 2 pos e (fun r =>
      r.write (e.desc.f 2 47 0) ((List.range (8 * e.desc.granules)).flatMap (fun _ => leBytes 8 e.desc.w5.toNat))) id))

/-- SLOW_IN (R220, R223, R224): HBM bytes to the sump, a unit with an uncorrectable word poisoned. `found` is what the controller
finds on the way. -/
def execSlowIn (v : Fin 256) (waited : U64) (found : HbmFinds) (s : State) : Host.Outcome State Fault Refusal :=
  .next (s.startHead v moveJudge (fun d => d.op = 1) waited.toNat (fun s p pos e =>
    let q := p / 72
    let a := e.desc.f 1 39 0
    let n := e.desc.granules * 64
    let s := (s.hbmFinds q { found with bad := found.bad.filter (fun b => decide (a < b + 8 ∧ b < a + n)) }).hbmTraffic q a n
    let hit := (s.quad q).badWords a n
    let data := s.hbmRead q a n
    let dst := e.desc.f 2 47 0
    let units := (hit.map (fun b => (dst + (max a b - a)) / 64)).eraseDups
    s.work p 2 pos e (fun r => r.write dst data) (fun x => { x with
      pend := x.pend ++ units.map (fun u => ⟨max dst (u * 64), (data.drop (max dst (u * 64) - dst)).take 1, none, true⟩) })))

/-- SLOW_OUT (R220, R224): sump bytes kept for their place in HBM, where its completion stores them. `bad` lists words of the destination
that the controller's check marks uncorrectable as it stores them; a later read reports those (DEDUCED, log entry 29). -/
def execSlowOut (v : Fin 256) (waited : U64) (bad : List Nat) (s : State) : Host.Outcome State Fault Refusal :=
  .next (s.startHead v moveJudge (fun d => d.op = 2) waited.toNat (fun s p pos e =>
    let n := e.desc.granules * 64
    let a := e.desc.f 2 39 0
    let bs := (((s.core p).working 2 e.seqNo s.now).read (e.desc.f 1 47 0) n).2
    s.work p 2 pos e (fun r => (r.read (e.desc.f 1 47 0) n).1) (fun x => { x with
      hbm := some (a, bs), hbmBad := (bad.map (· / 8 * 8)).filter (fun b => decide (a < b + 8 ∧ b < a + n)) })))

/-- PULL (R684): the request leaves as a service flit; the data comes on the kind-5 flow. -/
def execPull (v : Fin 256) (waited : U64) (s : State) : Host.Outcome State Fault Refusal :=
  .next (s.startHead v moveJudge (fun d => d.op = 3) waited.toNat (fun s p pos e =>
    (s.work p 2 pos e id (fun x => { x with moved := 0, req := 0 })).send
      (.pullRequest (p / 72) p (e.desc.f 1 55 48) (e.desc.f 1 47 0) e.desc.granules)))

/-- The oldest PULL in execution of a core that satisfies a test, with its position. -/
def CoreSt.pulling (c : CoreSt) (f : QEntry → Bool) : Option (QEntry × Nat) :=
  ((c.queue 2).ents.zipIdx).find? (fun x => decide (x.1.st = .executing) && decide (x.1.desc.op = 3) && f x.1)

/-- PULL_REQUEST (R684): the request of core v reaches its peer, which reads the range and returns it in the owned slots of the reader's
kind-5 flow; a fenced peer discards it, counted and noticed, a service flit's TAG taken as 0 (R349; DESIGN CHOICE, log entry 128), and
an uncorrectable unit halts the reader's queue and is repaired on the peer (R118, R208). -/
def execPullRequest (v : Fin 256) (s : State) : Host.Outcome State Fault Refusal :=
  .next (match s.phys v with
    | none => s
    | some p =>
      match (s.core p).pulling (fun e => decide (e.req = 0)) with
      | none => s
      | some (e, pos) =>
        let peer := e.desc.f 1 55 48
        match s.phys peer with
        | none => s
        | some pp =>
          let s := s.modCore p (fun c => c.setEntry 2 { e with req := 1 })
          if s.fenced pp then (s.bump .MSH_ROUTER_STAT pp 15 0 1).noticeTag (pp / 72) 0 pp
          else
            let r0 : Run := ⟨s.core pp, s.now, none, [], []⟩
            let (r, bs) := r0.read (e.desc.f 1 47 0) (e.desc.granules * 64)
            let s := s.runCore pp (r.c, r.evs)
            match r.fault with
            | some m =>
              let s := s.modCore p (fun c => c.setQueue 2 { c.queue 2 with halted := true })
              let s := s.runCore p (s.core p, [.record (entryRecord 2 pos e m)])
              if isMemError m.kind then s.runCore pp (s.core pp, [.memError m.kind]) else s
            | none =>
              match (s.core p).pullFlow peer with
              | some f =>
                let tag := (s.core p).fld .MSH_FLOW f 9 0
                s.modCore pp (fun c => { c with outbox := Map.upd (α := List Flit) c.outbox tag [] (· ++ planFlits tag bs) })
              | none => s)

end Sys2Proof.Machine
end

