-- ==== Sys2Proof/Machine/Exchange.lean ====
section
/-! DEFINITION. The exchange engine's commands (R113 to R115, R336, R342, R416, R419): SEND, RECV, ESEND, EREAD and planned data
arriving. -/
namespace Sys2Proof.Machine

/-! ### Checks -/

/-- FLOW (R113). -/
def Desc.flow (d : Desc) : Nat := d.f 0 31 16
/-- Destination global ID, virtual core and the flagged-group fields of ESEND and EREAD (R113). -/
def Desc.elaDst (d : Desc) : Nat := d.f 5 19 0
/-- Destination virtual core id. -/
def Desc.elaCore (d : Desc) : Nat := d.f 5 27 20
/-- FLAGGED. -/
def Desc.elaFlagged (d : Desc) : Bool := d.f 5 28 28 = 1

/-- The exchange engine's checks in the order of R117. Bits that no field of the operation names are taken as reserved, not [31:29] of
word 5 alone (DESIGN CHOICE, log entry 111). -/
def exchangeCheck (s : State) (q : Nat) (c : CoreSt) (d : Desc) : Option MemFault :=
  let n := d.granules * 64
  let a48 := 0xFFFFFFFFFFFF
  let src := d.f 1 47 0
  let dst := d.f 3 47 0
  let res : Bool := match d.op with
    | 0 => reservedOk d 0xFFFF7FFF a48 0 0 0xFFFFFF 0 0
    | 1 => reservedOk d 0xFFFF7FFF 0 0 a48 0xFFFFFF 0 0
    | 2 => reservedOk d 0 a48 a48 0 0xFFFFFF 0xFFFFFFFF1FFFFFFF 0
    | _ => reservedOk d 0 0 a48 a48 0xFFFFFF 0xFFFFFFFF1FFFFFFF 0
  let ranges := match d.op with
    | 0 => firstBad [need (decide (d.flow < 1024)) 4, shareRule c 3 false src]
    | 1 => firstBad [need (decide (d.flow < 1024)) 4, need (decide (dst % 64 = 0)) 4, shareRule c 3 true dst]
    | 2 => firstBad [need (decide (d.granules ≤ if d.elaFlagged then 64 else 4096)) 4, shareRule c 3 false src]
    | _ => firstBad [need (decide (d.granules ≤ 4096)) 4, need (decide (d.f 5 28 28 = 0 ∧ d.f 5 63 32 = 0)) 4,
        shareRule c 3 true dst]
  let peer : Option MemFault :=
    if d.op ≤ 1 then none else need (s.findWin q d.elaDst (d.elaCore / 64)).isSome 8
  let regions := match d.op with
    | 0 => regionRule c .sendSrc src n
    | 1 => regionRule c .recvDst dst n
    | 2 => regionRule c .sendSrc src n
    | _ => regionRule c .ereadDst dst n
  firstBad [need (d.engine = 3) 1, need (decide (d.op ≤ 3)) 2, need res 3, ranges, s.sigCheck q d, peer, regions]

/-- Must an exchange descriptor wait inside the engine for one in execution (R90): on bytes a RECV or EREAD has still to bring, which it
would read or write. -/
def exchangeWaits (_ : CoreSt) (d e : Desc) : Bool :=
  let own := if d.op = 0 ∨ d.op = 2 then d.f 1 47 0 else d.f 3 47 0
  (e.op = 1 || e.op = 3) && overlaps own (d.granules * 64) (e.f 3 47 0) (e.granules * 64)

/-- The exchange engine's judgement of a head. -/
def exchangeJudge : Judge := { queue := 3, check := exchangeCheck, holds := exchangeWaits }

/-! ### Planned flows -/

/-- SEND (R113, R336, R343): the source's bytes become flits under the flow's TAG, which wait for the flow's injection slots. -/
def execSend (v : Fin 256) (waited : U64) (s : State) : Host.Outcome State Fault Refusal :=
  .next (s.startHead v exchangeJudge (fun d => d.op = 0) waited.toNat (fun s p pos e =>
    let tag := (s.core p).fld .MSH_FLOW e.desc.flow 9 0
    let bs := (((s.core p).working 3 e.seqNo s.now).read (e.desc.f 1 47 0) (e.desc.granules * 64)).2
    s.work p 3 pos e (fun x => (x.read (e.desc.f 1 47 0) (e.desc.granules * 64)).1)
      (fun x => { x with flits := planFlits tag bs })))

/-- The destination and length in granules of a descriptor that receives a flow: RECV, or PULL on a kind-5 flow. -/
def QEntry.takes (e : QEntry) (c : CoreSt) (k flow : Nat) : Bool :=
  decide (e.st = .executing) && decide (e.moved < e.desc.granules) &&
  (if k = 3 then decide (e.desc.op = 1 ∧ e.desc.flow = flow)
   else decide (e.desc.op = 3) && c.fld .MSH_FLOW flow 12 10 = 5 && c.fld .MSH_FLOW flow 55 48 = e.desc.f 1 55 48)

/-- Where a receiving descriptor writes. -/
def QEntry.lands (e : QEntry) (k : Nat) : Nat := if k = 3 then e.desc.f 3 47 0 else e.desc.f 2 47 0

/-- Granules taken by a receiving descriptor: written whole with the CRC that came (R114, R336). -/
def QEntry.take (e : QEntry) (k : Nat) (gs : List Granule) : QEntry × List Granule :=
  let n := min gs.length (e.desc.granules - e.moved)
  let ws := (gs.take n).zipIdx.map (fun x => (⟨e.lands k + 64 * (e.moved + x.2), x.1.data, some x.1.crc, false⟩ : MemWrite))
  ({ e with moved := e.moved + n, pend := e.pend ++ ws }, gs.drop n)

/-- Granules of a flow given to the receiving descriptors of queue k, oldest first; what is left over. -/
def CoreSt.deliver (c : CoreSt) (k flow : Nat) (gs : List Granule) : CoreSt × List Granule :=
  ((c.queue k).ents.filter (fun e => e.takes c k flow)).foldl
    (fun a e => let (e', rest) := e.take k a.2; (a.1.setEntry k e', rest)) (c, gs)

/-- RECV (R113, R114): takes what the flow's reserved buffer holds. -/
def execRecv (v : Fin 256) (waited : U64) (s : State) : Host.Outcome State Fault Refusal :=
  .next (s.startHead v exchangeJudge (fun d => d.op = 1) waited.toNat (fun s p pos e =>
    (s.work p 3 pos e id (fun x => { x with moved := 0 })).modCore p (fun c =>
      let (c', rest) := c.deliver 3 e.desc.flow (Map.get (α := List Granule) c.staged e.desc.flow [])
      { c' with staged := Map.set (α := List Granule) c'.staged e.desc.flow rest })))

/-- PLANNED_DATA_ARRIVAL (R114, R336): granules of a flow, each with the CRC that comes with it; written under a
RECV or PULL in execution, else held up to STAGE flits, the excess discarded with a record; a fenced core's are discarded (R349). -/
def execPlannedDataArrival (v : Fin 256) (flow : Fin 1024) (data : List Byte) (crcs : List (BitVec 16)) (s : State) :
    Host.Outcome State Fault Refusal :=
  .next (match s.phys v with
    | none => s
    | some p =>
      if s.fenced p then (s.bump .MSH_ROUTER_STAT p 15 0 1).noticeTag (p / 72) ((s.core p).fld .MSH_FLOW flow 9 0) p
      else
        let c := s.core p
        let gs := (chunks 64 data).zipIdx.map (fun x =>
          (⟨x.1 ++ List.replicate (64 - x.1.length) 0, (crcs.getD x.2 0).toNat⟩ : Granule))
        let (c, rest) := c.deliver 3 flow gs
        let (c, rest) := c.deliver 2 flow rest
        let held := Map.get (α := List Granule) c.staged flow [] ++ rest
        let room := 2 * c.fld .MSH_FLOW flow 27 16
        let c := { c with staged := Map.set (α := List Granule) c.staged flow (held.take room) }
        s.runCore p (c, if held.length ≤ room then [] else [.record { kind := 0x0D, source := 3 }]))

/-! ### Elastic requests -/

/-- The header of packet i of a request (R415): `w` the window, `id` the request id, `src` the sending core. -/
def State.requestPacket (s : State) (q w id src : Nat) (d : Desc) (data : List Byte) (i : Nat) : Packet :=
  let write : Bool := d.op = 2
  let win := s.reg .QD_ELA_WIN (q * 1024 + w)
  let w0 := (if write then 0 else 1) + (if d.elaFlagged then 16 else 0) + d.elaCore * 256 + d.elaDst * 2 ^ 16 +
    s.globalId * 2 ^ 36 + src * 2 ^ 56
  let w1 := bitsOf win 48 33 + id * 2 ^ 16 + bitsOf win 32 23 * 2 ^ 32 + i * 2 ^ 42 + max 1 (s.fld .QD_ELA_CFG q 43 36) * 2 ^ 48
  let w2 := d.f 2 47 0 + d.f 5 47 32 * 2 ^ 48
  let w3 := (d.granules - 1) + (if d.elaFlagged then d.f 5 63 48 * 2 ^ 16 else 0)
  ⟨BitVec.ofNat 64 w0, BitVec.ofNat 64 w1, BitVec.ofNat 64 w2, BitVec.ofNat 64 w3,
   if write then (data.drop (4096 * i)).take 4096 else []⟩

/-- An elastic descriptor's request enters its window (R419, R425): sent now, or waiting on the window's limits. -/
def State.issueRequest (s : State) (q p src : Nat) (e : QEntry) (data : List Byte) : State :=
  match s.findWin q e.desc.elaDst (e.desc.elaCore / 64) with
  | none => s
  | some w =>
    let x := (s.quad q).win w
    let id := x.nextId
    let g := e.desc.granules
    let write : Bool := e.desc.op = 2
    let n := if write then packetsOf g else 1
    let r : ElaReq :=
      { id := id, core := p, seqNo := e.seqNo, write := write, granules := g,
        packets := (List.range n).map (s.requestPacket q w id src e.desc data),
        reqFlits := if write then dataFlits g else 1, rspFlits := if write then 1 else dataFlits g, sentAt := s.now }
    let free : Bool := s.winRoom q w r && x.reqs.all (fun y => y.waiting.isNone)
    let r := if free then { r with tries := [(0, 1)] } else { r with waiting := some s.now }
    let s := s.modWin q w (fun y => { y with nextId := (id + 1) % 65536, reqs := y.reqs ++ [r] })
    let s := s.elaCount q 0 1
    if free then s.sendReq r else s

/-- ESEND (R113, R416). -/
def execEsend (v : Fin 256) (waited : U64) (s : State) : Host.Outcome State Fault Refusal :=
  .next (s.startHead v exchangeJudge (fun d => d.op = 2) waited.toNat (fun s p pos e =>
    let (r, bs) := ((s.core p).working 3 e.seqNo s.now).read (e.desc.f 1 47 0) (e.desc.granules * 64)
    let s := s.work p 3 pos e (fun x => (x.read (e.desc.f 1 47 0) (e.desc.granules * 64)).1) (fun x => { x with moved := 0 })
    if r.fault.isSome then s else s.issueRequest (p / 72) p v e bs))

/-- EREAD (R113, R416). -/
def execEread (v : Fin 256) (waited : U64) (s : State) : Host.Outcome State Fault Refusal :=
  .next (s.startHead v exchangeJudge (fun d => d.op = 3) waited.toNat (fun s p pos e =>
    (s.work p 3 pos e id (fun x => { x with moved := 0 })).issueRequest (p / 72) p v e []))

end Sys2Proof.Machine
end

