-- ==== Sys2Proof/Machine/MatrixEngine.lean ====
section
/-! DEFINITION. The matrix engine (R104 to R108, R130 to R153): the checks of MMUL, ANCHOR and WPADD, anchored exact
accumulation, wide partials, residues and the one rounding of a finish. -/
namespace Sys2Proof.Machine

/-- M of a matrix descriptor (R105). -/
def Desc.mxM (d : Desc) : Nat := d.f 4 7 0 + 1
/-- N of a matrix descriptor. -/
def Desc.mxN (d : Desc) : Nat := 16 * (d.f 4 15 8 + 1)
/-- K of a matrix descriptor. -/
def Desc.mxK (d : Desc) : Nat := 32 * (d.f 4 27 16 + 1)
/-- ACC_SLOT. -/
def Desc.mxSlot (d : Desc) : Nat := d.f 4 29 28
/-- Bit 0 of ACC_MODE: a start mode. -/
def Desc.mxStart (d : Desc) : Bool := d.f 0 56 56 = 1
/-- Bit 1 of ACC_MODE: a finish mode. -/
def Desc.mxFinish (d : Desc) : Bool := d.f 0 57 57 = 1

/-- Bytes of an element of a D format (R149); wide partials take 16. -/
def outBytes (code : Nat) : Nat := if code = 9 then 16 else fmtBits code / 8

/-- Bytes D takes: rows of N elements, or a wide partial's header and elements (R132, R146). -/
def Desc.mxDSpan (d : Desc) : Nat :=
  let z := outBytes (d.f 0 27 24)
  if d.f 0 27 24 = 9 then 64 + 16 * d.mxM * d.mxN
  else spanOf d.mxM (rowStep (d.f 3 63 48) (d.mxN * z)) (d.mxN * z)

/-- Bytes of one row of A, or one column of B. -/
def Desc.mxRowBytes (d : Desc) (code : Nat) : Nat := d.mxK * fmtBits code / 8

/-- The E8M0 scale bytes' address of the operand bytes at an address: base + offset / b (R107). -/
def scaleAddr (c : CoreSt) (code planeBase a : Nat) : Nat := planeBase + (a - c.baseOf a) / blockBytes code

/-- The anchor range of R139. -/
def anchorOk (x : Int) : Bool := decide (-1024 ≤ x ∧ x ≤ 1023)

/-- A slot as the descriptors in execution leave it: closed by a finish (R138, R160). -/
def CoreSt.slotAfter (c : CoreSt) (i : Nat) : MxSlot :=
  if (c.queue 0).ents.any (fun e => decide (e.st = .executing ∧ e.desc.op ≠ 1 ∧ e.desc.mxSlot = i) && e.desc.mxFinish) then {}
  else c.slot i

/-- The matrix engine's checks in the order of R117; `sigCheck` is the check of SIG's peer targets (DEDUCED, log entry 22). D's share,
region and range are checked in the finish modes alone, which write it (R108; DESIGN CHOICE, log entry 109). -/
def matrixCheck (c : CoreSt) (d : Desc) (sigCheck : Option MemFault) : Option MemFault :=
  let op := d.op
  let af := d.f 0 19 16
  let bf := d.f 0 23 20
  let df := d.f 0 27 24
  let m0 := 0x030000003FFF7FFF
  let all := 2 ^ 64 - 1
  let a := d.f 1 47 0
  let b := d.f 2 47 0
  let dd := d.f 3 47 0
  let aStep := rowStep (d.f 1 63 48) (d.mxRowBytes af)
  let bStep := rowStep (d.f 2 63 48) (d.mxRowBytes bf)
  let aSpan := spanOf d.mxM aStep (d.mxRowBytes af)
  let bSpan := spanOf d.mxN bStep (d.mxRowBytes bf)
  let usesA : Bool := op = 0 || (op = 1 && a ≠ 0)
  let slot := c.slotAfter d.mxSlot
  let eng := need (d.engine = 0) 1
  let opc := need (decide (op ≤ 2)) 2
  let res := need (reservedOk d m0 all all all 0x0000FFFF3FFFFFFF 0xFFFFFFFFFFFF all) 3
  let scaleZero : Bool := (decide (af ≤ 4) || decide (d.f 5 47 0 = 0)) && (decide (bf ≤ 4) || decide (d.f 6 47 0 = 0))
  let anchorField : Bool :=
    if d.f 0 28 28 = 1 then decide (d.f 4 47 36 = 0) else anchorOk (sext 16 (d.f 4 47 32))
  let ranges := match op with
    | 0 => firstBad [need (decide (d.mxM * d.mxN ≤ 4096)) 4, need anchorField 4, need scaleZero 4,
        need (!(d.mxFinish && df = 9) || decide (d.f 3 63 48 = 0)) 4,
        need (blockPlaced c af a aStep d.mxM && blockPlaced c bf b bStep d.mxN) 4,
        shareRule c 0 false a, shareRule c 0 false b, if d.mxFinish then shareRule c 0 true dd else none]
    | 1 => firstBad [need (decide (d.f 0 28 28 = 0 ∧ d.f 0 57 56 = 0)) 4,
        need (if a = 0 then anchorOk (sext 16 (d.f 3 15 0)) && decide (d.f 3 63 16 = 0) else decide (d.w3 = 0)) 4,
        need scaleZero 4, need ((a = 0 || blockPlaced c af a aStep d.mxM) && blockPlaced c bf b bStep d.mxN) 4,
        if usesA then shareRule c 0 false a else none, shareRule c 0 false b]
    | _ => firstBad [need (decide (d.mxM * d.mxN ≤ 4096)) 4, need anchorField 4,
        need (decide (d.w2 = 0 ∧ d.f 5 47 0 = 0 ∧ d.f 6 47 0 = 0 ∧ af = 0 ∧ bf = 0 ∧ d.f 4 27 16 = 0)) 4,
        need (decide (d.f 1 63 48 = 0)) 4, need (!(d.mxFinish && df = 9) || decide (d.f 3 63 48 = 0)) 4,
        shareRule c 0 false a, if d.mxFinish then shareRule c 0 true dd else none]
  let pair := match op with
    | 2 => need (matrixDst df) 5
    | 1 => need (decide (rateClass af ≠ 0 ∧ rateClass af = rateClass bf)) 5
    | _ => need (decide (rateClass af ≠ 0 ∧ rateClass af = rateClass bf) && matrixDst df) 5
  let slots := if op = 1 then none
    else if d.mxStart then need (!slot.isOpen) 6
    else need (slot.isOpen && decide (slot.m = d.mxM ∧ slot.n = d.mxN)) 6
  let srcs := match op with
    | 2 => regionRule c .matrixSrc a (64 + 16 * d.mxM * d.mxN)
    | _ => firstBad [if usesA then regionRule c .matrixSrc a aSpan else none, regionRule c .matrixSrc b bSpan,
        if usesA && decide (af ≤ 4) then regionRule c .matrixSrc (scaleAddr c af (d.f 5 47 0) a) (ceilDiv aSpan (blockBytes af)) else none,
        if bf ≤ 4 then regionRule c .matrixSrc (scaleAddr c bf (d.f 6 47 0) b) (ceilDiv bSpan (blockBytes bf)) else none]
  let dst := if op ≠ 1 && d.mxFinish then regionRule c .matrixDst dd d.mxDSpan else none
  firstBad [eng, opc, res, ranges, pair, slots, sigCheck, srcs, dst]

/-- Rows of a matrix operand in integer form, with their scales (R131 to R135). -/
def matrixRows (r : Run) (code k a step plane : Nat) : Nat → Nat → Run × List (List (Option Int × Int))
  | _, 0 => (r, [])
  | i, n + 1 =>
    let ra := a + i * step
    let (r1, bytes) := r.read ra (k * fmtBits code / 8)
    let (r2, scales) := if code ≤ 4 then r1.read (scaleAddr r1.c code plane ra) (k / 32) else (r1, [])
    let row := matrixRow code k bytes (scales.map (·.toNat))
    let (r3, rest) := matrixRows r2 code k a step plane (i + 1) n
    (r3, row :: rest)

/-- The rows of A and the columns of B as the engine takes them (R197): for each 16 destination rows, theirs of A and then all of B; `n`
groups from group `g`. -/
def matrixPasses (d : Desc) : Nat → Run → Nat → Run × List (List (Option Int × Int)) × List (List (Option Int × Int))
  | 0, r, _ => (r, [], [])
  | n + 1, r, g =>
    let af := d.f 0 19 16
    let bf := d.f 0 23 20
    let (r, rows) := matrixRows r af d.mxK (d.f 1 47 0) (rowStep (d.f 1 63 48) (d.mxRowBytes af)) (d.f 5 47 0) (16 * g) (min 16 (d.mxM - 16 * g))
    let (r, cols) := matrixRows r bf d.mxK (d.f 2 47 0) (rowStep (d.f 2 63 48) (d.mxRowBytes bf)) (d.f 6 47 0) 0 d.mxN
    let (r, rest, _) := matrixPasses d n r (g + 1)
    (r, rows ++ rest, cols)

/-- x mod 255 (R150). -/
def res255 (x : Int) : Nat := (x % 255).toNat

/-- 2^n mod 255. -/
def pow2mod255 (n : Nat) : Nat := 2 ^ (n % 8)

/-- One aligned and truncated term added to an element (R141), with the residue prediction of R151. `p` is the exact
integer, `s` the shift, `rp` the residue of p predicted from the operands. Answers the element and whether non-zero bits
were dropped. -/
def addTerm (x : MxElem) (p : Int) (s : Int) (rp : Nat) : MxElem × Bool :=
  if 0 ≤ s then
    let t0 := p * (2 ^ s.toNat : Nat)
    let t := if t0 > (2 ^ 135 : Nat) then ((2 ^ 135 : Nat) : Int) else if t0 < -((2 ^ 135 : Nat) : Int) then -((2 ^ 135 : Nat) : Int) else t0
    ({ x with
        sum := x.sum + t
        ovf := x.ovf || decide (t.natAbs ≥ 2 ^ 127)
        residue := (x.residue + rp * pow2mod255 s.toNat) % 255 }, false)
  else
    let d := (-s).toNat
    let t := p >>> d
    let low := p - t * (2 ^ d : Nat)
    ({ x with
        sum := x.sum + t
        ovf := x.ovf || decide (t.natAbs ≥ 2 ^ 127)
        residue := (x.residue + ((rp + 255 - res255 low) % 255) * pow2mod255 ((8 - d % 8) % 8)) % 255 }, decide (low ≠ 0))

/-- All K terms of one output element (R136, R141, R134). -/
def dotTerms (floor : Int) (row col : List (Option Int × Int)) (x : MxElem) : MxElem × Bool :=
  (row.zip col).foldl (fun (acc : MxElem × Bool) (ab : (Option Int × Int) × (Option Int × Int)) =>
    match ab.1.1, ab.2.1 with
    | some ia, some ib =>
      let (e, u) := addTerm acc.1 (ia * ib) (ab.1.2 + ab.2.2 - floor) ((res255 ia * res255 ib) % 255)
      (e, acc.2 || u)
    | _, _ => ({ acc.1 with invalid := true }, acc.2)) (x, false)

/-- The output tile after every term of an MMUL: elements row by row, and whether anything was dropped. -/
def tileTerms (floor : Int) (rows cols : List (List (Option Int × Int))) (elems : List MxElem) : List MxElem × Bool :=
  let n := cols.length
  let outs := (rows.zipIdx).map (fun (ri : List (Option Int × Int) × Nat) =>
    (cols.zipIdx).map (fun (cj : List (Option Int × Int) × Nat) =>
      dotTerms floor ri.1 cj.1 (nthD elems (ri.2 * n + cj.2) {})))
  let flat := outs.flatten
  (flat.map (·.1), flat.any (·.2))

/-- ⌊log2 |I|⌋ + x_f + X, the largest over an operand's finite non-zero elements (R140). -/
def tileExp (rows : List (List (Option Int × Int))) : Option Int :=
  (rows.flatten).foldl (fun (acc : Option Int) (e : Option Int × Int) =>
    match e.1 with
    | some i =>
      if i = 0 then acc
      else
        let v : Int := (floorLog2 i.natAbs : Int) + e.2
        match acc with
        | none => some v
        | some w => some (max v w)
    | none => acc) none

/-- An output element rounded once to D_FMT, with whether it saturated (R148, R149). -/
def finishElem (code : Nat) (anchor : Int) (x : MxElem) : Nat × Bool :=
  match code with
  | 9 => if x.invalid then (2 ^ 127, false) else (((x.sum % (2 ^ 128 : Nat)).toNat), false)
  | 5 =>
    if x.invalid then (0x80, false)
    else
      let v := roundToInt (Exact.ofInt x.sum (anchor - 108)) 0
      if v > 127 then (127, true) else if v < -127 then (0x81, true) else (((v % 256).toNat), false)
  | _ =>
    match dstFmt code with
    | none => (0, false)
    | some f =>
      if x.invalid then ((match code with | 3 => 0x7F | 4 => 0x7E | 7 => 0x7FC0 | _ => 0x7FC00000), false)
      else if x.sum = 0 then (0, false)
      else
        let (b, fl) := roundTo f 0 true (Exact.ofInt x.sum (anchor - 108))
        (b, fl.ovf)

/-- Is an element in overflow at a finish (R142). -/
def elemOver (slot : MxSlot) (x : MxElem) : Bool :=
  !x.invalid && (x.ovf || decide (x.sum.natAbs ≥ 2 ^ 127) || decide (slot.terms > 16777216))

/-- An overflowed element saturated to the sign of its internal sum (R142). -/
def saturateElem (slot : MxSlot) (x : MxElem) : MxElem :=
  if elemOver slot x then
    { x with sum := if x.sum < 0 then -((2 ^ 127 - 1 : Nat) : Int) else ((2 ^ 127 - 1 : Nat) : Int) }
  else x

/-- The wide-partial header (R146). -/
def partialHeader (slot : MxSlot) (ovf : Bool) : List Byte :=
  let w0 := (slot.anchor % 65536).toNat + ((slot.m - 1) <<< 16) + ((slot.n / 16 - 1) <<< 24) +
    (if ovf then 2 ^ 32 else 0) + (if slot.under then 2 ^ 33 else 0) + 2 ^ 56
  leBytes 8 w0 ++ leBytes 8 (slot.terms % 2 ^ 25) ++ List.replicate 48 0

/-- A finish mode (R142 to R149), once the residues agree (R152, R160): overflow judged, D written, the slot closed. -/
def matrixFinish (r : Run) (d : Desc) : Run :=
  let slot := r.c.slot d.mxSlot
  let df := d.f 0 27 24
  let ovf := slot.elems.any (elemOver slot)
  if ovf ∧ d.f 0 29 29 = 1 then { r with fault := some ⟨0x06, 0, 0⟩ }
  else
    let elems := slot.elems.map (saturateElem slot)
    let outs := elems.map (finishElem df slot.anchor)
    let c := r.c
    let c := if ovf then c.setFld .CORE_MX_STAT 0 0 0 1 else c
    let c := if slot.under then c.setFld .CORE_MX_STAT 0 1 1 1 else c
    let c := if outs.any (·.2) then c.setFld .CORE_MX_STAT 0 3 3 1 else c
    let c := c.setSlot d.mxSlot {}
    let r := { r with c := c }
    let dd := d.f 3 47 0
    if df = 9 then r.write dd (partialHeader slot ovf ++ pack 128 (outs.map (·.1)))
    else
      let z := outBytes df
      let step := rowStep (d.f 3 63 48) (slot.n * z)
      ((chunks slot.n (outs.map (·.1))).zipIdx).foldl
        (fun r (p : List Nat × Nat) => r.write (dd + p.2 * step) (pack (8 * z) p.1)) r

/-- The slot a start mode opens (R137 to R139). -/
def openSlot (c : CoreSt) (d : Desc) : MxSlot :=
  let anchor : Int := if d.f 0 28 28 = 1 then Map.get (α := Int) c.anchors (d.f 4 35 32) 0 else sext 16 (d.f 4 47 32)
  { isOpen := true, anchor := anchor, m := d.mxM, n := d.mxN, terms := 0, under := false,
    elems := List.replicate (d.mxM * d.mxN) {} }

/-- MMUL (R104, R136 to R141): the tile's terms into the slot; a finish follows at the completion (DEDUCED, log entry 23). -/
def matrixMul (r : Run) (d : Desc) : Run :=
  let (r, rows, cols) := matrixPasses d (ceilDiv d.mxM 16) r 0
  if r.fault.isSome then r
  else
    let slot := if d.mxStart then openSlot r.c d else r.c.slot d.mxSlot
    let (elems, under) := tileTerms (slot.anchor - 108) rows cols slot.elems
    let newInvalid := (elems.zip slot.elems).any (fun (p : MxElem × MxElem) => p.1.invalid && !p.2.invalid)
    let c := if newInvalid then r.c.setFld .CORE_MX_STAT 0 2 2 1 else r.c
    let slot := { slot with elems := elems, under := slot.under || under, terms := slot.terms + d.mxK }
    { r with c := c.setSlot d.mxSlot slot }

/-- The header check of WPADD (R147). -/
def partialOk (d : Desc) (hdr : List Byte) : Bool :=
  let w0 := ofLe (hdr.take 8)
  let w1 := ofLe ((hdr.drop 8).take 8)
  decide (natBits w0 63 56 = 1 ∧ natBits w0 23 16 = d.f 4 7 0 ∧ natBits w0 31 24 = d.f 4 15 8 ∧ natBits w0 55 34 = 0 ∧
    natBits w1 63 25 = 0) && anchorOk (sext 16 w0) && (hdr.drop 16).all (fun b => b = 0)

/-- WPADD (R147): a tile of wide partials added as one term an element. -/
def matrixPartial (r : Run) (d : Desc) : Run :=
  let a := d.f 1 47 0
  let (r, bytes) := r.read a (64 + 16 * d.mxM * d.mxN)
  if r.fault.isSome then r
  else if !partialOk d (bytes.take 64) then { r with fault := some ⟨0x02, 4, 0⟩ }
  else
    let w0 := ofLe (bytes.take 8)
    let terms := natBits (ofLe ((bytes.drop 8).take 8)) 24 0
    let hover : Bool := natBits w0 32 32 = 1
    let hunder : Bool := natBits w0 33 33 = 1
    let slot := if d.mxStart then openSlot r.c d else r.c.slot d.mxSlot
    let hAnchor := sext 16 w0
    let dShift := hAnchor - slot.anchor
    let vals := unpack 128 (d.mxM * d.mxN) (bytes.drop 64)
    let outs := (vals.zip slot.elems).map (fun (p : Nat × MxElem) =>
      if p.1 = 2 ^ 127 then ({ p.2 with invalid := true, ovf := p.2.ovf || hover }, false)
      else
        let v := sext 128 p.1
        let (e, u) := addTerm p.2 v dShift (res255 v)
        ({ e with ovf := e.ovf || hover }, u))
    let elems := outs.map (·.1)
    let newInvalid := (elems.zip slot.elems).any (fun (p : MxElem × MxElem) => p.1.invalid && !p.2.invalid)
    let c := if newInvalid then r.c.setFld .CORE_MX_STAT 0 2 2 1 else r.c
    let c := if dShift ≠ 0 then c.setFld .CORE_MX_STAT 0 4 4 1 else c
    let slot := { slot with
      elems := elems, under := slot.under || hunder || outs.any (·.2), terms := slot.terms + terms }
    { r with c := c.setSlot d.mxSlot slot }

/-- ANCHOR (R140): the register named and the anchor G = α + β, or −1,024. -/
def matrixAnchor (r : Run) (d : Desc) : Run × (Nat × Int) :=
  let af := d.f 0 19 16
  let bf := d.f 0 23 20
  let a := d.f 1 47 0
  let (r, alpha) := if a = 0 then (r, some (sext 16 (d.f 3 15 0)))
    else
      let (r, rows) := matrixRows r af d.mxK a (rowStep (d.f 1 63 48) (d.mxRowBytes af)) (d.f 5 47 0) 0 d.mxM
      (r, tileExp rows)
  let (r, cols) := matrixRows r bf d.mxK (d.f 2 47 0) (rowStep (d.f 2 63 48) (d.mxRowBytes bf)) (d.f 6 47 0) 0 d.mxN
  let g : Int := match alpha, tileExp cols with
    | some x, some y => x + y
    | _, _ => -1024
  (r, (d.f 4 35 32, g))

/-- The byte ranges a matrix descriptor reads: base and length. -/
def Desc.mxReads (c : CoreSt) (d : Desc) : List (Nat × Nat) :=
  let af := d.f 0 19 16
  let bf := d.f 0 23 20
  let a := d.f 1 47 0
  let b := d.f 2 47 0
  let aSpan := spanOf d.mxM (rowStep (d.f 1 63 48) (d.mxRowBytes af)) (d.mxRowBytes af)
  let bSpan := spanOf d.mxN (rowStep (d.f 2 63 48) (d.mxRowBytes bf)) (d.mxRowBytes bf)
  if d.op = 2 then [(a, 64 + 16 * d.mxM * d.mxN)]
  else [(a, aSpan), (b, bSpan), (scaleAddr c af (d.f 5 47 0) a, ceilDiv aSpan (blockBytes af)),
    (scaleAddr c bf (d.f 6 47 0) b, ceilDiv bSpan (blockBytes bf))]

/-- Must a matrix descriptor wait inside the engine for one in execution: on the same slot (R138), on an ANCHOR to the register it starts
from (R139), or on bytes a finish has still to write (R90). -/
def matrixWaits (c : CoreSt) (d e : Desc) : Bool :=
  (if d.op = 1 then false
   else if e.op = 1 then d.mxStart && decide (d.f 0 28 28 = 1 ∧ d.f 4 35 32 = e.f 4 35 32)
   else decide (d.mxSlot = e.mxSlot)) ||
  (decide (e.op ≠ 1) && e.mxFinish && (d.mxReads c).any (fun x => overlaps x.1 x.2 (e.f 3 47 0) e.mxDSpan))

/-- Does the check of R152 compare an element: one valid and not overflowed. -/
def MxElem.compared (x : MxElem) : Bool := !x.invalid && !x.ovf

/-- Every slot's residues agree with its sums, the check of R152. -/
def residuesAgree (slot : MxSlot) : Bool :=
  slot.elems.all (fun x => !x.compared || decide (x.residue = res255 x.sum))

/-- One bit of one compared element's prediction inverted (R155), both picked by a free value. -/
def MxSlot.inject (slot : MxSlot) (w : Nat) : MxSlot :=
  let at' := (slot.elems.zipIdx.filter (fun x => x.1.compared)).map (·.2)
  let i := at'.getD (w % at'.length) 0
  { slot with elems := setNth slot.elems i (let x := nthD slot.elems i {}; { x with residue := x.residue ^^^ 2 ^ (w / 2 ^ 32 % 8) }) }

end Sys2Proof.Machine
end

