-- ==== Sys2Proof/Machine/Matrix.lean ====
section
/-! DEFINITION. The matrix engine's commands (R104 to R108, R130 to R160): MMUL, ANCHOR, WPADD and a residue mismatch. -/
namespace Sys2Proof.Machine

/-- The matrix engine's judgement of a head. -/
def matrixJudge : Judge :=
  { queue := 0, check := fun s q c d => matrixCheck c d (s.sigCheck q d), holds := matrixWaits }

/-- What a matrix descriptor computes, with the anchor an ANCHOR pass will write (R104). -/
def matrixWork (d : Desc) (r : Run) : Run × Option (Nat × Int) :=
  match d.op with
  | 0 => (matrixMul r d, none)
  | 1 => let (r, g) := matrixAnchor r d; (r, some g)
  | _ => (matrixPartial r d, none)

/-- A waiting injection takes a tile that has started and whose slot has an element to compare (R155): one bit of one prediction is
inverted, both free, and the tile is marked (DESIGN CHOICE, log entry 114). -/
def State.injectTile (s : State) (p : Nat) (e : QEntry) : State :=
  let c := s.core p
  let slot := c.slot e.desc.mxSlot
  let started : Bool := (c.executing 0).any (fun x => x.seqNo = e.seqNo)
  if c.injectResidue ∧ started ∧ e.desc.op ≠ 1 ∧ e.replays = 0 ∧ slot.elems.any MxElem.compared then
    let (w, s) := s.fresh
    s.modCore p (fun c => { c.setSlot e.desc.mxSlot (slot.inject w.toNat) with
      injectResidue := false
      queues := (c.setQueue 0 { c.queue 0 with ents := (c.queue 0).ents.map (fun x =>
        if x.seqNo = e.seqNo then { x with rehearse := true } else x) }).queues })
  else s

/-- A matrix descriptor executes: the slot as it stood is kept for a replay (R153). -/
def matrixGo (s : State) (p pos : Nat) (e : QEntry) : State :=
  let c := s.core p
  let g := (matrixWork e.desc (c.working 0 e.seqNo s.now)).2
  (s.work p 0 pos { e with saved := some (c.slot e.desc.mxSlot) } (fun r => (matrixWork e.desc r).1)
    (fun x => { x with anchor := g })).injectTile p e

/-- MMUL (R104, R136 to R149): the head MMUL starts after `waited` cycles on claims. -/
def execMmul (v : Fin 256) (waited : U64) (s : State) : Host.Outcome State Fault Refusal :=
  .next (s.startHead v matrixJudge (fun d => d.op = 0) waited.toNat matrixGo)

/-- ANCHOR (R140). -/
def execAnchor (v : Fin 256) (waited : U64) (s : State) : Host.Outcome State Fault Refusal :=
  .next (s.startHead v matrixJudge (fun d => d.op = 1) waited.toNat matrixGo)

/-- WPADD (R147). -/
def execWpadd (v : Fin 256) (waited : U64) (s : State) : Host.Outcome State Fault Refusal :=
  .next (s.startHead v matrixJudge (fun d => d.op = 2) waited.toNat matrixGo)

/-- The counts of a replay (R154, R155, R158): the first of an epoch is in the reserve, a rehearsed one is not in REPLAYS. -/
def CoreSt.countReplay (c : CoreSt) (rehearse : Bool) : CoreSt :=
  let c := if c.fld .CORE_MX_STAT 0 39 32 = 0 then c else c.setFld .CORE_EPOCH_STAT 0 49 49 1
  let c := (c.bump .CORE_MX_STAT 0 39 32 1).occur 0x0F
  if rehearse then c else c.bump .CORE_MX_STAT 0 31 16 1

/-- The record of a residue event (R122, R153, R154): ARG is the tile index. -/
def residueRecord (kind tiles pos : Nat) (e : QEntry) (rehearse : Bool) : FaultRec :=
  { entryRecord 0 pos e ⟨kind, 0, 0⟩ with arg := tiles, rehearse := rehearse }

/-- A first mismatch (R153): the slot restored but for an ANCHOR, which has none, the whole descriptor executed once more, the record
written. -/
def State.replay (s : State) (p pos : Nat) (e : QEntry) (rehearse : Bool) : State :=
  let s := s.modCore p (fun c => (if e.desc.op = 1 then c else c.setSlot e.desc.mxSlot (e.saved.getD {})).countReplay rehearse)
  let s := s.runCore p (s.core p, [.record (residueRecord 0x07 (s.core p).tiles pos e rehearse)])
  matrixGo s p pos { e with st := .waiting, pend := [], anchor := none, replays := e.replays + 1, rehearse := false }

/-- A residue mismatch of the matrix descriptor at a position (R152 to R155): replayed once; a second mismatch cordons the core. -/
def State.residueMismatch (s : State) (p pos : Nat) (e : QEntry) (rehearse : Bool) : State :=
  if e.replays = 0 then s.replay p pos e rehearse
  else s.runCore p (s.core p, [.record (residueRecord 0x08 (s.core p).tiles pos e false), .cordon 1 false])

/-- RESIDUE_MISMATCH (R152): the engine finds its shifters, its exponent paths or a residue of its `i`-th matrix descriptor in execution
to disagree. What an inverted prediction brings comes by itself, at the completion. -/
def execResidueMismatch (v : Fin 256) (i : Fin 2) (s : State) : Host.Outcome State Fault Refusal :=
  .next (match s.phys v with
    | none => s
    | some p =>
      match (((s.core p).queue 0).ents.zipIdx.filter (fun x => decide (x.1.st = .executing)))[(i : Nat)]? with
      | none => s
      | some (e, pos) => s.residueMismatch p pos e false)

end Sys2Proof.Machine
end

