-- ==== Sys2Proof/Machine/Complete.lean ====
section
/-! DEFINITION. The completion of a descriptor of any queue (R89, R98, R100, R152 to R154): a matrix tile's residues compared first, a
finish written, then the writes and the completion actions. -/
namespace Sys2Proof.Machine

/-- Does a virtual core of a quadrant own a slot of the HBM frame (R218, R228). -/
def State.ownsSlot (s : State) (q core : Nat) : Bool :=
  (List.range 512).any (fun r => let w := (s.reg .QD_HBM_SLOT (q * 512 + r)).toNat
    decide (w ≠ 0) && (List.range 8).any (fun j => decide (w / 256 ^ j % 256 = 64 + core)))

/-- Is an executing descriptor's transfer done: the flits of a SEND all injected (R343), granules of a PULL or RECV, the response of an
ESEND or EREAD; a SLOW_IN or SLOW_OUT needs a slot of its core's own (R220). -/
def State.transferred (s : State) (p k : Nat) (e : QEntry) : Bool :=
  match k, e.desc.op with
  | 2, 1 | 2, 2 => (match s.virtOf p with | some v => s.ownsSlot (p / 72) (v % 64) | none => false)
  | 2, 3 => decide (e.moved = e.desc.granules)
  | 3, 0 => e.flits.isEmpty
  | 3, 1 => decide (e.moved = e.desc.granules)
  | 3, 2 | 3, 3 => decide (e.moved = 1)
  | _, _ => true

/-- May the entry at a position complete: executing, first in its queue but for the exchange (R89), its transfer done. -/
def State.mayComplete (s : State) (p k pos : Nat) : Option QEntry :=
  match ((s.core p).queue k).ents[pos]? with
  | none => none
  | some e => if e.st = .executing ∧ (k = 3 ∨ pos = 0) ∧ s.transferred p k e then some e else none

/-- The completion actions of an entry at drip t, in the order of R100. -/
def completeEntry (c : CoreSt) (k : Nat) (e : QEntry) (t : Nat) : CoreSt × List CoreEvent :=
  let qs := c.queue k
  let c := c.setQueue k { qs with ents := qs.ents.filter (fun x => x.seqNo ≠ e.seqNo), completed := (qs.completed + 1) % 2 ^ 32 }
  let c := c.occur 0x09 (2 ^ k)
  let c := match e.anchor with
    | some (i, g) => { c with anchors := Map.set (α := Int) c.anchors i g }
    | none => c
  let c := if k = 0 then { c with tiles := c.tiles + 1 } else c
  let ev := e.desc.f 0 11 8
  let c := if e.desc.f 0 12 12 = 1 then { c with seq := c.seq.setEvc ev (c.seq.evc ev + 1) } else c
  let sig : List CoreEvent := if e.desc.sig = 0 then [] else [.signal e.desc.sig e.desc.sigTag]
  let (c, evs) := frameComplete c e.frame k t
  (c, sig ++ evs)

/-- Is a matrix tile's residue check still to pass (R152): an MMUL or WPADD whose slot disagrees. -/
def CoreSt.tileDisagrees (c : CoreSt) (k : Nat) (e : QEntry) : Bool :=
  decide (k = 0 ∧ e.desc.op ≠ 1) && !residuesAgree (c.slot e.desc.mxSlot)

/-- A descriptor's writes made visible: what it kept while it executed, and D of a finish (R100, R142). -/
def Run.settle (r : Run) (k : Nat) (e : QEntry) : Run :=
  let r := r.applyWrites e.pend
  if k = 0 ∧ e.desc.op ≠ 1 ∧ e.desc.mxFinish ∧ r.fault.isNone then matrixFinish r e.desc else r

/-- The HBM bytes of a SLOW_OUT stored (R100, R224), those the controller's check marks among them. -/
def State.storeHbm (s : State) (p : Nat) (e : QEntry) : State :=
  match e.hbm with
  | none => s
  | some (a, bs) => s.modQuad (p / 72) (fun x => x.store a bs e.hbmBad)

/-- DESCRIPTOR_COMPLETE of the entry at a position of queue k (R98, R100): a residue mismatch is met instead (R153, R154). -/
def State.completeAt (s : State) (v k pos t : Nat) : State :=
  match s.phys v with
  | none => s
  | some p =>
    match s.mayComplete p k pos with
    | none => s
    | some e =>
      let c := s.core p
      if c.tileDisagrees k e then s.residueMismatch p pos e e.rehearse
      else
        let r := (⟨c, t, none, [], []⟩ : Run).settle k e
        match r.fault with
        | some f => (s.modCore p (fun c => (c.unwork r).setEntry k { e with st := .waiting })).haltQueue p k pos e f
        | none => (s.runCore p (completeEntry r.c k e t)).storeHbm p e

/-- DESCRIPTOR_COMPLETE (R98, R100): the descriptor at a position of queue q completes at drip t. -/
def execDescriptorComplete (v : Fin 256) (q : Fin 4) (pos : Fin 8) (t : U64) (s : State) : Host.Outcome State Fault Refusal :=
  .next ((s.at' t.toNat).completeAt v q pos t.toNat)

end Sys2Proof.Machine
end

