-- ==== Sys2Proof/Machine/Elastic.lean ====
section
/-! DEFINITION. The commands of elastic traffic (R405, R413, R417 to R428): packets at a port and at their target, flagged
requests that time out, responses, retries and waits on a window. -/
namespace Sys2Proof.Machine

/-- ELASTIC_PACKET_RECEIVE (R405, R413, R417): a packet that came in by a port has its key checked, is delivered to its
quadrant or routed onward, from the port's edge router. -/
def execElasticPacketReceive (port : Fin 12) (pkt : Packet) (s : State) : Host.Outcome State Fault Refusal :=
  .next (
    if !s.keyIn port (pkKey pkt) then
      (s.fabCount port 1).keyRecord port (pkKey pkt) (pkDstCore pkt) (pkSrc pkt) 0
    else if pkDst pkt = s.globalId ∧ s.bit .KPR_QUAD_STAT (pkDstCore pkt / 64) 1 then
      (s.fabCount port 6).noticeTag (pkDstCore pkt / 64) 0 (72 * (pkDstCore pkt / 64))
    else s.routePacket (edgeRouter port) 1 port pkt)

/-! ### The target -/

/-- The outcome of R426 for a request packet. -/
inductive Arrival where
  | duplicate
  | again
  | fresh (first : Bool)
  deriving DecidableEq, Repr

/-- d = REQ_ID − H as a signed 16-bit number; a window that has received nothing takes any id as new (R426). -/
def idAhead (w : WinSt) (id : Nat) : Int :=
  match w.high with
  | none => 1
  | some h => sext 16 ((id + 65536 - h) % 65536)

/-- A packet classed by R426. -/
def WinSt.arrival (w : WinSt) (id pkt : Nat) : Arrival :=
  let d := idAhead w id
  if d < -255 then .duplicate
  else if d ≤ 0 && w.delivered.contains id then .again
  else match Map.find (α := List Nat) w.part id with
    | some got => if got.contains pkt then .duplicate else .fresh false
    | none => .fresh true

/-- The window after an id was received (R426): H raised, records more than 255 below it aged out. -/
def WinSt.sawId (w : WinSt) (id : Nat) : WinSt :=
  if idAhead w id > 0 then
    let keep := fun (x : Nat) => decide ((id + 65536 - x) % 65536 ≤ 255)
    { w with high := some id, delivered := w.delivered.filter keep, part := w.part.filter (fun p => keep p.1) }
  else w

/-- Partly arrived requests of a quadrant (R426). -/
def QuadSt.partials (x : QuadSt) : Nat := x.wins.foldl (fun n p => n + p.2.part.length) 0

/-- Is the request's range one the target may serve (R420). -/
def CoreSt.serves (c : CoreSt) (p : Packet) : Bool :=
  match c.regionFor (pkAddr p) (64 * pkLen p) with
  | none => false
  | some i => let t := c.regType i
    if pkType p = 0 then t = 2 || t = 5 else t = 1 || t = 2 || t = 3 || t = 5

/-- Is a request a member of a group (R421). -/
def pkMember (p : Packet) : Bool := pkType p = 0 && pkGroup p ≠ 0 && !pkFlagged p

/-- The key of a request's group counter (R421). -/
def pkGroupKey (p : Packet) : Nat := groupKey (pkWin p) (pkGroup p)

/-- A flagged request delivered (R422, R423): its data written, the event raised, GROUP_COUNT subtracted, the acknowledgement
sent with the given status. -/
def State.deliverFlagged (s : State) (q p : Nat) (pkt : Packet) (status t : Nat) : State :=
  let s := s.modCore p (fun c =>
    let c := c.hwWrite t (pkAddr pkt) pkt.data
    let c := { c with
      seq := c.seq.setEvc (pkEvent pkt) (c.seq.evc (pkEvent pkt) + 1)
      held := c.held.filter (fun h => !(h.win = pkWin pkt && pkReq h.pkt = pkReq pkt)) }
    c.setGroup (pkGroupKey pkt) (c.groupCount (pkGroupKey pkt) - pkCount pkt))
  let s := s.modWin q (pkWin pkt) (fun w => { w with delivered := pkReq pkt :: w.delivered })
  s.respond q pkt status []

/-- Flagged requests of a core whose counter has reached their GROUP_COUNT, delivered oldest first (R422). -/
def State.releaseHeld (s : State) (q p t : Nat) : State :=
  s.each (s.core p).held (fun s h =>
    if (s.core p).held.contains h && decide ((pkCount h.pkt : Int) ≤ (s.core p).groupCount (pkGroupKey h.pkt)) then
      s.deliverFlagged q p h.pkt 0 t
    else s)

/-- A read request served (R416, R426): the range read and returned; a memory error answers nothing and starts recovery
(DEDUCED, log entry 21). -/
def State.serveRead (s : State) (q p : Nat) (pkt : Packet) (t : Nat) : State :=
  let r0 : Run := ⟨s.core p, t, none, [], []⟩
  let (r, bs) := r0.read (pkAddr pkt) (64 * pkLen pkt)
  let s := s.runCore p (r.c, r.evs)
  match r.fault with
  | some m => s.runCore p (s.core p, [.memError m.kind])
  | none => s.respond q pkt 0 bs

/-- A new packet of a write request that is no flagged one (R421, R426): written; with the last packet the request is
delivered, its group counted, held requests released and the acknowledgement sent. -/
def State.takeWrite (s : State) (q p : Nat) (pkt : Packet) (t : Nat) : State :=
  let w := pkWin pkt
  let s := s.modCore p (fun c => c.hwWrite t (pkAddr pkt + 4096 * pkIndex pkt) pkt.data)
  let got := pkIndex pkt :: Map.get (α := List Nat) ((s.quad q).win w).part (pkReq pkt) []
  let n := packetsOf (pkLen pkt)
  if got.length < n then
    s.modWin q w (fun x => { x with part := Map.set (α := List Nat) x.part (pkReq pkt) got })
  else
    let s := s.modWin q w (fun x => { x with
      part := Map.del (α := List Nat) x.part (pkReq pkt), delivered := pkReq pkt :: x.delivered })
    let s := if pkMember pkt then
        s.modCore p (fun c => c.setGroup (pkGroupKey pkt) (c.groupCount (pkGroupKey pkt) + 1))
      else s
    (s.respond q pkt 0 []).releaseHeld q p t

/-- A new packet at its target core p (R421, R422, R426). -/
def State.takePacket (s : State) (q p : Nat) (pkt : Packet) (first : Bool) (t : Nat) : State :=
  let w := pkWin pkt
  let c := s.core p
  let noRoom : Bool := !c.groupRoom (pkGroupKey pkt)
  if pkType pkt = 1 then
    let s := s.modWin q w (fun x => let x := x.sawId (pkReq pkt); { x with delivered := pkReq pkt :: x.delivered })
    s.serveRead q p pkt t
  else if pkMember pkt && noRoom then (s.elaCount q 5 1).respond q pkt 2 []
  else if pkFlagged pkt then
    if (pkCount pkt : Int) ≤ c.groupCount (pkGroupKey pkt) ∨ pkCount pkt = 0 then
      (s.modWin q w (fun x => x.sawId (pkReq pkt))).deliverFlagged q p pkt 0 t
    else if noRoom then (s.elaCount q 5 1).respond q pkt 2 []
    else if c.held.any (fun h => h.win = w && pkReq h.pkt = pkReq pkt) then s.elaCount q 3 1
    else
      (s.modWin q w (fun x => x.sawId (pkReq pkt))).modCore p (fun c =>
        let c := { c with held := c.held ++ [(⟨w, pkt, t⟩ : HeldReq)] }
        c.setGroup (pkGroupKey pkt) (c.groupCount (pkGroupKey pkt)))
  else if first && decide (packetsOf (pkLen pkt) > 1) && decide ((s.quad q).partials ≥ 256) then s.elaCount q 5 1
  else (s.modWin q w (fun x => x.sawId (pkReq pkt))).takeWrite q p pkt t

/-- A request packet at its target quadrant at drip t (R420, R426). -/
def State.targetArrival (s : State) (q : Nat) (pkt : Packet) (t : Nat) : State :=
  if !s.winAccepts q pkt then
    (s.fabCount (homePort q) 1).keyRecord (homePort q) (pkKey pkt) (pkDstCore pkt) (pkSrc pkt) 0
  else match s.phys (pkDstCore pkt) with
    | none => s
    | some p =>
      if s.fenced p then (s.bump .MSH_ROUTER_STAT p 15 0 1).noticeTag q 0 p
      else if !(s.core p).serves pkt then (s.elaCount q 7 1).respond q pkt 3 []
      else match ((s.quad q).win (pkWin pkt)).arrival (pkReq pkt) (pkIndex pkt) with
        | .duplicate => s.elaCount q 3 1
        | .again => if pkType pkt = 1 then s.serveRead q p pkt t else s.respond q pkt 0 []
        | .fresh first => s.takePacket q p pkt first t

/-- ELASTIC_TARGET_ARRIVAL (R420 to R426): a request packet for a core of quadrant q; nothing for any other packet. -/
def execElasticTargetArrival (q : Fin 4) (pkt : Packet) (t : U64) (s : State) : Host.Outcome State Fault Refusal :=
  let s := s.at' t.toNat
  .next (if pkType pkt ≤ 1 ∧ pkDst pkt = s.globalId ∧ pkDstCore pkt / 64 = q then s.targetArrival q pkt t.toNat else s)

/-- ORDER_US, 0 taken as 1, in drips: 1 µs is 1,000 drips (R5, R435). -/
def State.orderDrips (s : State) (q : Nat) : Nat := 1000 * max 1 (s.fld .QD_ELA_CFG q 31 16)

/-- RTO_US, values below 10 taken as 10, in drips (R435). -/
def State.retryDrips (s : State) (q : Nat) : Nat := 1000 * max 10 (s.fld .QD_ELA_CFG q 15 0)

/-- FLAGGED_HOLD_TIMEOUT (R423): a request held ORDER_US is delivered with STATUS 1, counted and noticed. -/
def execFlaggedHoldTimeout (v : Fin 256) (win : Fin 1024) (id : BitVec 16) (t : U64) (s : State) :
    Host.Outcome State Fault Refusal :=
  let s := s.at' t.toNat
  let q := (v : Nat) / 64
  .next (match s.phys v with
    | none => s
    | some p =>
      match (s.core p).held.find? (fun h => h.win = (win : Nat) && pkReq h.pkt = id.toNat) with
      | none => s
      | some h =>
        if h.since + s.orderDrips q ≤ t.toNat then
          let count := (s.core p).groupCount (pkGroupKey h.pkt)
          let s := (s.elaCount q 4 1).notice (some q) 0x0B ((win : Nat) + pkGroup h.pkt * 2 ^ 16)
            (pkCount h.pkt + (count % 65536).toNat * 2 ^ 16)
          s.deliverFlagged q p h.pkt 1 t.toNat
        else s)

/-! ### The source -/

/-- A response for an outstanding request (R420, R422, R423, R427). -/
def State.response (s : State) (q : Nat) (r : ElaReq) (pkt : Packet) (t : Nat) : State :=
  let w := pkWin pkt
  match pkStatus pkt with
  | 2 => s.retryReq q w r t
  | 3 =>
    let s := s.dropReq q w r.id
    match ((s.core r.core).queue 3).ents.zipIdx.find? (fun x => x.1.seqNo = r.seqNo) with
    | some (e, pos) => (s.haltQueue r.core 3 pos e ⟨0x04, 0, e.desc.f 2 47 0⟩).releaseWaiting q w t
    | none => s.releaseWaiting q w t
  | _ =>
    if r.write then ((s.finishReq r []).dropReq q w r.id).releaseWaiting q w t
    else
      let data := Map.set (α := List Byte) r.data (pkIndex pkt) pkt.data
      if data.length < packetsOf r.granules then s.setReq q w { r with data := data }
      else
        let dst := match (s.core r.core).elaEntry r with | some e => e.desc.f 3 47 0 | none => 0
        ((s.finishReq r [⟨dst, data.flatMap (·.2), none, false⟩]).dropReq q w r.id).releaseWaiting q w t

/-- ELASTIC_RESPONSE (R427): a response packet at quadrant q at drip t. -/
def execElasticResponse (q : Fin 4) (pkt : Packet) (t : U64) (s : State) : Host.Outcome State Fault Refusal :=
  let s := s.at' t.toNat
  .next (
    if pkType pkt ≤ 1 then s
    else if !s.winAccepts q pkt then
      (s.fabCount (homePort q) 1).keyRecord (homePort q) (pkKey pkt) (pkDstCore pkt) (pkSrc pkt) 0
    else match ((s.quad q).win (pkWin pkt)).reqs.find? (fun r => r.id = pkReq pkt && r.waiting.isNone) with
      | none => s
      | some r => s.response q r pkt t.toNat)

/-- ELASTIC_RETRY_TIMEOUT (R427, R428): no response within RTO_US of the latest sending. -/
def execElasticRetryTimeout (q : Fin 4) (win : Fin 1024) (id : BitVec 16) (t : U64) (s : State) :
    Host.Outcome State Fault Refusal :=
  let s := s.at' t.toNat
  .next (match ((s.quad q).win win).reqs.find? (fun r => r.id = id.toNat && r.waiting.isNone) with
    | none => s
    | some r => if r.sentAt + s.retryDrips q ≤ t.toNat then (s.retryReq q win r t.toNat).releaseWaiting q win t.toNat else s)

/-- WINDOW_WAIT_END (R419): requests that waited on a window are sent while its limits allow. -/
def execWindowWaitEnd (q : Fin 4) (win : Fin 1024) (t : U64) (s : State) : Host.Outcome State Fault Refusal :=
  .next ((s.at' t.toNat).releaseWaiting q win t.toNat)

end Sys2Proof.Machine
end

