-- ==== Sys2Proof/Machine/Sha256.lean ====
section
/-! DEFINITION. The SHA-2 digests (FIPS 180-4): SHA-256 of shards (R232, R248), images and the bring-up report, SHA-384 of signed
messages (R553, R566, R630). The standard's constants are computed from what it derives them from, the roots of the first primes. -/
namespace Sys2Proof.Machine

/-! ### Constants -/

/-- The bits n - 1 to 0 of the greatest x + ... whose k-th power is at most v, found from the top. -/
def rootBits (k v : Nat) : Nat → Nat → Nat
  | 0, x => x
  | n + 1, x => rootBits k v n (if (x + 2 ^ n) ^ k ≤ v then x + 2 ^ n else x)

/-- The first 64 bits of the fraction of the k-th root of p, for a root below 32. -/
def rootFraction (k p : Nat) : Nat := rootBits k (p * 2 ^ (64 * k)) 69 0 % 2 ^ 64

/-- The first eighty primes. -/
def firstPrimes : List Nat := (List.range 410).filter (fun n => 2 ≤ n && (rangeFrom 2 (n - 2)).all (fun d => decide (n % d ≠ 0)))

/-- The leading `w` bits of a 64-bit fraction. -/
def leading (w x : Nat) : BitVec w := BitVec.ofNat w (x / 2 ^ (64 - w))

/-! ### The rounds, for words of either width -/

/-- What tells the members of the family apart: the word's width, the rounds, the rotations of a round's two sums, and of the schedule's two
the rotations and the shift. -/
structure ShaForm where
  width  : Nat
  rounds : Nat
  sumE   : Nat × Nat × Nat
  sumA   : Nat × Nat × Nat
  early  : Nat × Nat × Nat
  late   : Nat × Nat × Nat

/-- SHA-256. -/
def sha32 : ShaForm := ⟨32, 64, (6, 11, 25), (2, 13, 22), (7, 18, 3), (17, 19, 10)⟩
/-- SHA-512 and SHA-384. -/
def sha64 : ShaForm := ⟨64, 80, (14, 18, 41), (28, 34, 39), (1, 8, 7), (19, 61, 6)⟩

/-- A word rotated by two amounts, and by a third or shifted by it, the three combined. -/
def mixWord {w : Nat} (x : BitVec w) (r : Nat × Nat × Nat) (shift : Bool) : BitVec w :=
  (if shift then x >>> r.2.2 else x.rotateRight r.2.2) ^^^ (x.rotateRight r.1 ^^^ x.rotateRight r.2.1)

/-- One round on the eight working words, given from the first to the eighth, with its constant and its word. -/
def ShaForm.round (f : ShaForm) (k m : BitVec f.width) : List (BitVec f.width) → List (BitVec f.width)
  | [a, b, c, d, e, x, y, z] =>
    let pick := y ^^^ (e &&& (x ^^^ y))
    let most := (b &&& c) ||| (a &&& (b ||| c))
    let t := z + mixWord e f.sumE false + pick + (k + m)
    [t + mixWord a f.sumA false + most, a, b, c, d + t, e, x, y]
  | l => l

/-- The rounds from the next one on, over a window of the sixteen words they use next. -/
def ShaForm.run (f : ShaForm) : List Nat → List (BitVec f.width) → List (BitVec f.width) → List (BitVec f.width)
  | [], _, st => st
  | k :: ks, win, st =>
    let m := win.headD 0
    let next := mixWord (win.getD 14 0) f.late true + win.getD 9 0 + (mixWord (win.getD 1 0) f.early true + m)
    ShaForm.run f ks (win.drop 1 ++ [next]) (f.round (leading f.width k) m st)

/-- The number of a big-endian byte string. -/
def ofBe (b : List Byte) : Nat := b.foldl (fun n x => n * 256 + x.toNat) 0
/-- The `n` big-endian bytes of a number. -/
def beBytes (n v : Nat) : List Byte := (leBytes n v).reverse

/-- One block of sixteen words taken into a hash value. -/
def ShaForm.block (f : ShaForm) (ks : List Nat) (st : List (BitVec f.width)) (b : List Byte) : List (BitVec f.width) :=
  st.zipWith (· + ·) (f.run ks ((chunks (f.width / 8) b).map (fun x => BitVec.ofNat f.width (ofBe x))) st)

/-- A message padded to whole blocks: a one bit, zeros, and its length in bits in two words. -/
def ShaForm.padded (f : ShaForm) (m : List Byte) : List Byte :=
  let n := f.width / 4
  m ++ 0x80 :: List.replicate ((8 * n - 1 - (m.length + n) % (8 * n)) % (8 * n)) 0 ++ beBytes n (8 * m.length)

/-- The hash value of a message, from an initial one. -/
def ShaForm.hash (f : ShaForm) (init : List Nat) (m : List Byte) : List (BitVec f.width) :=
  let ks := (firstPrimes.take f.rounds).map (rootFraction 3)
  (chunks (2 * f.width) (f.padded m)).foldl (f.block ks) (init.map (leading f.width))

/-- SHA-256 of a byte string; byte 0 of the digest first. -/
def sha256 (m : List Byte) : List Byte :=
  (sha32.hash ((firstPrimes.take 8).map (rootFraction 2)) m).flatMap (fun x => beBytes 4 x.toNat)

/-- SHA-384 of a byte string, as a number (byte 0 of the digest highest) (PRESUMED, log entry 36). -/
def sha384 (m : List Byte) : Nat :=
  ofBe (((sha64.hash (((firstPrimes.drop 8).take 8).map (rootFraction 2)) m).take 6).flatMap (fun x => beBytes 8 x.toNat))

end Sys2Proof.Machine
end

