-- ==== Sys2Proof/Machine/PlanCheck.lean ====
section
/-! DEFINITION. The load-time checks of a plan image (R637 to R647): what each of the eighteen finds first, and the load report. -/
namespace Sys2Proof.Machine

/-- A failed check as the load report names it (R646). -/
structure LoadFail where
  status : Nat
  check  : Nat
  sect   : Nat := 0xFFFF
  var    : Nat := 0
  core   : Nat := 0
  port   : Nat := 0
  slot   : Nat := 0
  param  : Nat := 0
  item   : Nat := 0
  found  : Nat := 0
  limit  : Nat := 0
  deriving DecidableEq, Repr

/-- The eight words of a load report (R646). -/
def LoadFail.words (f : LoadFail) (role : Nat) : List U64 :=
  [BitVec.ofNat 64 (f.status + f.check * 2 ^ 8 + f.sect % 65536 * 2 ^ 16 + f.var % 8 * 2 ^ 32 + role % 2 ^ 24 * 2 ^ 40),
   BitVec.ofNat 64 (f.core % 256 + f.port % 16 * 2 ^ 8 + f.slot % 4096 * 2 ^ 12 + f.param * 2 ^ 24),
   BitVec.ofNat 64 f.item, BitVec.ofNat 64 f.found, BitVec.ofNat 64 f.limit, 0, 0, 0]

/-- A failure at a byte of entry i of a section. -/
def Sect.fail (x : Sect) (status check i off found limit : Nat) : LoadFail :=
  { status := status, check := check, sect := x.no, var := if x.var < 8 then x.var else 0, param := off
    item := x.off + 64 + i * x.esize + off, found := found, limit := limit }

/-- A value outside a range. -/
def outside (lo hi n : Nat) : Bool := n < lo || hi < n

/-- The first of some tested fields of an entry that is out of range: offset, value, whether it is bad, the limit. -/
def Sect.firstField (x : Sect) (status check i : Nat) (l : List (Nat × Nat × Bool × Nat)) : Option LoadFail :=
  l.findSome? (fun f => if f.2.2.1 then some (x.fail status check i f.1 f.2.1 f.2.2.2) else none)

/-- Sections of a kind that serve a role. -/
def sectsOf (ss : List Sect) (kind role : Nat) : List Sect :=
  ss.filter (fun x => x.kind = kind && (x.role = role || x.role = 0xFFFFFFFF))

/-- The largest step from one listed place to the next around a frame of n. -/
def maxGap (n : Nat) (l : List Nat) : Nat :=
  match l with
  | [] => n
  | a :: _ => maxL ((l.zip (l.drop 1 ++ [a + n])).map (fun p => p.2 - p.1))

/-! ### Checks 1 and 2: the file -/

/-- The entry size of a known section kind (R686), none for an unknown kind. -/
def kindSize (k : Nat) : Option Nat :=
  if k = 0 then none
  else [32, 128, 24, 32, 8, 8, 8, 144, 8, 16, 8, 16, 8, 16, 16, 8, 32, 8, 32, 32, 32, 64, 8, 16][k - 1]?

/-- The header fields of an image that must hold (R637). -/
def headerFail (img : List Byte) : Option LoadFail :=
  let f := fun (off n : Nat) (ok : Nat → Bool) (limit : Nat) =>
    if ok (bytesAt img off n) then none
    else some ({ status := 0x70, check := 1, param := off, item := off, found := bytesAt img off n, limit := limit } : LoadFail)
  [f 0 4 (fun v => v = 0x50525455) 0x50525455, f 4 1 (fun v => v = 1) 1, f 5 1 (fun v => !outside 1 8 v) 8,
   f 6 1 (fun v => v = 7 || v = 8) 8, f 8 2 (fun v => decide (0 < v)) 65535, f 12 4 (fun v => !outside 1 65536 v) 65536,
   f 24 8 (fun v => decide (0 < v)) 1,
   f 96 8 (fun v => v % 64 = 0 && decide (256 ≤ v ∧ v + 32 * bytesAt img 8 2 ≤ img.length)) img.length].findSome? id

/-- A section whose table entry, body header, length or CRC is wrong (R638, R686). -/
def sectFail (img : List Byte) (x : Sect) : Option LoadFail :=
  let bad := fun (param found limit : Nat) =>
    some ({ status := 0x70, check := 1, sect := x.no, param := param, item := bytesAt img 96 8 + 32 * x.no + param, found := found
            limit := limit } : LoadFail)
  match kindSize x.kind with
  | none => if x.kind ≥ 0x8000 then none else bad 0 x.kind 0x18
  | some n =>
    if x.off % 64 ≠ 0 ∨ x.off < 256 ∨ img.length < x.off + x.len then bad 16 x.off img.length
    else if crc32 x.body ≠ x.crc then bad 28 x.crc (crc32 x.body)
    else if x.esize ≠ n then bad 4 x.esize n
    else if x.len ≠ (64 + x.count * n + 63) / 64 * 64 then bad 24 x.len ((64 + x.count * n + 63) / 64 * 64)
    else none

/-- Do two sections fill one scope (R639): a detour's scope is its link. -/
def Sect.clash (x y : Sect) : Bool :=
  x.no < y.no && x.kind = y.kind && (kindSize x.kind).isSome &&
  (if x.kind = 0x14 then bytesAt x.body 8 5 = bytesAt y.body 8 5
   else (x.role = y.role || x.role = 0xFFFFFFFF || y.role = 0xFFFFFFFF) && (x.var = y.var || x.var = 0xFF || y.var = 0xFF))

/-- Do two sections overlap (R638). -/
def Sect.overlap (x y : Sect) : Bool := x.no < y.no && decide (x.off < y.off + y.len ∧ y.off < x.off + x.len)

/-- Sections a role cannot do without: kind, variant, entries at least; a standby role needs its ROLE_MAP alone (log entry 60). -/
def needed (img : List Byte) (standby : Bool) : List (Nat × Nat × Nat) :=
  let vs := List.range (bytesAt img 5 1)
  [(1, 0xFF, bytesAt img 12 4)] ++
  (if standby then []
   else [(4, 0xFF, 4), (5, 0xFF, 64), (6, 0xFF, 64), (7, 0xFF, 64), (8, 0xFF, 64), (9, 0xFF, 92160), (0x11, 0xFF, 1)] ++
     vs.map (fun v => (2, v, 1)) ++ vs.map (fun v => (3, v, 1)))

/-- Check 1 (R637 to R639). -/
def check1 (img : List Byte) (role : Nat) : Option LoadFail :=
  match headerFail img with
  | some f => some f
  | none =>
    let ss := imageSects img
    let at1 := fun (x : Sect) => ({ status := 0x70, check := 1, sect := x.no, item := bytesAt img 96 8 + 32 * x.no, found := x.kind } : LoadFail)
    let roles := (sectEntries ss 1 role)
    let standby := match roles[role]? with | some e => bytesAt e 4 1 / 2 % 2 = 1 | none => false
    match ss.findSome? (sectFail img) with
    | some f => some f
    | none => match ss.find? (fun x => ss.any (fun y => x.clash y || x.overlap y)) with
      | some x => some (at1 x)
      | none => match (needed img standby).find? (fun k => match findSect ss k.1 role k.2.1 with
          | some x => decide (x.count < k.2.2) | none => true) with
        | some k => some { status := 0x70, check := 1, found := k.1, limit := k.2.2 }
        | none =>
          if (roles.filter (fun e => bytesAt e 4 1 % 2 = 1)).length = 1 then none
          else some { status := 0x70, check := 1, found := (roles.filter (fun e => bytesAt e 4 1 % 2 = 1)).length, limit := 1 }

/-- Check 2 (R23, R637): the image digest, the operation-graph digest and the hand-off digest of every variant. -/
def check2 (img : List Byte) (role : Nat) : Option LoadFail :=
  let ss := imageSects img
  let v0 := match findSect ss 2 role 0 with | some x => (x.entry 0).drop 64 |>.take 32 | none => []
  if sha256 (img.drop 256) ≠ (img.drop 64).take 32 then some { status := 0x71, check := 2, param := 64, item := 64 }
  else (sectsOf ss 2 role).findSome? (fun x =>
    if ((x.entry 0).drop 32).take 32 ≠ (img.drop 32).take 32 then some (x.fail 0x71 2 0 32 0 0)
    else if ((x.entry 0).drop 64).take 32 ≠ v0 then some (x.fail 0x71 2 0 64 0 0)
    else none)

/-! ### Check 18, and the role's place -/

/-- Check 18 (R400, R568, R569). -/
def State.check18 (s : State) (img : List Byte) : Option LoadFail :=
  let gen := s.fld .KPR_FW_STAT 0 15 0
  if !s.bit .KPR_FABRIC_ID 0 20 then some { status := 0x7B, check := 18, limit := 1 }
  else if bytesAt img 10 2 ≠ gen then some { status := 0x7B, check := 18, item := 10, found := bytesAt img 10 2, limit := gen }
  else if s.bit .KPR_FW_STAT 0 22 then some { status := 0x7B, check := 18, found := 1 }
  else none

/-- The role against the placement table and this device (R640, R641). -/
def State.checkRole (s : State) (q : Nat) (img : List Byte) (role : Nat) (placement : List Nat) : Option LoadFail :=
  let nx := bytesAt img 16 1
  let ny := bytesAt img 17 1
  let nz := bytesAt img 18 1
  let bad := fun (found limit : Nat) => some ({ status := 0x78, check := 12, found := found, limit := limit } : LoadFail)
  match (sectEntries (imageSects img) 1 role)[role]? with
  | none => bad role (bytesAt img 12 4)
  | some e =>
    let r := roleOf nx ny e
    if placement.length ≠ nx * ny * nz then bad placement.length (nx * ny * nz)
    else if bytesAt e 0 1 ≥ nx ∨ bytesAt e 1 1 ≥ ny ∨ bytesAt e 2 1 ≥ nz then bad (bytesAt e 0 3) (nx * ny * nz)
    else if placement.getD r.pos 0 ≠ s.globalId then bad (placement.getD r.pos 0) s.globalId
    else if bytesAt e 3 1 ≠ q then bad (bytesAt e 3 1) q
    else none

/-! ### Checks 3 to 6: grid, variants, budgets -/

/-- Cores of its quadrant that a section's entries name: entry, byte offset, core (R686); of a placement record (R235) and of an
address-stream range (R75) the low byte, of a mirrored range both cores, of a symbol the core of a piece or a code name. -/
def Sect.coreRefs (x : Sect) (role : Nat) : List (Nat × Nat × Nat) :=
  let all := (List.range x.count).map (fun i => (i, x.entry i))
  let one := fun (off : Nat) => all.map (fun p => (p.1, off, bytesAt p.2 off 1 % 64))
  if x.kind = 3 ∨ x.kind = 0x0A ∨ x.kind = 0x18 then one 0
  else if x.kind = 4 then (all.drop 4).filterMap (fun p => if bytesAt p.2 0 4 = role then some (p.1, 4, bytesAt p.2 4 1 % 64) else none)
  else if x.kind = 5 ∨ x.kind = 6 ∨ x.kind = 7 then
    (all.take 64).filterMap (fun p => if bytesAt p.2 4 4 ≠ 0 then some (p.1, 0, p.1) else none) ++
    (if x.kind = 5 then ((all.drop (bytesAt x.body 8 4)).take (bytesAt x.body 12 4)).map (fun p => (p.1, 0, bytesAt p.2 0 1 % 64)) else [])
  else if x.kind = 0x0F then
    all.flatMap (fun p =>
      if bytesAt p.2 0 1 = 2 then (List.range 8).filterMap (fun j =>
        let b := bytesAt p.2 (8 + j) 1
        if b / 64 = 1 then some (p.1, 8 + j, b % 64) else none)
      else if bytesAt p.2 0 1 ≥ 3 then [(p.1, 1, bytesAt p.2 1 1 % 64)] else [])
  else if x.kind = 0x11 then all.flatMap (fun p =>
    let w := bytesAt p.2 0 8
    if w % 4 = 1 then [(p.1, 2, natBits w 25 20), (p.1, 3, natBits w 33 28)] else [])
  else if x.kind = 0x10 then (all.drop (16 * bytesAt x.body 8 4)).map (fun p => (p.1, 0, bytesAt p.2 0 1 % 64))
  else if x.kind = 0x13 then (all.drop 1).flatMap (fun p => [(p.1, 0, bytesAt p.2 0 1 % 64), (p.1, 1, bytesAt p.2 1 1 % 64)])
  else if x.kind = 0x16 then all.filterMap (fun p => if bytesAt p.2 0 1 = 0 then none else some (p.1, 1, bytesAt p.2 1 1 % 64))
  else []

/-- Check 3 (R3, R9). A plan of 7 columns may name no core of column 7, on a quadrant of 8 columns either, where R9 alone would let
it (DESIGN CHOICE, log entry 99). -/
def State.check3 (s : State) (q role : Nat) (p : Plan) (ss : List Sect) : Option LoadFail :=
  if s.gridCols q < p.cols then some { status := 0x72, check := 3, param := 6, item := 6, found := p.cols, limit := s.gridCols q }
  else if p.cols = 8 then none
  else (ss.filter (fun x => x.role = role || x.role = 0xFFFFFFFF)).findSome? (fun x => (x.coreRefs role).findSome? (fun r =>
    if r.2.2 % 8 = 7 then some { x.fail 0x72 3 r.1 r.2.1 r.2.2 6 with core := 64 * q + r.2.2 } else none))

/-- Check 4 (R22, R271): every parameter of a variant in its range. -/
def variantFail (x t : Sect) (cols : Nat) : Option LoadFail :=
  let e := x.entry 0
  let g := fun (o n : Nat) => bytesAt e o n
  let n := g 12 2
  let slots := List.range n
  match x.firstField 0x73 4 0
    [(0, g 0 4, g 0 4 % 256 ≠ 0 || outside 2048 1048576 (g 0 4), 1048576), (4, g 4 2, g 4 2 % 25 ≠ 0 || outside 800 1800 (g 4 2), 1800),
     (6, g 6 1, outside 2 8 (g 6 1), 8), (8, g 8 4, decide (g 0 4 / 2 < g 8 4), g 0 4 / 2), (12, n, outside 1 4096 n, 4096),
     (14, g 14 1, decide (8 * cols < g 14 1), 8 * cols), (16, g 16 1, decide (128 < g 16 1), 128), (17, g 17 1, outside 1 128 (g 17 1), 128),
     (18, g 18 1, decide (128 < g 18 1), 128), (19, g 19 1, outside 1 128 (g 19 1), 128),
     (16, g 16 1, decide (g 16 1 % g 17 1 ≠ 0), g 17 1), (18, g 18 1, decide (g 18 1 % g 19 1 ≠ 0), g 19 1)] with
  | some f => some f
  | none =>
    let rows := t.entries
    let marks := fun (k : Nat) => (rows.filter (fun r => bytesAt r 2 2 = k)).map (fun r => bytesAt r 1 1 / 2 % 2)
    if rows.any (fun r => decide (n ≤ bytesAt r 2 2)) then some (t.fail 0x73 4 0 2 0 n)
    else match slots.find? (fun k => (marks k).any (fun m => decide (m ≠ (marks k).headD 0))) with
      | some k => some { t.fail 0x73 4 0 1 0 0 with slot := k }
      | none => if rows.any (fun r => bytesAt r 1 1 / 2 % 2 = 1) then none else some (t.fail 0x73 4 0 1 0 1)

/-- The headroom the tests of R30 hold a core to: the table's H, but never more than the (E − 64) − T of R29, with T the compiled work
at the floor (DEDUCED, log entry 100). -/
def headroomOf (e : EpochEntry) (len floor : Nat) : Nat := min e.h (len - 64 - ceilDiv (e.w * 1000) floor)

/-- The reserve a core's headroom must cover without its link part (R30): stretches and one replay of the largest tile. -/
def reserveOf (e : EpochEntry) (floor : Nat) : Nat :=
  ceilDiv (ceilDiv e.w 4096 * 64 * 1000) floor + ceilDiv (e.tile * 1000) floor

/-- Check 5 as PLAN_LOAD makes it (R30): the 4 % test, and the stretch and replay parts. -/
def budgetFail (t : Sect) (q v : Nat) (w : Variant) : Option LoadFail :=
  t.entries.zipIdx.findSome? (fun x =>
    let e := epochOf q x.1
    let h := headroomOf e w.epochLen w.floor
    let bad := fun (limit : Nat) => some { t.fail 0x74 5 x.2 8 h limit with core := e.core, slot := bytesAt x.1 2 2, var := v }
    if 25 * h < w.epochLen then bad (ceilDiv w.epochLen 25)
    else if h < reserveOf e w.floor then bad (reserveOf e w.floor)
    else none)

/-- Check 6 (R314): the draws of every epoch slot at the floor, in thirds of a drip by MHz. -/
def drawFail (t : Sect) (v : Nat) (w : Variant) : Option LoadFail :=
  w.entries.zipIdx.findSome? (fun x =>
    let cyc := (x.1.map (·.drawCycles)).foldl (· + ·) 0
    let n := (x.1.map (·.draws)).foldl (· + ·) 0
    if 3 * w.floor * (w.epochLen - 64) < 3000 * cyc + 256 * w.floor * n then
      some { t.fail 0x74 6 0 16 ((3000 * cyc + 256 * w.floor * n) / (3 * w.floor)) (w.epochLen - 64) with slot := x.2, var := v }
    else none)

/-- Checks 4, 5 and 6, variant by variant. -/
def variantChecks (f : Sect → Sect → Nat → Variant → Option LoadFail) (role : Nat) (p : Plan) (ss : List Sect) : Option LoadFail :=
  p.variants.zipIdx.findSome? (fun x => match findSect ss 2 role x.2, findSect ss 3 role x.2 with
    | some a, some t => f a t x.2 x.1
    | _, _ => none)

/-! ### Checks 7 and 8: cores -/

/-- A core of the quadrant whose sequencer has DIAG set, which refuses a plan (R83). -/
def State.diagCore (s : State) (q : Nat) : Option Nat :=
  (s.virtCores q).find? (fun v => match s.vcore v with | some c => decide (c.fld .SEQ_CTRL 0 1 1 = 1) | none => false)
/-- The failure that a core with DIAG set is. -/
def diagFail (v : Nat) : LoadFail := { status := 0x75, check := 7, core := v, found := 1 }

/-- Check 7 (R54, R75, R83). -/
def State.check7 (s : State) (q role : Nat) (ss : List Sect) : Option LoadFail :=
  let sizes := [(5, 32768), (6, 8192), (7, 1024)].findSome? (fun k => match findSect ss k.1 role 0xFF with
    | none => none
    | some x => (List.range 64).findSome? (fun c =>
      if k.2 < (x.directory c).2 then some { x.fail 0x75 7 c 4 (x.directory c).2 k.2 with core := 64 * q + c } else none))
  match sizes with
  | some f => some f
  | none =>
    let rd := match findSect ss 5 role 0xFF with
      | none => none
      | some x => (List.range 64).findSome? (fun c => (x.code c).zipIdx.findSome? (fun w =>
        if w.1.toNat % 128 = 0x61 ∧ !(x.asRanges c).any (fun r => decide (r.1 ≤ w.2 ∧ w.2 ≤ r.2)) then
          some { x.fail 0x75 7 (64 + (x.directory c).1 + w.2 / 2) (4 * (w.2 % 2)) w.1.toNat 0 with core := 64 * q + c }
        else none))
    match rd with
    | some f => some f
    | none => (s.diagCore q).map diagFail

/-- The byte range of a region entry (R225), none when unused. -/
def regionRange (w : U64) : Option (Nat × Nat) :=
  if bitsOf w 30 28 = 0 then none else some (bitsOf w 15 0 * 4096, bitsOf w 15 0 * 4096 + bitsOf w 27 16 * 4096)
/-- The type of the lowest region of a core's words that holds an address (R202). -/
def regionType (ws : List U64) (a : Nat) : Nat :=
  ((ws.take 16).findSome? (fun w => match regionRange w with
    | some (b, e) => if b ≤ a ∧ a < e then some (bitsOf w 30 28) else none
    | none => none)).getD 0
/-- Does entry i of a core's region words break a rule of R202. -/
def regionBad (ws : List U64) (i : Nat) : Bool :=
  let w := ws.getD i 0
  let ty := bitsOf w 30 28
  match regionRange w with
  | none => bitsOf w 43 32 ≠ 0
  | some (b, e) =>
    !inMap b (e - b) || decide (6 ≤ ty) || (ty = 4 && !inLocal b (e - b)) || ((ty = 2 || ty = 4) && bitsOf w 43 32 ≠ 0) ||
    (List.range i).any (fun j => match regionRange (ws.getD j 0) with | some (b', e') => decide (b < e' ∧ b' < e) | none => false)
/-- Local read shares of a share word (R196). -/
def readShares (w : U64) : Nat := bitsOf w 4 0 + bitsOf w 9 5 + bitsOf w 14 10 + bitsOf w 19 15

/-- Check 8 (R196, R202, R314). -/
def check8 (q role : Nat) (ss : List Sect) : Option LoadFail :=
  let lcores := ((sectEntries ss 0x11 role).filter (fun e => bytesAt e 0 8 % 4 = 1)).map (fun e => natBits (bytesAt e 0 8) 25 20)
  match findSect ss 8 role 0xFF with
  | none => none
  | some x => x.entries.zipIdx.findSome? (fun y =>
    let ws := entryU64 y.1
    let bad := fun (off found limit : Nat) => some { x.fail 0x76 8 y.2 off found limit with core := 64 * q + y.2 }
    match (List.range 16).find? (regionBad ws) with
    | some i => bad (8 * i) (ws.getD i 0).toNat 0
    | none =>
      if !shareOkWord (ws.getD 16 0) then bad 128 (ws.getD 16 0).toNat 16
      else if lcores.contains y.2 ∧ 15 < readShares (ws.getD 16 0) then bad 128 (readShares (ws.getD 16 0)) 15
      else none)
where
  /-- The sums of R196. -/
  shareOkWord (v : U64) : Bool :=
    let f := fun hi lo => bitsOf v hi lo
    decide (readShares v ≤ 16) && decide (f 23 20 + f 27 24 + f 31 28 + f 35 32 ≤ 8) &&
    decide (f 41 36 + f 47 42 + f 53 48 + f 59 54 ≤ 32) && f 36 36 = 0 && f 42 42 = 0 && f 48 48 = 0 && f 54 54 = 0

/-! ### Checks 9 and 10: the mesh -/

/-- The virtual router that output o of (r, c) leads to, with the input it arrives on. -/
def virtNext (cols r c o : Nat) : Option (Nat × Nat × Nat) :=
  match o with
  | 0 => if r = 0 then none else some (r - 1, c, 2)
  | 1 => if c + 1 = cols then none else some (r, c + 1, 3)
  | 2 => if r = 7 then none else some (r + 1, c, 0)
  | 3 => if c = 0 then none else some (r, c - 1, 1)
  | _ => none

/-- Does an output or input o of a virtual router at the edge of the grid have an attachment (R337): a column segment runs on the next
physical column (R643), so the south edge of virtual column 7 has none. -/
def edgeAttached (r c o : Nat) : Bool :=
  match o with
  | 0 => true
  | 1 => decide (r = 1 ∨ r = 3 ∨ r = 5)
  | 2 => decide (c + 1 < 8)
  | _ => decide (r ≤ 5)

/-- Does a planned entry break the hop rule of R343: nothing goes on after it, nothing comes before it, or it enters or leaves at an
edge where R337 puts nothing. -/
def Plan.hopBad (p : Plan) (r c o n : Nat) : Bool :=
  let e := p.meshEntry r c o n
  let planned := fun (r c o n inp : Nat) =>
    let x := p.meshEntry r c o n
    entKind x = 1 && entIn x = inp && entTag x = entTag e
  let goesOn : Bool := match virtNext p.cols r c o with
    | none => decide (o = 4) || edgeAttached r c o
    | some (r', c', i) => (List.range 5).any (fun o' => planned r' c' o' ((n + 3) % 1024) i)
  let comes : Bool :=
    if entIn e = 4 then true
    else match virtNext p.cols r c (entIn e) with
      | none => decide (entIn e < 4) && edgeAttached r c (entIn e)
      | some (r', c', i) =>
        let x := p.meshEntry r' c' i ((n + 1021) % 1024)
        entKind x = 1 && entTag x = entTag e
  !goesOn || !comes

/-- Slots of an output of one KIND, in order. -/
def Plan.kindSlots (p : Plan) (r c o k : Nat) : List Nat := (List.range 1024).filter (fun n => entKind (p.meshEntry r c o n) = k)

/-- Must an output of a virtual router keep elastic slots (R339): mesh links, to a core, a neighbour or an attachment (R333), and bridge
lanes to a quadrant of the partition. -/
def Plan.needsElastic (p : Plan) (q r c o : Nat) : Bool :=
  if o = 4 then true
  else match virtNext p.cols r c o with
    | some _ => true
    | none => edgeAttached r c o && (decide (o ≠ 3) ||
      (match p.me with
       | some m => p.roles.any (fun x => x.pos = m.pos && x.quad = q ^^^ (r / 2 + 1))
       | none => false))

/-- Check 9 (R339, R343, R643). -/
def State.check9 (s : State) (q role : Nat) (p : Plan) (ss : List Sect) : Option LoadFail :=
  match findSect ss 9 role 0xFF with
  | none => none
  | some x =>
    let bad := fun (r c o n found limit : Nat) =>
      some { x.fail 0x77 9 (((r * 9 + c) * 5 + o) * 256 + n / 4) (2 * (n % 4)) found limit with core := 64 * q + r * 8 + c, slot := n }
    let outs := (List.range 8).flatMap (fun r => (List.range p.cols).flatMap (fun c => (List.range 5).map (fun o => (r, c, o))))
    let one := outs.findSome? (fun y =>
      let (r, c, o) := y
      let sv := p.kindSlots r c o 3
      if sv.length < 64 then bad r c o 0 sv.length 64
      else if 16 < maxGap 1024 sv then bad r c o 0 (maxGap 1024 sv) 16
      else if p.needsElastic q r c o && decide ((p.kindSlots r c o 2).length < 10) then bad r c o 0 (p.kindSlots r c o 2).length 10
      else match (p.kindSlots r c o 1).find? (p.hopBad r c o) with
        | some n => bad r c o n (p.meshEntry r c o n) 0
        | none => none)
    match one with
    | some f => some f
    | none => if (p.meshTable (fun r => s.rowOut q r)).isNone then some { x.fail 0x77 9 0 0 0 1 with core := 64 * q } else none

/-- The owner byte of HBM slot i in a plan (R218, R686). -/
def Plan.hbmByte (p : Plan) (i : Nat) : Nat :=
  match p.hbm.find? (fun e => bytesAt e 0 1 = 2 && bytesAt e 2 2 = i / 8) with | some e => bytesAt e (8 + i % 8) 1 | none => 0
/-- HBM slots a core of the quadrant owns, in order. -/
def Plan.hbmOwned (p : Plan) (c : Nat) : List Nat := (List.range 4096).filter (fun i => p.hbmByte i = 64 + c)

/-- Slots per frame of a core's sump flows from and to the HBM controller at the south edge (R337, R344). -/
def Plan.sumpSlots (p : Plan) (c : Nat) : Nat × Nat :=
  let hops := (meshStarts p.meshEntry p.cols).map (fun x =>
    (x, walkMesh p.meshEntry (fun _ c => c) p.cols x.2.2.2.2 false 32 x.1 x.2.1 x.2.2.1 x.2.2.2.1 x.2.1 x.2.2.1 x.2.2.2.1 false))
  let r := c / 8
  let k := c % 8
  ((hops.filter (fun y => y.1.1 = 7 && y.1.2.2.1 = 2 && y.2.any (fun h => h.o = 4 && h.r = r && h.c = k))).length,
   (hops.filter (fun y => y.1.1 = r && y.1.2.1 = k && y.1.2.2.1 = 4 && y.2.any (fun h => h.o = 2 && h.r = 7))).length)

/-- Check 10 (R342, R344). -/
def check10 (q role : Nat) (p : Plan) (ss : List Sect) : Option LoadFail :=
  let flows := sectEntries ss 0x0A role
  let ovf := (List.range 64).findSome? (fun c =>
    let n := ((flows.filter (fun e => bytesAt e 0 1 = c)).map (fun e => natBits (bytesAt e 8 8) 27 16)).foldl (· + ·) 0
    if 512 < n then some ({ status := 0x77, check := 10, core := 64 * q + c, found := n, limit := 512 } : LoadFail) else none)
  match ovf with
  | some f => some f
  | none => (List.range 64).findSome? (fun c =>
    let need := ceilDiv (4 * (p.hbmOwned c).length) 3
    if need = 0 then none
    else
      let (a, b) := p.sumpSlots c
      if a + b = 0 ∨ (a ≠ 0 ∧ a < need) ∨ (b ≠ 0 ∧ b < need) then
        some { status := 0x77, check := 10, core := 64 * q + c, found := if a ≠ 0 ∧ a < need then a else b, limit := need }
      else none)

/-! ### Checks 11 to 13: links and windows -/

/-- Ports a role uses: those its LINKS section lists (R686). -/
def portsUsed (ss : List Sect) (role : Nat) : List Nat :=
  let es := sectEntries ss 0x0B role
  (List.range 12).filter (fun p => es.any (fun e => bytesAt e 0 1 = p))
/-- The 4,096 transmit entries of a port in a role's LINKS section. -/
def linkEntry (es : List (List Byte)) (port n : Nat) : Nat :=
  match es.find? (fun e => bytesAt e 0 1 = port && bytesAt e 2 2 = n) with | some e => bytesAt e 4 4 | none => 0
/-- PORT_FLOWS values of a port's table, by index. -/
def portTable (es : List (List Byte)) (port table : Nat) : List (Nat × Nat) :=
  (es.filter (fun e => bytesAt e 0 1 = port && bytesAt e 1 1 = table)).map (fun e => (bytesAt e 4 4, bytesAt e 8 8))

/-- The greatest excess of arrivals over departures of a flow (R410), over two periods of the joint schedule of the mesh frame and a
link frame of 1.36 drips a slot times `scale`; both start together (log entry 61). -/
def queueBound (scale : Nat) (arrive depart : Nat → Bool) : Nat → Nat → Nat → Nat → Nat
  | 0, _, _, top => top
  | f + 1, j, q, top =>
    let lo := ceilDiv (j * 102 * scale) 50
    let hi := ceilDiv ((j + 1) * 102 * scale) 50
    let q := q + ((rangeFrom lo (hi - lo)).filter (fun c => arrive (c % 1024))).length
    queueBound scale arrive depart f (j + 1) (if depart (j % 4096) then q - 1 else q) (max top q)

/-- The flits a port's queue must hold for one of its flows (R410), none when the links carry less than the mesh brings. -/
def Plan.flowBound (p : Plan) (scale port flow : Nat) (tags : List Nat) (link : Nat → Nat) : Option Nat :=
  let r := 1 + 2 * (([0, 1, 4, 5, 3, 2, 7, 6, 8, 11, 9, 10].idxOf port) / 4)
  let arrive := fun (n : Nat) =>
    let e := p.meshEntry r (p.cols - 1) 1 n
    entKind e = 1 && tags.contains (entTag e)
  let depart := fun (n : Nat) => link n % 4 = 1 && link n / 65536 = flow
  let a := ((List.range 1024).filter arrive).length
  let d := ((List.range 4096).filter depart).length
  if a * 204 * scale > d * 25 then none else some (queueBound scale arrive depart 204800 0 0 0 + 1)

/-- Check 11 (R369, R410). -/
def State.check11 (s : State) (role : Nat) (p : Plan) (ss : List Sect) : Option LoadFail :=
  let es := sectEntries ss 0x0B role
  let fl := sectEntries ss 0x0C role
  (portsUsed ss role).findSome? (fun port =>
    let tx := portTable fl port 0 |>.filter (fun x => x.2 % 2 = 1)
    let ent := linkEntry es port
    let rep := (List.range 4096).filter (fun n => ent n % 4 = 3)
    let bad := fun (slot found limit : Nat) => some ({ status := 0x77, check := 11, port := port, slot := slot, found := found, limit := limit } : LoadFail)
    let flows := (tx.map (fun x => natBits x.2 22 7)).eraseDups
    if rep.length < 256 then bad 0 rep.length 256
    else if 16 < maxGap 4096 rep then bad 0 (maxGap 4096 rep) 16
    else if ((List.range 4096).filter (fun n => ent n % 4 = 2)).length < 64 then bad 0 ((List.range 4096).filter (fun n => ent n % 4 = 2)).length 64
    else match (List.range 4096).find? (fun n => ent n % 4 = 1 && !flows.contains (ent n / 65536)) with
      | some n => bad n (ent n / 65536) 0
      | none =>
        let bounds := flows.map (fun f => p.flowBound (s.slotScale port) port f ((tx.filter (fun x => natBits x.2 22 7 = f)).map (·.1)) ent)
        if bounds.any Option.isNone then bad 0 0 1024
        else
          let sum := (bounds.map (fun b => b.getD 0)).foldl (· + ·) 0
          if 1024 < sum then bad 0 sum 1024 else none)

/-- The block position that lies across a port (R11, R403), none where the link leaves the block. -/
def State.acrossPort (s : State) (nx ny nz pos port : Nat) : Option Nat :=
  let i := pos % nx
  let j := pos / nx % ny
  let k := pos / nx / ny
  let go := fun (x n size : Nat) =>
    if port / 2 % 2 = 0 then (if x + 1 < n then some (x + 1) else if n = size then some 0 else none)
    else (if 0 < x then some (x - 1) else if n = size then some (n - 1) else none)
  let at' := fun (i j k : Nat) => (k * ny + j) * nx + i
  match port / 4 with
  | 0 => (go i nx (s.fld .KPR_TORUS 0 5 0)).map (fun i => at' i j k)
  | 1 => (go j ny (s.fld .KPR_TORUS 0 11 6)).map (fun j => at' i j k)
  | _ => (go k nz (s.fld .KPR_TORUS 0 18 12)).map (fun k => at' i j k)

/-- Is the peer of a port not the neighbour the block places there, facing it (R401). -/
def State.peerBad (s : State) (img : List Byte) (p : Plan) (port : Nat) : Bool :=
  let pos := match p.me with | some m => m.pos | none => 0
  match s.acrossPort (bytesAt img 16 1) (bytesAt img 17 1) (bytesAt img 18 1) pos port with
  | none => true
  | some n =>
    !s.bit .LNK_STATE port 15 || !s.bit .LNK_PEER port 23 || s.fld .LNK_PEER port 19 0 ≠ p.placement.getD n 0 ||
    s.fld .LNK_PEER port 27 24 / 2 ≠ (port / 2) ^^^ 1

/-- Check 12 on the role's links (R401, R403, R412). -/
def State.check12 (s : State) (role : Nat) (img : List Byte) (p : Plan) (ss : List Sect) : Option LoadFail :=
  let pos := match p.me with | some m => m.pos | none => 0
  let fl := sectEntries ss 0x0C role
  let leaves := fun (port : Nat) => (s.acrossPort (bytesAt img 16 1) (bytesAt img 17 1) (bytesAt img 18 1) pos port).isNone
  let bad := fun (port found : Nat) => some ({ status := 0x78, check := 12, port := port, found := found } : LoadFail)
  match (portsUsed ss role).find? (s.peerBad img p) with
  | some port => bad port (s.reg .LNK_PEER port).toNat
  | none => match (fl.map (fun e => bytesAt e 0 1)).find? leaves with
    | some port => bad port 0
    | none => match (sectEntries ss 0x0D role).findSome? (fun e => (List.range 5).findSome? (fun a =>
        let port := natBits (bytesAt e 4 4) (4 * a + 3) (4 * a)
        if port < 12 && leaves port then some port else none)) with
      | some port => bad port 0
      | none => (List.range 12).findSome? (fun port => (portTable fl port 1).findSome? (fun e =>
        let tag := natBits e.2 16 7
        let fwd := natBits e.2 26 17
        if e.2 % 2 = 1 ∧ tag ≠ 0 ∧ fwd ≠ 0 then
          match (List.range 12).find? (fun o => (portTable fl o 0).any (fun t => t.1 = fwd && t.2 % 2 = 1)) with
          | some o => if o / 2 ≠ (port / 2) ^^^ 1 then bad o fwd else none
          | none => none
        else none))

/-- Check 13 (R419). -/
def check13 (role : Nat) (ss : List Sect) : Option LoadFail :=
  match findSect ss 0x0E role 0xFF with
  | none => none
  | some x =>
    let val := fun (e : List Byte) => bytesAt e 8 8
    let outW := fun (e : List Byte) => natBits (val e) 55 49
    let inW := fun (e : List Byte) => natBits (val e) 62 56
    let es := x.entries.filter (fun e => val e % 2 = 1)
    let sum := fun (f : List Byte → Nat) => 16 * (es.map f).foldl (· + ·) 0
    match x.entries.zipIdx.findSome? (fun y =>
      let e := y.1
      let w := bytesAt e 0 2
      let peer := bytesAt e 4 4
      let pw := natBits (val e) 32 23
      if 1022 < w then some (x.fail 0x78 13 y.2 0 w 1022)
      else if val e % 2 = 0 then none
      else if (sectEntries ss 0x0E peer).any (fun b => bytesAt b 0 2 = pw && val b % 2 = 1 && bytesAt b 4 4 = role && natBits (val b) 32 23 = w &&
          inW b = outW e && outW b = inW e) then none
      else some (x.fail 0x78 13 y.2 8 (val e) 0)) with
    | some f => some f
    | none =>
      if 2048 < sum inW then some (x.fail 0x78 13 0 8 (sum inW) 2048)
      else if 2048 < sum outW then some (x.fail 0x78 13 0 8 (sum outW) 2048)
      else none

/-! ### Checks 14 to 17 -/

/-- The move descriptors of a core's templates with one of these operation codes. -/
def Plan.moveOps (p : Plan) (v : Nat) (ops : List Nat) : List Desc :=
  (Map.get (α := List Desc) p.templates v []).filter (fun d => bitsOf d.w0 7 6 = 2 && ops.contains (bitsOf d.w0 5 0))

/-- Buffers a core's sump regions hold (R222). -/
def sumpBuffers (ws : List U64) : Nat :=
  ((ws.take 16).map (fun w => if bitsOf w 30 28 = 3 then
    (if bitsOf w 43 32 = 0 then 1 else bitsOf w 27 16 / bitsOf w 43 32) else 0)).foldl (· + ·) 0

/-- A value put into a list that falls, with its index. -/
def insertFalling (x : Nat × Nat) : List (Nat × Nat) → List (Nat × Nat)
  | [] => [x]
  | y :: ys => if y.1 < x.1 then x :: y :: ys else y :: insertFalling x ys

/-- The leads a core's SLOW_INs declare, in drips at their variant's floor, the longest first, each with its entry (R221). -/
def Plan.leads (p : Plan) (es : List (List Byte × Nat)) (c : Nat) : List (Nat × Nat) :=
  (es.filter (fun y => bytesAt y.1 0 1 = 4 && bytesAt y.1 1 1 % 64 = c)).foldl (fun l y =>
    let floor := ((p.variants[bytesAt y.1 2 1]?).map (·.floor)).getD 1450
    insertFalling (bytesAt y.1 12 4 * 1000 / max 1 floor, y.2) l) []

/-- The bounds of R220 of a core's SLOW_INs, the longest first. -/
def Plan.slowBounds (p : Plan) (q c : Nat) : List Nat :=
  let gap := maxGap 4096 (p.hbmOwned c)
  (((p.moveOps (64 * q + c) [1]).map (fun d => ceilDiv (ceilDiv (bitsOf d.w4 23 0 + 1) 8 * gap) 2 + 420)).foldl
    (fun l b => insertFalling (b, 0) l) []).map (·.1)

/-- The first SLOW_IN of a core whose lead is short or undeclared (R221): entry, lead and bound. Which SLOW_IN a lead belongs to the image
does not say: the longest leads answer for the longest bounds, and a lead beyond the core's SLOW_INs for the shortest
(DESIGN CHOICE, log entry 118). -/
def Plan.leadShort (p : Plan) (q : Nat) (es : List (List Byte × Nat)) (c : Nat) : Option (Nat × Nat × Nat) :=
  let ls := p.leads es c
  let bs := p.slowBounds q c
  match bs.getLast? with
  | none => none
  | some least =>
    (List.range (max ls.length bs.length)).findSome? (fun i =>
      let b := bs.getD i least
      match ls[i]? with
      | none => some (0, 0, b)
      | some l => if l.1 < b then some (l.2, l.1, b) else none)

/-- Check 14 (R216, R218, R220 to R222). A role without an HBM section owns no slots and declares no leads. -/
def check14 (q role : Nat) (p : Plan) (ss : List Sect) : Option LoadFail :=
  let sect := findSect ss 0x0F role 0xFF
  let es := match sect with | some x => x.entries.zipIdx | none => []
  let bad := fun (i off c found limit : Nat) => some (match sect with
    | some x => { x.fail 0x79 14 i off found limit with core := 64 * q + c }
    | none => { status := 0x79, check := 14, core := 64 * q + c, found := found, limit := limit })
  (es.findSome? (fun y => if bytesAt y.1 0 1 ≠ 2 then none
    else (List.range 8).findSome? (fun j =>
      let b := bytesAt y.1 (8 + j) 1
      let i := 8 * bytesAt y.1 2 2 + j
      if (b / 64 = 1 ∧ controllerSlot i) ∨ (b / 64 = 2 ∧ !controllerSlot i) ∨ b / 64 = 3 then bad y.2 (8 + j) (b % 64) b 0 else none)))
  |>.or ((List.range 64).findSome? (fun c =>
    if !(p.moveOps (64 * q + c) [1, 2]).isEmpty && (p.hbmOwned c).isEmpty then bad 0 0 c 0 1 else none))
  |>.or (es.findSome? (fun y =>
    let e := y.1
    let c := bytesAt e 1 1 % 64
    if bytesAt e 0 1 = 3 ∧ es.any (fun z => z.2 < y.2 && bytesAt z.1 0 1 = 3 && bytesAt z.1 1 1 % 64 ≠ c &&
        overlaps (bytesAt e 8 8) (bytesAt e 2 6) (bytesAt z.1 8 8) (bytesAt z.1 2 6)) then bad y.2 8 c (bytesAt e 8 8) 0 else none))
  |>.or ((List.range 64).findSome? (fun c => match p.leadShort q es c with
    | some (i, found, limit) => bad i 12 c found limit
    | none => none))
  |>.or (es.findSome? (fun y =>
    let e := y.1
    let c := bytesAt e 1 1 % 64
    let have' := sumpBuffers (Map.get (α := List U64) p.regions (64 * q + c) [])
    if bytesAt e 0 1 = 5 ∧ have' < bytesAt e 8 4 then bad y.2 8 c (bytesAt e 8 4) have' else none))

/-- The serving parameters of check 15 (R270, R311): offset, value, bad, limit. -/
def servingFields (p : Serving) (b : List Byte) (vocab : Nat) : List (Nat × Nat × Bool × Nat) :=
  let g := fun (o n : Nat) => bytesAt b o n
  [(0, p.inputKind, decide (2 < p.inputKind), 2), (1, p.outKind, decide (1 < p.outKind), 1), (2, p.cadenceIn, outside 1 8 p.cadenceIn, 8),
   (3, p.inPos, decide (64 < p.inPos), 64), (4, p.inCodes, p.inputKind = 2 && outside 1 64 p.inCodes, 64),
   (5, p.outCodes, p.outKind = 1 && outside 1 32 p.outCodes, 32), (6, p.outMax, outside 1 16 p.outMax, 16),
   (8, p.frameUs, if p.inputKind = 0 then p.frameUs ≠ 0 else (p.frameUs % 2500 ≠ 0 || outside 10000 80000 p.frameUs), 80000),
   (12, p.chunk, p.chunk % 64 ≠ 0 || outside 64 4096 p.chunk, 4096), (16, p.kvMax, p.kvMax % 64 ≠ 0 || outside 64 1048576 p.kvMax, 1048576),
   (20, p.writesDec, p.writesDec = 0, 255), (21, p.writesPre, p.writesPre = 0, 255)] ++
  (List.range 4).map (fun i => (24 + 4 * i, g (24 + 4 * i) 4, g (24 + 4 * i) 4 / 2 ^ 31 = 1 && decide (vocab ≤ g (24 + 4 * i) 4 % 2 ^ 18), vocab)) ++
  [(40, g 40 4, g 40 4 / 2 ^ 18 % 2 = 1 && decide (vocab ≤ g 40 4 % 2 ^ 18), vocab)]

/-- Does a signal-table entry break a range of R313. -/
def signalBad (q : Nat) (p : Plan) (ws : List U64) : Bool :=
  let w := ws.getD 0 0
  let rows := maxL (p.variants.map (fun v => v.decodeRows + v.prefillRows))
  let region := fun (core a : Nat) => regionType (Map.get (α := List U64) p.regions core []) a
  let lg := bitsOf (ws.getD 1 0) 47 0
  let rs := bitsOf (ws.getD 2 0) 47 0
  let draws := p.serving.outMax * (if p.serving.outKind = 1 then p.serving.outCodes else 1)
  decide (rows ≤ bitsOf w 9 2) || bitsOf w 63 58 ≠ 0 || ws.getD 3 0 ≠ 0 ||
  match bitsOf w 1 0 with
  | 0 => decide (max p.serving.writesDec p.serving.writesPre ≤ bitsOf w 18 10) || bitsOf w 63 19 ≠ 0 || ws.getD 1 0 ≠ 0 || ws.getD 2 0 ≠ 0
  | 1 => decide (draws ≤ bitsOf w 18 10) || bitsOf w 27 26 ≠ q || bitsOf w 35 34 ≠ q || bitsOf (ws.getD 1 0) 63 48 ≠ 0 ||
      bitsOf (ws.getD 2 0) 63 48 ≠ 0 || lg % 64 ≠ 0 || !inLocal lg 64 || region (bitsOf w 27 20) lg ≠ 2 || rs % 4 ≠ 0 ||
      region (bitsOf w 35 28) rs ≠ 2
  | _ => true

/-- Check 15 (R270, R311, R313). -/
def check15 (q role : Nat) (p : Plan) (ss : List Sect) : Option LoadFail :=
  let vocab := match (p.signals.filter (fun ws => bitsOf (ws.getD 0 0) 1 0 = 1)).map (fun ws => bitsOf (ws.getD 0 0) 57 40 + 1) with
    | [] => 2 ^ 18 | l => maxL l
  match findSect ss 4 role 0xFF, findSect ss 0x11 role 0xFF with
  | some x, some t =>
    let b := (x.entries.take 4).flatten
    match x.firstField 0x7A 15 0 (servingFields p.serving b vocab) with
    | some f => some f
    | none => match x.entries.zipIdx.findSome? (fun y =>
        let v := 64 * q + bytesAt y.1 4 1 % 64
        if y.2 < 4 ∨ bytesAt y.1 0 4 ≠ role then none
        else [8, 14, 20, 26].findSome? (fun o =>
          let a := bytesAt y.1 o 6
          if a ≠ 0 ∧ (a % 64 ≠ 0 ∨ regionType (Map.get (α := List U64) p.regions v []) a ≠ 2) then
            some { x.fail 0x7A 15 y.2 o a 0 with core := v } else none)) with
      | some f => some f
      | none =>
        if t.count = 0 ∨ 8192 < t.count then some (t.fail 0x7A 15 0 0 t.count 8192)
        else
          let key := fun (ws : List U64) => bitsOf (ws.getD 0 0) 18 0
          p.signals.zipIdx.findSome? (fun y =>
            if signalBad q p y.1 ∨ (p.signals.take y.2).any (fun z => key z = key y.1) then some (t.fail 0x7A 15 y.2 0 (y.1.getD 0 0).toNat 0)
            else none)
  | _, _ => none

/-- Check 16 (R402, R482): `tag` is the failure-domain tag of the mirror partner's device. -/
def State.check16 (s : State) (p : Plan) (tag : Nat) : Option LoadFail :=
  match p.mirror with
  | none => none
  | some (dev, _) =>
    let mine := s.fld .KPR_FDOM 0 15 0
    if dev = s.globalId ∨ mine = 0 ∨ tag = 0 ∨ mine = tag then some { status := 0x7A, check := 16, found := tag, limit := mine }
    else p.variants.zipIdx.findSome? (fun v =>
      if v.1.stepEpochs < 2 ∨ v.1.prefillEpochs < 2 then
        some { status := 0x7A, check := 16, var := v.2, found := min v.1.stepEpochs v.1.prefillEpochs, limit := 2 }
      else none)

/-- Check 17 (R596): declared currents whose epochs begin within 100 µs of each other, around the cycle. -/
def check17 (role : Nat) (p : Plan) (ss : List Sect) : Option LoadFail :=
  p.variants.zipIdx.findSome? (fun v => match findSect ss 0x17 role v.2 with
    | none => none
    | some x =>
      let es := x.entries
      let n := max 1 v.1.switchOk.length
      es.zipIdx.findSome? (fun y => es.findSome? (fun z =>
        let a := bytesAt y.1 0 2
        let b := bytesAt z 0 2
        let d := min ((a + n - b) % n) ((b + n - a) % n)
        let i := bytesAt y.1 2 2
        let j := bytesAt z 2 2
        if d * v.1.epochLen ≤ 100000 ∧ 32 < i - j then some { x.fail 0x7A 17 y.2 2 i (j + 32) with slot := a, var := v.2 } else none)))

/-! ### The whole load -/

/-- The first failure of a PLAN_LOAD before relocation (R641, R644): the file, then the environment, then the role's place, then the
role's sections by check number. A standby role's sections are not checked (DEDUCED, log entry 62). -/
def State.loadFail (s : State) (q : Nat) (img : List Byte) (role : Nat) (placement : List Nat) (tag : Nat) : Option LoadFail :=
  let ss := imageSects img
  let p := planOf img role q placement
  [check1 img role].findSome? id |>.or (check2 img role) |>.or (s.check18 img) |>.or (s.checkRole q img role placement) |>.or
    (if p.standby then s.check3 q role p ss
     else (s.check3 q role p ss) |>.or (variantChecks (fun a t _ _ => variantFail a t p.cols) role p ss)
      |>.or (variantChecks (fun _ t v w => budgetFail t q v w) role p ss) |>.or (variantChecks (fun _ t v w => drawFail t v w) role p ss)
      |>.or (s.check7 q role ss) |>.or (check8 q role ss) |>.or (s.check9 q role p ss) |>.or (check10 q role p ss)
      |>.or (s.check11 role p ss) |>.or (s.check12 role img p ss) |>.or (check13 role ss) |>.or (check14 q role p ss)
      |>.or (check15 q role p ss) |>.or (s.check16 p tag) |>.or (check17 role p ss))

/-! ### The link part of check 5 (R645) -/

/-- The quadrant's roles at a block position. -/
def rolesAt (p : Plan) (pos : Nat) : List Nat := (p.roles.zipIdx.filter (fun r => r.1.pos = pos)).map (·.2)

/-- The links that carry a flow to the port (position, port) where flow id f arrives: back through transits of other members, by fuel
(R409, R412). -/
def State.flowLinks (s : State) (p : Plan) (ss : List Sect) : Nat → Nat → Nat → Nat → List (Nat × Nat)
  | 0, _, _, _ => []
  | n + 1, pos, port, f =>
    (pos, port) :: match s.acrossPort (bytesAt p.image 16 1) (bytesAt p.image 17 1) (bytesAt p.image 18 1) pos port with
      | none => []
      | some pos' =>
        let tables := (rolesAt p pos').flatMap (fun r => sectEntries ss 0x0C r)
        let tags := ((portTable tables (port ^^^ 2) 0).filter (fun x => x.2 % 2 = 1 && natBits x.2 22 7 = f)).map (·.1)
        (List.range 12).flatMap (fun o => (portTable tables o 1).flatMap (fun (x : Nat × Nat) =>
          if x.2 % 2 = 1 ∧ (tags.contains (natBits x.2 16 7) ∨ tags.contains (natBits x.2 26 17)) then s.flowLinks p ss n pos' o x.1 else []))

/-- The links that carry the cross-device planned flows a core receives. -/
def State.coreLinks (s : State) (p : Plan) (ss : List Sect) (role core : Nat) : List (Nat × Nat) :=
  let pos := ((p.roles[role]?).map (·.pos)).getD 0
  let mine := (sectEntries ss 0x0A role).filter (fun e => bytesAt e 0 1 = core && natBits (bytesAt e 8 8) 12 10 = 4)
  mine.flatMap (fun e => s.flowLinks p ss 64 pos (natBits (bytesAt e 8 8) 31 28) (natBits (bytesAt e 8 8) 47 32))

/-- The link reserve of a core (R30, R645): the repair spacing at its widest, plus the largest round-trip time reported of the links that
carry a flow to it. `rtts` gives round-trip time × 64 + slot scale by global ID × 16 + port. -/
def linkReserve (p : Plan) (rtts : Map Nat) (links : List (Nat × Nat)) : Nat :=
  let got := links.map (fun l => Map.get (α := Nat) rtts (p.placement.getD l.1 0 * 16 + l.2) 1)
  maxL (22 :: got.map (fun x => ceilDiv (2176 * max 1 (x % 64)) 100)) + maxL (got.map (· / 64))

/-- The first epoch slot of the partition whose headroom does not cover its link reserve too: role and failure (R645); with `only`, of
the slots whose flows cross that link. -/
def State.linkFail (s : State) (p : Plan) (rtts : Map Nat) (only : Option (Nat × Nat)) : Option (Nat × LoadFail) :=
  let ss := imageSects p.image
  (List.range p.roles.length).findSome? (fun role => (List.range (bytesAt p.image 5 1)).findSome? (fun v =>
    match findSect ss 2 role v, findSect ss 3 role v with
    | some a, some t =>
      let q := ((p.roles[role]?).map (·.quad)).getD 0
      let floor := bytesAt (a.entry 0) 4 2
      let len := bytesAt (a.entry 0) 0 4
      t.entries.zipIdx.findSome? (fun x =>
        let e := epochOf q x.1
        let links := if e.flow then s.coreLinks p ss role (e.core % 64) else []
        if !e.flow || (match only with | some l => !links.contains l | none => false) then none
        else
          let need := reserveOf e floor + linkReserve p rtts links
          if headroomOf e len floor < need then
            let port := match (sectEntries ss 0x0A role).find? (fun f => bytesAt f 0 1 = e.core % 64 && natBits (bytesAt f 8 8) 12 10 = 4) with
              | some f => natBits (bytesAt f 8 8) 31 28 | none => 0
            some (role, { t.fail 0x74 5 x.2 8 (headroomOf e len floor) need with core := e.core, port := port, slot := bytesAt x.1 2 2, var := v })
          else none)
    | _, _ => none))

end Sys2Proof.Machine
end

