-- ==== Sys2Proof/Machine/Codec.lean ====
section
/-! DEFINITION. The Krynum shard codec (R240 to R244): decoding a stored form, an error naming the byte offset of the header or
chunk header it lies in. -/
namespace Sys2Proof.Machine

/-- What decoding answers. -/
inductive Decoded where
  | ok (bytes : List Byte)
  | bad (offset : Nat)
  deriving DecidableEq, Repr

/-- Little-endian field of a byte string. -/
def leAt (b : List Byte) (i n : Nat) : Nat := ofLe ((b.drop i).take n)

/-- The bits of a stream, each byte from its most significant bit (R243). -/
def streamBits (b : List Byte) : List Bool :=
  b.flatMap (fun x => (List.range 8).map (fun i => x.toNat.testBit (7 - i)))

/-- The code length of a symbol in a 128-byte table (R242). -/
def codeLen (table : List Byte) (sym : Nat) : Nat :=
  let x := (table.getD (sym / 2) 0).toNat
  if sym % 2 = 0 then x % 16 else x / 16

/-- The canonical codes: symbol, length, code, in ascending length and symbol (R243). -/
def canonAux (table : List Byte) : Nat → Nat → Nat → List (Nat × Nat × Nat)
  | 0, _, _ => []
  | n + 1, len, code =>
    let syms := (List.range 256).filter (fun s => codeLen table s = len)
    (syms.zipIdx.map (fun p => (p.1, len, code + p.2))) ++ canonAux table n (len + 1) ((code + syms.length) * 2)

/-- Is a code table legal (R243): lengths up to 12, at least two symbols, the sum of 2^(−length) exactly 1. -/
def tableOk (table : List Byte) : Bool :=
  let lens := (List.range 256).map (codeLen table)
  lens.all (fun l => decide (l ≤ 12)) && decide ((lens.filter (· ≠ 0)).length ≥ 2) &&
  decide ((lens.filter (· ≠ 0)).foldl (fun n l => n + 2 ^ (12 - l)) 0 = 4096)

/-- Symbols read from a bit stream, with the bits left: `n` symbols, by fuel the bits; the code word read so far. -/
def readSyms (codes : List (Nat × Nat × Nat)) : Nat → Nat → Nat → List Bool → Option (List Byte × List Bool)
  | 0, _, _, bits => some ([], bits)
  | _ + 1, _, _, [] => none
  | n + 1, len, code, b :: bits =>
    let len := len + 1
    let code := code * 2 + (if b then 1 else 0)
    match codes.find? (fun c => c.2.1 = len && c.2.2 = code) with
    | some c => (readSyms codes n 0 0 bits).map (fun r => (BitVec.ofNat 8 c.1 :: r.1, r.2))
    | none => if len ≥ 12 then none else readSyms codes (n + 1) len code bits
termination_by structural _ _ _ bits => bits

/-- One plane record of `n` bytes (R242, R243): the plane and what follows it. -/
def decodePlane (n : Nat) (b : List Byte) : Option (List Byte × List Byte) :=
  match b with
  | [] => none
  | mode :: rest =>
    if mode = 0 then (if rest.length < n then none else some (rest.take n, rest.drop n))
    else if mode = 2 then (match rest with | [] => none | v :: r => some (List.replicate n v, r))
    else if mode = 1 then
      let table := rest.take 128
      let nb := leAt rest 128 4
      let body := rest.drop 132
      if rest.length < 132 + nb ∨ !tableOk table then none
      else match readSyms (canonAux table 12 1 0) n 0 0 (streamBits (body.take nb)) with
        | none => none
        | some (syms, left) => if left.length < 8 ∧ left.all (· = false) then some (syms, body.drop nb) else none
    else none

/-- The planes of a chunk, in order. -/
def decodePlanes (n : Nat) : Nat → List Byte → Option (List (List Byte) × List Byte)
  | 0, b => some ([], b)
  | k + 1, b => match decodePlane n b with
    | none => none
    | some (p, rest) => (decodePlanes n k rest).map (fun r => (p :: r.1, r.2))

/-- The bytes of a chunk from its planes (R241). -/
def interleave (n : Nat) (planes : List (List Byte)) : List Byte :=
  (List.range n).flatMap (fun i => planes.map (fun p => p.getD i 0))

/-- The payload of one chunk that decodes to `n` bytes (R241). -/
def decodeChunk (w n method : Nat) (payload : List Byte) : Option (List Byte) :=
  match method with
  | 0 => if payload.length = n then some payload else none
  | 1 => if payload.length = 1 then some (List.replicate n (payload.headD 0)) else none
  | 2 => match decodePlanes (n / w) w payload with
    | some (ps, []) => some (interleave (n / w) ps)
    | _ => none
  | _ => none

/-- The chunks of a stored form from a byte offset (R241): `k` chunks, `left` bytes still to decode. -/
def decodeChunks (w : Nat) : Nat → Nat → Nat → List Byte → Decoded
  | 0, off, _, b => if b.isEmpty then .ok [] else .bad off
  | k + 1, off, left, b =>
    let n := min 65536 left
    let len := leAt b 4 4
    if b.length < 8 + len ∨ leAt b 1 3 ≠ 0 then .bad off
    else match decodeChunk w n (leAt b 0 1) ((b.drop 8).take len) with
      | none => .bad off
      | some d => match decodeChunks w k (off + 8 + len) (left - n) (b.drop (8 + len)) with
        | .ok ds => .ok (d ++ ds)
        | .bad o => .bad o

/-- A stored form decoded (R240): `declen` is the manifest's DECODED_LEN. -/
def decodeStored (declen : Nat) (b : List Byte) : Decoded :=
  let w := leAt b 5 1
  let n := leAt b 8 8
  let ok : Bool := decide (b.length ≥ 64) && decide (b.take 4 = [0x4B, 0x4E, 0x53, 0x43]) && leAt b 4 1 = 1 &&
    (w = 1 || w = 2 || w = 4) && leAt b 6 2 = 0 && n = declen && n % w = 0 &&
    leAt b 16 4 = (n + 65535) / 65536 && ((b.drop 20).take 44).all (· = 0)
  if ok then decodeChunks w ((n + 65535) / 65536) 64 n (b.drop 64) else .bad 0

end Sys2Proof.Machine
end

