-- ==== Sys2Proof/Machine/HostOps.lean ====
section
/-! DEFINITION. The host interface's shared operations (R513 to R543): completion places, posting to the completion ring,
interrupts, the poll of a doorbell page, and the fields of commands. -/
namespace Sys2Proof.Machine

/-- The words of an entry. -/
def entryWords (e : Entry) : List U64 := [e.w0, e.w1, e.w2, e.w3, e.w4, e.w5, e.w6, e.w7]
/-- Word i of a list of words, 0 when there is none. -/
def wordAt (ws : List U64) (i : Nat) : U64 := ws.getD i 0
/-- A field of word i of a list of words. -/
def wf (ws : List U64) (i hi lo : Nat) : Nat := bitsOf (wordAt ws i) hi lo
/-- OPCODE (R522). -/
def cmdOp (ws : List U64) : Nat := wf ws 0 7 0
/-- CID. -/
def cmdCid (ws : List U64) : Nat := wf ws 0 31 16
/-- HOST_TAG. -/
def cmdTag (ws : List U64) : Nat := wf ws 0 63 32

/-- Places a command reserves (R521): LOAD and RETIRE two, any other one. -/
def placesOf (ws : List U64) : Nat := if cmdOp ws = 0x20 ∨ cmdOp ws = 0x22 then 2 else 1

/-- Is a function enabled and not stalled (R534, R540). -/
def State.live (s : State) (f : Nat) : Bool := s.bit .HIF_CTRL f 0 && !s.bit .HIF_STAT f 1

/-- SQ_SIZE and CQ_SIZE (R542). -/
def State.sqSize (s : State) (f : Nat) : Nat := s.fld .HIF_RING_SIZE f 16 0
/-- CQ_SIZE. -/
def State.cqSize (s : State) (f : Nat) : Nat := s.fld .HIF_RING_SIZE f 48 32
/-- Is a ring size legal (R21). -/
def ringSizeOk (n : Nat) : Bool := (rangeFrom 6 11).any (fun k => decide (n = 2 ^ k))

/-- Places of a function's queue reserved or given back (R521). -/
def State.reserve (s : State) (f n : Nat) : State := s.modFunc f (fun x => { x with reserved := x.reserved + n })
/-- Reserved places given back. -/
def State.unreserve (s : State) (f n : Nat) : State := s.modFunc f (fun x => { x with reserved := x.reserved - n })

/-- A command's completion, in one of its reserved places (R521, R526). -/
def State.answer (s : State) (f kind status cid tag a0 a1 : Nat) : State :=
  if s.bit .HIF_CTRL f 0 then
    s.complete f { kind := kind, quad := f % 4, status := status, cid := cid, tag := tag, arg0 := a0, arg1 := a1, reserved := true }
  else s

/-- A completion of kind 3 or 4, in the places kept for the quadrant's slots (R521, R526). -/
def State.slotNote (s : State) (q kind slot tag a0 a1 : Nat) (rehearse : Bool := false) : State :=
  if s.bit .HIF_CTRL q 0 then
    s.complete q { kind := kind, quad := q, cid := 0x8000 + slot, tag := tag, arg0 := a0, arg1 := a1, slotPlace := true,
                   rehearse := rehearse }
  else s

/-- The phase of pass n / size through a ring: 1 on the first pass, inverted on each wrap (R19). -/
def phaseOf (n size : Nat) : Nat := if n / size % 2 = 0 then 1 else 0

/-- The four words of a completion entry (R526). -/
def Completion.words (c : Completion) (stamp phase : Nat) : List U64 :=
  [BitVec.ofNat 64 (c.kind % 32 + (if c.rehearse then 32 else 0) + c.quad * 64 + c.status % 256 * 2 ^ 8 + c.cid % 65536 * 2 ^ 16 +
    c.tag % 2 ^ 32 * 2 ^ 32),
   BitVec.ofNat 64 c.arg0, BitVec.ofNat 64 c.arg1, BitVec.ofNat 64 (stamp % 2 ^ 63 + phase * 2 ^ 63)]

/-- Difference of two free-running 32-bit counts (R517). -/
def ahead (a b : Nat) : Nat := (a + 2 ^ 32 - b % 2 ^ 32) % 2 ^ 32

/-- The head of the internal queue written to the completion ring (R519, R521), when the consumer count shows a free entry;
its reserved place is free again. -/
def State.postOne (s : State) (f stamp : Nat) : State :=
  let x := s.func f
  let n := s.cqSize f
  match x.queue with
  | [] => s
  | c :: rest =>
    if ahead x.cqCount x.cqHost < n then
      let addr := (s.reg .HIF_CQ_BASE f).toNat + x.cqCount % n * 32
      let x := { x with
        queue := rest
        cqCount := (x.cqCount + 1) % 2 ^ 32
        reserved := if c.reserved then x.reserved - 1 else x.reserved }
      (s.setFunc f x).send (.completion f addr (c.words stamp (phaseOf (s.func f).cqCount n)))
    else s

/-- An MSI-X message of a vector, or its pending bit while the entry is masked (R515, R520; the PCIe standard's table). -/
def State.interrupt (s : State) (f vector : Nat) : State :=
  let e := Map.get (α := MsixEntry) (s.func f).msix vector {}
  if e.masked then s.modFunc f (fun x => { x with msix := Map.set (α := MsixEntry) x.msix vector { e with pend := true } })
  else s.send (.msix f vector)

/-- A vector whose ring received an entry: its one message follows at the end of the snapshot or poll (R520). -/
def State.noteVector (s : State) (f vector : Nat) : State :=
  s.modFunc f (fun x => { x with irqs := x.irqs.filter (· < vector) ++ [vector] ++ x.irqs.filter (vector < ·) })

/-- One message for each vector noted (R520), in ascending order (DESIGN CHOICE, log entry 144). -/
def State.sendVectors (s : State) (f : Nat) : State :=
  let vectors := (s.func f).irqs
  (s.modFunc f (fun x => { x with irqs := [] })).each vectors (fun s v => s.interrupt f v)

/-- Queued completions written in order of production, and the completion ring's vector noted (R520). -/
def State.post (s : State) (f stamp : Nat) : State :=
  if s.live f then
    let s' := s.each (List.range (s.func f).queue.length) (fun s _ => s.postOne f stamp)
    if (s'.func f).queue.length < (s.func f).queue.length ∧ s.bit .HIF_CTRL f 1 then s'.noteVector f (s.fld .HIF_CTRL f 7 2)
    else s'
  else s

/-! ### Polls -/

/-- The host's count of a ring, ignored with DB_ERR when it lies more than the ring's size ahead (R518). -/
def State.pollRing (s : State) (q i : Nat) (count : Nat) : State :=
  match Map.find (α := Ring) (s.func q).rings i with
  | none => s
  | some r =>
    let lead := if r.output then ahead r.devCount count else ahead count r.devCount
    if lead > r.size then s.setBit .HIF_STAT q 3 true
    else s.modFunc q (fun x => { x with rings := Map.set (α := Ring) x.rings i { r with hostCount := count } })

/-- The poll of function f's doorbell page: counts taken, new submission entries asked for, at most 256, each to apply at
`due` (R520, R274). -/
def State.poll (s : State) (f due : Nat) (p : HostPoll) : State :=
  if !s.live f then s
  else
    let x := s.func f
    let s := if ahead x.cqCount p.cqCons.toNat > s.cqSize f then s.setBit .HIF_STAT f 3 true
      else s.modFunc f (fun x => { x with cqHost := p.cqCons.toNat })
    let s := s.each p.rings (fun s r => s.pollRing f r.1 r.2.toNat)
    let x := s.func f
    let waiting := (x.fetched.filter (fun e => e.words.isNone)).length
    let new := ahead p.sqProd.toNat x.sqCount
    if new > s.sqSize f then s.setBit .HIF_STAT f 3 true
    else
      let nos := (rangeFrom (x.sqCount + waiting) (min 256 (new - waiting))).map (· % 2 ^ 32)
      let s := s.modFunc f (fun x => { x with fetched := x.fetched ++ nos.map (fun n => ({ no := n, due := due } : Fetched)) })
      let base := (s.reg .HIF_SQ_BASE f).toNat
      let s := s.setBit .HIF_STAT f 4 false
      s.each nos (fun s n => s.send (.hostRead f (base + n % s.sqSize f * 64) 64))

/-- The count of the last launch of a quadrant's plan since its origin, 0 before the first (R25). -/
def State.launchedAt (s : State) (q : Nat) : Nat :=
  if s.runs q && (s.quad q).begun then (s.quad q).rule.launch (s.quad q).variants (s.epoch q) else 0

/-- A submission entry's fetch completes (R274, R521): the oldest one asked for is stored with its places reserved; when they
cannot be reserved the fetch stops there, and CQ_HELD reads 1. -/
def State.fetchDone (s : State) (f : Nat) (ws : List U64) (block : Option (List Byte)) : State :=
  let x := s.func f
  match x.fetched.filter (fun e => e.words.isNone) with
  | [] => s
  | e :: _ =>
    let n := placesOf ws
    let late : Bool := decide (e.due ≤ s.launchedAt f)
    if x.placesFree < n then
      (s.setFunc f { x with fetched := x.fetched.filter (fun e => e.words.isSome) }).setBit .HIF_STAT f 4 true
    else
      s.setFunc f { x with
        sqCount := (x.sqCount + 1) % 2 ^ 32
        reserved := x.reserved + n
        fetched := x.fetched.map (fun y => if y.no = e.no ∧ y.words.isNone then 
          { e with words := some ws, block := block, places := n, late := late } else y) }

/-- The end of a snapshot or poll (R517, R520): the device's own words of the doorbell page, then the interrupts. -/
def State.doorbell (s : State) (f : Nat) : State :=
  if s.live f then
    let x := s.func f
    let s := s.send (.doorbell f 16 x.sqCount)
    (s.each (x.rings.filter (fun r => !r.2.output)) (fun s r => s.send (.doorbell f (1024 + 4 * r.1) r.2.devCount))).sendVectors f
  else s

/-- Entries that apply now: fetched, due at or before `at'`, up to the first that is not fetched or not due (in ring
order). -/
def readyPrefix (at' : Nat) : List Fetched → List Fetched × List Fetched
  | [] => ([], [])
  | e :: es =>
    if e.words.isSome ∧ e.due ≤ at' then let (a, b) := readyPrefix at' es; (e :: a, b) else ([], e :: es)

end Sys2Proof.Machine
end

