-- ==== Sys2Proof/Machine/VectorMath.lean ====
section
/-! DEFINITION. The exact values of the vector functions (R166, R168), each as a magnitude with a sticky remainder that
is rounded once. The arithmetic functions are exact; the transcendental ones are summed as series in fixed point with
512 fraction bits, which decides every rounding of a binary32 or BF16 result (log entry 5). -/
namespace Sys2Proof.Machine

/-- Fraction bits of the fixed-point series (UNVERIFIED, log entry 5). -/
def fxBits : Nat := 512

/-- One in fixed point. -/
def fxOne : Nat := 2 ^ 512

/-- Fixed-point product of non-negative numbers, rounded down. -/
def fxMul (a b : Nat) : Nat := (a * b) >>> 512

/-- Bitwise integer square root: fuel digit pairs below the bit position. -/
def sqrtAux : Nat → Nat → Nat → Nat → Nat
  | 0, _, _, res => res
  | f + 1, bit, n, res =>
    if n ≥ res + bit then sqrtAux f (bit / 4) (n - (res + bit)) (res / 2 + bit)
    else sqrtAux f (bit / 4) n (res / 2)

/-- ⌊√n⌋. -/
def natSqrt (n : Nat) : Nat :=
  let h := floorLog2 n / 2
  sqrtAux (h + 1) (4 ^ h) n 0

/-- Sum of x^(2k+1)/(2k+1) for an odd-power series of atanh 1/q, in fixed point, by fuel. -/
def atanhInvAux : Nat → Nat → Nat → Nat → Nat → Nat
  | 0, _, _, _, acc => acc
  | f + 1, q2, pw, d, acc => if pw = 0 then acc else atanhInvAux f q2 (pw / q2) (d + 2) (acc + pw / d)

/-- atanh (1/q) in fixed point. -/
def atanhInv (q : Nat) : Nat := atanhInvAux 600 (q * q) (fxOne / q) 1 0

/-- Sum for arctan 1/q: alternating odd powers, in fixed point. -/
def atanInvAux : Nat → Nat → Nat → Nat → Bool → Int → Int
  | 0, _, _, _, _, acc => acc
  | f + 1, q2, pw, d, neg, acc =>
    if pw = 0 then acc
    else atanInvAux f q2 (pw / q2) (d + 2) (!neg) (if neg then acc - ((pw / d : Nat) : Int) else acc + ((pw / d : Nat) : Int))

/-- ln 2 = 2 atanh (1/3). -/
def ln2Fx : Nat := 2 * atanhInv 3

/-- π = 16 arctan (1/5) − 4 arctan (1/239). -/
def piFx : Nat :=
  (16 * atanInvAux 600 25 (fxOne / 5) 1 false 0 - 4 * atanInvAux 600 57121 (fxOne / 239) 1 false 0).toNat

/-- Sum of x^k / k!, in fixed point, by fuel. -/
def expAux : Nat → Nat → Nat → Nat → Nat → Nat
  | 0, _, _, _, acc => acc
  | f + 1, x, term, k, acc =>
    if term = 0 then acc else expAux f x (fxMul term x / k) (k + 1) (acc + term)

/-- e^x for a fixed-point x below a few units. -/
def fxExp (x : Nat) : Nat := expAux 400 x fxOne 1 0

/-- Sum of sign^k x2^k / (k-th factorial step): the series of sin t / t, cos t, sinh t / t and cosh t in x2 = t². -/
def trigAux : Nat → Nat → Nat → Nat → Bool → Bool → Int → Int
  | 0, _, _, _, _, _, acc => acc
  | f + 1, x2, term, k, alt, neg, acc =>
    if term = 0 then acc
    else trigAux f x2 (fxMul term x2 / (k * (k + 1))) (k + 2) alt (if alt then !neg else false)
      (if neg then acc - (term : Int) else acc + (term : Int))

/-- sin t / t for t² in fixed point. -/
def fxSinc (x2 : Nat) : Nat := (trigAux 600 x2 fxOne 2 true false 0).toNat
/-- cos t for t² in fixed point. -/
def fxCos (x2 : Nat) : Nat := (trigAux 600 x2 fxOne 1 true false 0).toNat
/-- sinh t / t for t² in fixed point. -/
def fxSinhc (x2 : Nat) : Nat := (trigAux 600 x2 fxOne 2 false false 0).toNat
/-- cosh t for t² in fixed point. -/
def fxCosh (x2 : Nat) : Nat := (trigAux 600 x2 fxOne 1 false false 0).toNat

/-- Sum of (2 x2)^n / (2n + 1)!!, the series of erf without cancellation. -/
def erfAux : Nat → Nat → Nat → Nat → Nat → Nat
  | 0, _, _, _, acc => acc
  | f + 1, x2, term, d, acc =>
    if term = 0 then acc else erfAux f x2 (fxMul term (2 * x2) / (d + 2)) (d + 2) (acc + term)

/-- A dyadic magnitude m × 2^e in fixed point, rounded down. -/
def fxOf (m : Nat) (e : Int) : Nat :=
  let s := e + (fxBits : Int)
  if 0 ≤ s then m <<< s.toNat else m >>> (-s).toNat

/-- A fixed-point magnitude times a dyadic one: an irrational exact value. -/
def fxTimes (neg : Bool) (fx m : Nat) (e : Int) : Exact := ⟨neg, fx * m, e - fxBits, true⟩

/-- A magnitude just below m × 2^e. -/
def justBelow (neg : Bool) (m : Nat) (e : Int) : Exact := ⟨neg, m * fxOne - 1, e - fxBits, true⟩

/-- A magnitude just above zero, far below every format's least subnormal. -/
def vanishing (neg : Bool) : Exact := ⟨neg, 1, -600, true⟩

/-- The sum of two finite values, exactly, as an integer at the lower exponent. -/
def dyadicAdd (n1 : Bool) (m1 : Nat) (e1 : Int) (n2 : Bool) (m2 : Nat) (e2 : Int) : Int × Int :=
  let e := min e1 e2
  let a : Int := ((m1 <<< (e1 - e).toNat : Nat) : Int)
  let b : Int := ((m2 <<< (e2 - e).toNat : Nat) : Int)
  ((if n1 then -a else a) + (if n2 then -b else b), e)

/-- e^y for a non-negative fixed-point y (below 2^9): mantissa in fixed point and a power of two. -/
def fxExpWide (y : Nat) : Nat × Nat :=
  let l2 := ln2Fx
  let n := y / l2
  (fxExp (y - n * l2), n)

/-- 2^a for a finite a (R168). Integers give exact powers. -/
def exactExp2 (neg : Bool) (m : Nat) (e : Int) : Exact :=
  if m = 0 then ⟨false, 1, 0, false⟩
  else if 0 ≤ (floorLog2 m : Int) + e - 9 then
    (if neg then vanishing false else ⟨false, 1, 400, true⟩)
  else
    let fx := fxOf m e
    let ip : Int := ((fx >>> 512 : Nat) : Int)
    let fr := fx % fxOne
    let isInt : Bool := decide (0 ≤ e) || decide (m % 2 ^ (-e).toNat = 0)
    if isInt then ⟨false, 1, if neg then -ip else ip, false⟩
    else
      -- a fraction lost by the fixed point is far below the least step of 2^a
      let (i2, f2) : Int × Nat := if neg then (-ip - 1, fxOne - (if fr = 0 then 1 else fr)) else (ip, fr)
      ⟨false, fxExp (fxMul f2 ln2Fx), i2 - fxBits, true⟩

/-- log2 a for a positive finite a (R168): powers of two give exact integers. -/
def exactLog2 (m : Nat) (e : Int) : Exact :=
  let l := floorLog2 m
  let ip : Int := (l : Int) + e
  if m = 2 ^ l then Exact.ofInt ip 0
  else
    -- z = m / 2^l in [1, 2); ln z = 2 atanh ((z − 1)/(z + 1))
    let num := (m - 2 ^ l) * fxOne
    let r := num / (m + 2 ^ l)
    let lnz := 2 * atanhInvAux2 r
    let v : Int := ip * (fxOne : Int) + (((lnz * fxOne) / ln2Fx : Nat) : Int)
    ⟨decide (v < 0), (if v < 0 then v.natAbs - 1 else v.natAbs), -(fxBits : Int), true⟩
where
  /-- atanh r for a fixed-point r. -/
  atanhInvAux2 (r : Nat) : Nat := go 400 (fxMul r r) r 1 0
  /-- The odd-power series of atanh, by fuel. -/
  go : Nat → Nat → Nat → Nat → Nat → Nat
    | 0, _, _, _, acc => acc
    | f + 1, r2, pw, d, acc => if pw = 0 then acc else go f r2 (fxMul pw r2) (d + 2) (acc + pw / d)

/-- A quotient of two magnitudes to 512 bits beyond the denominator, exact when it divides. -/
def exactDiv (neg : Bool) (m1 : Nat) (e1 : Int) (m2 : Nat) (e2 : Int) : Exact :=
  let n := m1 <<< 512
  ⟨neg, n / m2, e1 - e2 - fxBits, decide (n % m2 ≠ 0)⟩

/-- The square root of a positive dyadic. -/
def exactSqrt (m : Nat) (e : Int) : Exact :=
  let (m, e) : Nat × Int := if e % 2 = 0 then (m, e) else (m * 2, e - 1)
  let n := m <<< 128
  let r := natSqrt n
  ⟨false, r, e / 2 - 64, decide (r * r ≠ n)⟩

/-- The reciprocal square root of a positive dyadic. -/
def exactRsqrt (m : Nat) (e : Int) : Exact :=
  let (m, e) : Nat × Int := if e % 2 = 0 then (m, e) else (m * 2, e - 1)
  let n := 2 ^ 256
  let r := natSqrt (n / m)
  ⟨false, r, -(e / 2) - 128, decide (r * r * m ≠ n)⟩

/-- sin or cos of a quarter-turn residue: t turns in (0, 1/8] as a dyadic, odd function or even one. -/
def octant (isSin neg : Bool) (m : Nat) (e : Int) : Exact :=
  let pi := piFx
  -- (2πt)² in fixed point: 4π²·t²
  let x2 := fxMul (4 * fxMul pi pi) (fxOf (m * m) (2 * e))
  if isSin then fxTimes neg (fxMul (2 * pi) (fxSinc x2)) m e
  else
    let c := fxCos x2
    ⟨neg, if c ≥ fxOne then fxOne - 1 else c, -(fxBits : Int), true⟩

/-- sin (2πa) or cos (2πa) of a finite non-zero a (R168, R169), an exact zero as a positive zero. -/
def exactTurn (isSin neg : Bool) (m : Nat) (e : Int) : Exact :=
  if m = 0 ∨ 0 ≤ e then (if isSin then ⟨neg, 0, 0, false⟩ else ⟨false, 1, 0, false⟩)
  else
    let w := 2 ^ (-e).toNat          -- units per turn
    let f := m % w                   -- |a| mod 1, in units of 1/w
    -- work in units of 1/(8w): the octant and the distance to its nearer quarter turn
    let x := 8 * f
    let o := x / w                   -- 0 to 7
    let lo := x - o * w              -- within the octant
    let e8 := e - 3
    let s : Bool := neg && isSin
    let part (sn flip : Bool) (mm : Nat) : Exact :=
      if mm = 0 then (if sn then ⟨if isSin then neg else false, 0, 0, false⟩ else ⟨flip != s, 1, 0, false⟩)
      else octant sn (flip != s) mm e8
    let up := lo                     -- distance from the octant's start
    let dn := w - lo                 -- distance to the octant's end
    match isSin, o with
    | true, 0 => part true false up
    | true, 1 => part false false dn
    | true, 2 => part false false up
    | true, 3 => part true false dn
    | true, 4 => part true true up
    | true, 5 => part false true dn
    | true, 6 => part false true up
    | true, _ => part true true dn
    | false, 0 => part false false up
    | false, 1 => part true false dn
    | false, 2 => part true true up
    | false, 3 => part false true dn
    | false, 4 => part false true up
    | false, 5 => part true true dn
    | false, 6 => part true false up
    | false, _ => part false false dn

/-- tanh of a finite non-zero a. -/
def exactTanh (neg : Bool) (m : Nat) (e : Int) : Exact :=
  if 0 ≤ (floorLog2 m : Int) + e - 5 then justBelow neg 1 0
  else
    let x2 := fxOf (m * m) (2 * e)
    let q := (fxSinhc x2 * fxOne) / fxCosh x2
    ⟨neg, (if q ≥ fxOne then fxOne - 1 else q) * m, e - fxBits, true⟩

/-- 1 / (1 + e^−a) of a finite a. -/
def exactSigmoid (neg : Bool) (m : Nat) (e : Int) : Exact :=
  if m = 0 then ⟨false, 1, -1, false⟩
  else if 0 ≤ (floorLog2 m : Int) + e - 7 then (if neg then vanishing false else justBelow false 1 0)
  else
    let (x, n) := fxExpWide (fxOf m e)
    let ex := x <<< n                -- e^|a| in fixed point
    if neg then ⟨false, (fxOne * fxOne) / (fxOne + ex), -(fxBits : Int), true⟩
    else
      let v := (ex * fxOne) / (fxOne + ex)
      ⟨false, if v ≥ fxOne then fxOne - 1 else v, -(fxBits : Int), true⟩

/-- erf of a finite non-zero a. -/
def exactErf (neg : Bool) (m : Nat) (e : Int) : Exact :=
  if 0 ≤ (floorLog2 m : Int) + e - 3 then justBelow neg 1 0
  else
    let x2 := fxOf (m * m) (2 * e)
    let (ex, n) := fxExpWide x2
    let series := erfAux 1200 x2 fxOne 1 0
    -- 2/√π · e^(−x²) · Σ, over the exact a
    let c := (2 * fxOne * fxOne) / natSqrt (piFx * fxOne)
    fxTimes neg ((fxMul c series * fxOne) / (ex <<< n)) m e

/-- a / (1 + e^−a) of a finite non-zero a. -/
def exactSilu (neg : Bool) (m : Nat) (e : Int) : Exact :=
  if 0 ≤ (floorLog2 m : Int) + e - 7 then (if neg then vanishing true else justBelow false m e)
  else
    let s := exactSigmoid neg m e
    ⟨neg, s.mant * m, s.exp + e, true⟩

end Sys2Proof.Machine
end

