-- ==== Sys2Proof/Machine/VectorEngine.lean ====
section
/-! DEFINITION. The vector engine (R109, R110, R161 to R180, R687): element functions with their special operands,
conversions, exact sums, gathers, and the checks of vector descriptors. -/
namespace Sys2Proof.Machine

/-- A result element and the sticky flags it raises (R185): bits as CORE_VX_STAT numbers them, 0 to 6. -/
structure VRes where
  bits  : Nat
  flags : Nat := 0
  deriving DecidableEq, Repr

/-- CORE_VX_STAT.INVALID. -/
def fInvalid : Nat := 1
/-- CORE_VX_STAT.DIVZERO. -/
def fDivZero : Nat := 2
/-- CORE_VX_STAT.OVERFLOW. -/
def fOverflow : Nat := 4
/-- CORE_VX_STAT.UNDERFLOW. -/
def fUnderflow : Nat := 8
/-- CORE_VX_STAT.SUM_UNF. -/
def fSumUnf : Nat := 16
/-- CORE_VX_STAT.SUM_OVF. -/
def fSumOvf : Nat := 32
/-- CORE_VX_STAT.GATHER_OOR. -/
def fGatherOor : Nat := 64

/-- The rounding of a descriptor: destination code 7 or 8, mode and SAT (R110). -/
structure RoundCtl where
  code : Nat
  mode : Nat
  sat  : Bool
  deriving DecidableEq, Repr

/-- The format of a code 7 or 8 destination. -/
def RoundCtl.fmt (k : RoundCtl) : FloatFmt := if k.code = 7 then fmtBf16 else fmtF32

/-- An exact non-zero value rounded once, with OVERFLOW and UNDERFLOW (R166, R170). -/
def RoundCtl.emit (k : RoundCtl) (x : Exact) : VRes :=
  let (b, f) := roundTo k.fmt k.mode k.sat x
  ⟨b, (if f.ovf then fOverflow else 0) + (if f.under then fUnderflow else 0)⟩

/-- A canonical NaN arising from an invalid operation (R169). -/
def RoundCtl.bad (k : RoundCtl) : VRes := ⟨canonNan k.code, fInvalid⟩
/-- An infinity. -/
def RoundCtl.inf (k : RoundCtl) (neg : Bool) (fl : Nat) : VRes := ⟨infBitsOf k.code neg, fl⟩
/-- A signed zero. -/
def RoundCtl.zero (k : RoundCtl) (neg : Bool) : VRes := ⟨zeroBits k.code neg, 0⟩
/-- Plus or minus one. -/
def RoundCtl.one (k : RoundCtl) (neg : Bool) : VRes := k.emit ⟨neg, 1, 0, false⟩

/-- Is an operand a NaN. -/
def FVal.isNan : FVal → Bool
  | .nan _ => true
  | _ => false
/-- Is an operand a signalling NaN. -/
def FVal.isSnan : FVal → Bool
  | .nan s => s
  | _ => false
/-- The sign changed. -/
def FVal.negate : FVal → FVal
  | .nan s => .nan s
  | .inf n => .inf (!n)
  | .fin n m e => .fin (!n) m e
/-- The sign cleared. -/
def FVal.absVal : FVal → FVal
  | .nan s => .nan s
  | .inf _ => .inf false
  | .fin _ m e => .fin false m e

/-- A product, exact; none for 0 × ∞ (R169). -/
def mulVal : FVal → FVal → Option FVal
  | .inf n1, .inf n2 => some (.inf (n1 != n2))
  | .inf n1, .fin n2 m _ => if m = 0 then none else some (.inf (n1 != n2))
  | .fin n1 m _, .inf n2 => if m = 0 then none else some (.inf (n1 != n2))
  | .fin n1 m1 e1, .fin n2 m2 e2 => some (.fin (n1 != n2) (m1 * m2) (e1 + e2))
  | a, _ => some a

/-- A sum of two operands rounded once; opposite infinities are invalid; zero sums follow IEEE 754-2019 (R169). -/
def sumVals (k : RoundCtl) : FVal → FVal → VRes
  | .inf n1, .inf n2 => if n1 = n2 then k.inf n1 0 else k.bad
  | .inf n1, _ => k.inf n1 0
  | _, .inf n2 => k.inf n2 0
  | .fin n1 m1 e1, .fin n2 m2 e2 =>
    let (v, e) := dyadicAdd n1 m1 e1 n2 m2 e2
    if v = 0 then
      (if m1 = 0 && m2 = 0 && n1 = n2 then k.zero n1 else k.zero (decide (k.mode = 2)))
    else k.emit (Exact.ofInt v e)
  | _, _ => ⟨canonNan k.code, 0⟩

/-- A value copied, rounded to the destination. -/
def emitVal (k : RoundCtl) : FVal → VRes
  | .nan _ => ⟨canonNan k.code, 0⟩
  | .inf n => k.inf n 0
  | .fin n m e => if m = 0 then k.zero n else k.emit ⟨n, m, e, false⟩

/-- a × b (+ c) with one rounding; a product alone keeps its own sign of zero. -/
def mulEmit (k : RoundCtl) (a b : FVal) : VRes :=
  match mulVal a b with
  | none => k.bad
  | some p => emitVal k p

/-- a × b + c with one rounding. -/
def fmaEmit (k : RoundCtl) (a b c : FVal) : VRes :=
  match mulVal a b with
  | none => k.bad
  | some p => sumVals k p c

/-- a / b (R169). -/
def divEmit (k : RoundCtl) : FVal → FVal → VRes
  | .inf _, .inf _ => k.bad
  | .inf n1, .fin n2 _ _ => k.inf (n1 != n2) 0
  | .fin n1 _ _, .inf n2 => k.zero (n1 != n2)
  | .fin n1 m1 e1, .fin n2 m2 e2 =>
    if m2 = 0 then (if m1 = 0 then k.bad else k.inf (n1 != n2) fDivZero)
    else if m1 = 0 then k.zero (n1 != n2)
    else k.emit (exactDiv (n1 != n2) m1 e1 m2 e2)
  | _, _ => ⟨canonNan k.code, 0⟩

/-- Is a below b in the order of R168: by value, with +0 above −0. -/
def valBelow : FVal → FVal → Bool
  | .inf n1, .inf n2 => n1 && !n2
  | .inf n1, _ => n1
  | _, .inf n2 => !n2
  | .fin n1 m1 e1, .fin n2 m2 e2 =>
    if m1 = 0 && m2 = 0 then n1 && !n2
    else decide ((dyadicAdd n1 m1 e1 (!n2) m2 e2).1 < 0)
  | _, _ => false

/-- IEEE 754-2019 maximum of two operands that are not NaN. -/
def maxVal (a b : FVal) : FVal := if valBelow a b then b else a
/-- IEEE 754-2019 minimum of two operands that are not NaN. -/
def minVal (a b : FVal) : FVal := if valBelow b a then b else a

/-- a × b less its nearest integer, ties to even (R168, R169). -/
def mulFrac (k : RoundCtl) (a b : FVal) : VRes :=
  match a, b with
  | .fin n1 m1 e1, .fin n2 m2 e2 =>
    let x : Exact := ⟨n1 != n2, m1 * m2, e1 + e2, false⟩
    if 0 ≤ x.exp then k.zero false
    else
      let (n, _) := roundMant x 0 0
      let v : Int := x.toIntAt x.exp - (if x.neg then -1 else 1) * ((n * 2 ^ (-x.exp).toNat : Nat) : Int)
      if v = 0 then k.zero false else k.emit (Exact.ofInt v x.exp)
  | _, _ => k.bad

/-- The one-operand functions, codes 0x0D and 0x10 to 0x19 (R168, R169). -/
def unaryFn (k : RoundCtl) (code : Nat) (a : FVal) : VRes :=
  match code, a with
  | 0x0D, .inf n => if n then k.bad else k.inf false 0
  | 0x0D, .fin n m e => if m = 0 then k.zero n else if n then k.bad else k.emit (exactSqrt m e)
  | 0x10, .inf n => if n then k.zero false else k.inf false 0
  | 0x10, .fin n m e => k.emit (exactExp2 n m e)
  | 0x11, .inf n => if n then k.bad else k.inf false 0
  | 0x11, .fin n m e =>
    if m = 0 then k.inf true fDivZero
    else if n then k.bad
    else
      let x := exactLog2 m e
      if x.mant = 0 && !x.sticky then k.zero false else k.emit x
  | 0x12, .inf n => k.zero n
  | 0x12, .fin n m e => if m = 0 then k.inf n fDivZero else k.emit (exactDiv n 1 0 m e)
  | 0x13, .inf n => if n then k.bad else k.zero false
  | 0x13, .fin n m e => if m = 0 then k.inf n fDivZero else if n then k.bad else k.emit (exactRsqrt m e)
  | 0x14, .inf _ => k.bad
  | 0x14, .fin n m e =>
    let x := exactTurn true n m e
    if x.mant = 0 then k.zero x.neg else k.emit x
  | 0x15, .inf _ => k.bad
  | 0x15, .fin n m e =>
    let x := exactTurn false n m e
    if x.mant = 0 then k.zero false else k.emit x
  | 0x16, .inf n => k.one n
  | 0x16, .fin n m e => if m = 0 then k.zero n else k.emit (exactTanh n m e)
  | 0x17, .inf n => if n then k.zero false else k.one false
  | 0x17, .fin n m e => k.emit (exactSigmoid n m e)
  | 0x18, .inf n => k.one n
  | 0x18, .fin n m e => if m = 0 then k.zero n else k.emit (exactErf n m e)
  | 0x19, .inf n => if n then k.zero true else k.inf false 0
  | 0x19, .fin n m e => if m = 0 then k.zero n else k.emit (exactSilu n m e)
  | _, _ => ⟨canonNan k.code, 0⟩

/-- The operands a function uses: A alone, A and B, A, B and C, or A, B and IMM (R168). -/
inductive Uses where
  | a | ab | abc | abImm
  deriving DecidableEq, Repr

/-- The function codes of R168, none for a code not listed. -/
def vewUses (code : Nat) : Option Uses :=
  match code with
  | 0x00 => some .ab | 0x01 => some .ab | 0x02 => some .ab | 0x03 => some .ab
  | 0x04 => some .abc | 0x05 => some .abc | 0x06 => some .abImm
  | 0x07 => some .ab | 0x08 => some .ab | 0x09 => some .a | 0x0A => some .a | 0x0B => some .a | 0x0C => some .ab
  | 0x0D => some .a | 0x10 => some .a | 0x11 => some .a | 0x12 => some .a | 0x13 => some .a | 0x14 => some .a
  | 0x15 => some .a | 0x16 => some .a | 0x17 => some .a | 0x18 => some .a | 0x19 => some .a
  | _ => none

/-- One element of a VEW descriptor (R168, R169): NaN operands give the canonical NaN, and INVALID when signalling. -/
def vewElem (k : RoundCtl) (code : Nat) (u : Uses) (a b c imm : FVal) : VRes :=
  let ops : List FVal := match u with
    | .a => [a] | .ab => [a, b] | .abc => [a, b, c] | .abImm => [a, b, imm]
  if ops.any FVal.isNan then ⟨canonNan k.code, if ops.any FVal.isSnan then fInvalid else 0⟩
  else match code with
    | 0x00 => sumVals k a b
    | 0x01 => sumVals k a b.negate
    | 0x02 => mulEmit k a b
    | 0x03 => divEmit k a b
    | 0x04 => fmaEmit k a b c
    | 0x05 => fmaEmit k a b c.negate
    | 0x06 => fmaEmit k a imm b
    | 0x07 => emitVal k (maxVal a b)
    | 0x08 => emitVal k (minVal a b)
    | 0x09 => emitVal k a.absVal
    | 0x0A => emitVal k a.negate
    | 0x0B => emitVal k a
    | 0x0C => mulFrac k a b
    | _ => unaryFn k code a

/-! ### Descriptor fields and checks -/

/-- SRC_FMT. -/
def Desc.vSrc (d : Desc) : Nat := d.f 0 19 16
/-- DST_FMT. -/
def Desc.vDst (d : Desc) : Nat := d.f 0 23 20
/-- FUNC bits [6:0]. -/
def Desc.vFunc (d : Desc) : Nat := d.f 0 30 24
/-- ROUND. -/
def Desc.vMode (d : Desc) : Nat := d.f 0 33 32
/-- Elements per row. -/
def Desc.vLen (d : Desc) : Nat := d.f 4 15 0 + 1
/-- Rows. -/
def Desc.vRows (d : Desc) : Nat := d.f 4 31 16 + 1
/-- IMM. -/
def Desc.vImm (d : Desc) : Nat := d.f 4 63 32
/-- Bytes of a row of n elements of a format (R164). -/
def vRowBytes (code n : Nat) : Nat := n * fmtBits code / 8

/-- The pairings of R163. -/
def vectorPair (op func src dst : Nat) : Bool :=
  let fl (x : Nat) : Bool := x = 7 || x = 8
  match op with
  | 0 => fl src && fl dst
  | 1 =>
    if fl src then dst ≠ src && (decide (dst ≤ 8) || dst = 11 || dst = 12)
    else (decide (src ≤ 4) || src = 5 || src = 6 || src = 11 || src = 12) && fl dst
  | 2 => if func = 4 then src = 10 && (fl dst || dst = 10) else fl src && (fl dst || (dst = 10 && decide (func ≤ 1)))
  | _ => src = dst && (decide (src ≤ 8) || src = 11 || src = 12)

/-- Bytes of a destination row: one value for VRED, the row otherwise. -/
def Desc.vDstBytes (d : Desc) : Nat := vRowBytes d.vDst (if d.op = 2 then 1 else d.vLen)

/-- The vector engine's checks in the order of R117. Word 5 [63:48], which the table of R110 calls reserved, is the C_PITCH that R687
gives it (DEDUCED, log entry 108). -/
def vectorCheck (c : CoreSt) (d : Desc) (sigCheck : Option MemFault) : Option MemFault :=
  let op := d.op
  let s := d.vSrc
  let t := d.vDst
  let n := d.vLen
  let all := 2 ^ 64 - 1
  let uses := vewUses d.vFunc
  let a := d.f 1 47 0
  let b := d.f 2 47 0
  let dd := d.f 3 47 0
  let cc := d.f 5 47 0
  let aux := d.f 6 47 0
  let usesB : Bool := op = 0 && (uses = some .ab || uses = some .abc || uses = some .abImm)
  let usesC : Bool := op = 0 && uses = some .abc
  let usesImm : Bool := op = 0 && uses = some .abImm
  let srcB := vRowBytes s n
  let opc := match op with
    | 0 => need uses.isSome 2
    | 1 => none
    | 2 => need (decide (d.f 0 31 24 ≤ 4)) 2
    | 3 => none
    | _ => need false 2
  let packOk : Bool := (n * fmtBits s) % 8 = 0 && (op = 2 || (n * fmtBits t) % 8 = 0)
  let immOk : Bool := match op with
    | 0 => usesImm || d.vImm = 0
    | 1 => d.vImm = 0 || (decide (d.vImm % 2 ^ 23 = 0) && decide (1 ≤ d.vImm / 2 ^ 23) && decide (d.vImm / 2 ^ 23 ≤ 254))
    | _ => true
  let cOk : Bool := match op with
    | 0 => (usesC || d.w5 = 0) && (cc ≠ 0 || d.f 5 63 48 = 0) && (usesB || b = 0)
    | 1 => if s ≤ 4 then d.f 5 63 48 = 0 else cc ≠ 0 || d.f 5 63 48 = 0
    | 3 => d.f 5 63 48 = 0 && a = 0
    | _ => cc ≠ 0 || d.f 5 63 48 = 0
  let dstStep := rowStep (d.f 3 63 48) d.vDstBytes
  let srcStep := rowStep (d.f 1 63 48) srcB
  let blockOk : Bool :=
    op ≠ 1 || ((decide (4 < t) || n % 32 = 0) && blockPlaced c t dd dstStep d.vRows && blockPlaced c s a srcStep d.vRows)
  let usesA : Bool := op ≠ 3
  let ranges := firstBad [need packOk 4, need immOk 4, need cOk 4, need blockOk 4,
    if usesA then shareRule c 1 false a else none, if usesB then shareRule c 1 false b else none,
    if usesC || op = 3 then shareRule c 1 false cc else none,
    if op = 3 && d.vImm ≠ 0 then shareRule c 1 false aux else none, shareRule c 1 true dd]
  let aSpan := spanOf d.vRows srcStep srcB
  let bStep := rowStep (d.f 2 63 48) srcB
  let bRow := if d.f 0 31 31 = 1 then fmtBits s / 8 else srcB
  let cStep := rowStep (d.f 5 63 48) srcB
  let scalesOf (code base span plane : Nat) : Nat × Nat :=
    (scalePlane code base plane, ceilDiv span (blockBytes code))
  let srcRules := match op with
    | 3 => [regionRule c .vectorSrc cc (4 * d.vRows),
        if d.vImm = 0 then none else regionRule c .vectorSrc aux (spanOf d.vImm srcStep srcB)]
    | _ => [regionRule c .vectorSrc a aSpan,
        if usesB then regionRule c .vectorSrc b (spanOf (if d.f 0 35 35 = 1 then 1 else d.vRows) bStep bRow) else none,
        if usesC then regionRule c .vectorSrc cc (spanOf d.vRows cStep srcB) else none,
        if op = 1 && decide (s ≤ 4) then
          (let p := scalesOf s a aSpan cc; regionRule c .vectorSrc p.1 p.2) else none]
  let dSpan := spanOf d.vRows dstStep d.vDstBytes
  let dstRules := [regionRule c .vectorDst dd dSpan,
    if op = 1 && decide (t ≤ 4) then (let p := scalesOf t dd dSpan aux; regionRule c .vectorDst p.1 p.2) else none]
  firstBad [need (d.engine = 1) 1, opc,
    need (reservedOk d 0x0000000FFFFFFFFF all all all all all all) 3,
    ranges, need (vectorPair op (d.f 0 31 24) s t) 5, sigCheck, firstBad srcRules, firstBad dstRules]
where
  /-- The scale byte address of an operand address in its plane (R107). -/
  scalePlane (code base plane : Nat) : Nat := plane + (base - c.baseOf base) / blockBytes code

/-! ### Execution -/

/-- The rounding control of a descriptor. -/
def Desc.vCtl (d : Desc) : RoundCtl := ⟨d.vDst, d.vMode, d.f 0 34 34 = 1⟩

/-- Flags ORed into CORE_VX_STAT (R185). -/
def Run.vxFlags (r : Run) (fl : Nat) : Run :=
  { r with c := r.c.setReg .CORE_VX_STAT 0 (r.c.reg .CORE_VX_STAT 0 ||| BitVec.ofNat 64 (fl % 128)) }

/-- The flags of several results together. -/
def orFlags (rs : List VRes) : Nat := rs.foldl (fun acc r => acc ||| r.flags) 0

/-- Rows processed in ascending order, each stopping at the first error (R180). -/
def eachRow (f : Run → Nat → Run) : Nat → Run → Nat → Run
  | 0, r, _ => r
  | n + 1, r, i => if r.fault.isSome then r else eachRow f n (f r i) (i + 1)

/-- One row of a VEW descriptor (R168, R180). -/
def vewRow (d : Desc) (code : Nat) (u : Uses) (r : Run) (i : Nat) : Run :=
  let s := d.vSrc
  let n := d.vLen
  let rb := vRowBytes s n
  let w := fmtBits s
  let usesB : Bool := u ≠ .a
  let scalarB : Bool := d.f 0 31 31 = 1
  let bi := if d.f 0 35 35 = 1 then 0 else i
  let (r, ab) := r.read (d.f 1 47 0 + i * rowStep (d.f 1 63 48) rb) rb
  let (r, bb) := if usesB then
      r.read (d.f 2 47 0 + bi * rowStep (d.f 2 63 48) rb) (if scalarB then w / 8 else rb) else (r, [])
  let (r, cb) := if u = .abc then r.read (d.f 5 47 0 + i * rowStep (d.f 5 63 48) rb) rb else (r, [])
  if r.fault.isSome then r
  else
    let as' := unpack w n ab
    let bs' := if usesB then (if scalarB then unpack w 1 bb else unpack w n bb) else []
    let cs' := if u = .abc then unpack w n cb else []
    let imm := f32Val d.vImm
    let outs := (as'.zipIdx).map (fun (p : Nat × Nat) =>
      vewElem d.vCtl code u (floatVal s p.1) (floatVal s (nthD bs' (if scalarB then 0 else p.2) 0))
        (floatVal s (nthD cs' p.2 0)) imm)
    let dw := fmtBits d.vDst
    (r.vxFlags (orFlags outs)).write
      (d.f 3 47 0 + i * rowStep (d.f 3 63 48) (vRowBytes d.vDst n)) (pack dw (outs.map (·.bits)))

/-- VEW (R168). -/
def vectorVew (r : Run) (d : Desc) : Run :=
  match vewUses d.vFunc with
  | none => r
  | some u => eachRow (vewRow d d.vFunc u) d.vRows r 0

/-- The exact value of a source element of VCVT (R171): none stands for an infinity or NaN as given
(DEDUCED, log entry 28). -/
def cvtSrc (code bits scale : Nat) : FVal :=
  match code with
  | 7 => floatVal 7 bits
  | 8 => floatVal 8 bits
  | 5 => ofInt (sext 8 bits) 0
  | 6 => ofInt (sext 4 bits) 0
  | 11 => ofInt (sext 32 bits) 0
  | 12 => ofInt (sext 16 bits) 0
  | _ =>
    if scale = 255 then .nan false
    else match mxInt code bits with
      | none => if code = 4 && bits % 4 = 0 then .inf (decide (bits ≥ 128)) else .nan false
      | some i => ofInt i ((mxParams code).2.2 + ((scale : Int) - 127))
where
  /-- An integer times a power of two. -/
  ofInt (i : Int) (e : Int) : FVal := .fin (decide (i < 0)) i.natAbs e

/-- A value scaled by the power of two of IMM; 0 stands for 1 (R171). -/
def immScale (imm : Nat) (v : FVal) : FVal :=
  if imm = 0 then v
  else match v with
    | .fin n m e => .fin n m (e + ((imm / 2 ^ 23 : Nat) : Int) - 127)
    | x => x

/-- The range of an integer destination code (R172). -/
def intRange (code : Nat) : Int × Int :=
  match code with
  | 6 => (-8, 7) | 5 => (-128, 127) | 12 => (-32768, 32767) | _ => (-2147483648, 2147483647)

/-- A value converted to an integer destination (R172). -/
def cvtInt (code mode : Nat) (v : FVal) : VRes :=
  let (lo, hi) := intRange code
  let w := fmtBits code
  match v with
  | .fin n m e =>
    let x := roundToInt ⟨n, m, e, false⟩ mode
    if x < lo then ⟨(lo % (2 ^ w : Nat)).toNat, fOverflow⟩
    else if x > hi then ⟨(hi % (2 ^ w : Nat)).toNat, fOverflow⟩
    else ⟨(x % (2 ^ w : Nat)).toNat, 0⟩
  | _ => ⟨0, fInvalid⟩

/-- ⌊log2⌋ of the largest magnitude of a block, none for all zero. -/
def blockLog (vs : List FVal) : Option Int :=
  vs.foldl (fun (acc : Option Int) v =>
    match v with
    | .fin _ m e =>
      if m = 0 then acc
      else match acc with
        | none => some ((floorLog2 m : Int) + e)
        | some x => some (max x ((floorLog2 m : Int) + e))
    | _ => acc) none

/-- emax_e of a block destination (R173). -/
def blockEmax (code : Nat) : Int := match code with | 0 => 2 | 1 => 2 | 2 => 4 | 3 => 8 | _ => 15

/-- One block of 32 elements converted: the scale byte, the elements and the flags (R173). -/
def cvtBlock (code mode : Nat) (sat : Bool) (vs : List FVal) : Nat × List Nat × Nat :=
  let bad := vs.any (fun v => match v with | .fin _ _ _ => false | _ => true)
  if bad then (255, vs.map (fun _ => 0), fInvalid)
  else
    let x : Int := match blockLog vs with
      | none => -127
      | some l => max (-127) (min 127 (l - blockEmax code))
    match dstFmt code with
    | none => (0, vs.map (fun _ => 0), 0)
    | some f =>
      let outs := vs.map (fun v => match v with
        | .fin n m e =>
          let (b, fl) := roundTo f mode sat ⟨n, m, e - x, false⟩
          (b, if fl.ovf then fOverflow else 0)
        | _ => (0, 0))
      ((x + 127).toNat, outs.map (·.1), outs.foldl (fun acc o => acc ||| o.2) 0)

/-- One row of VCVT (R171 to R173). -/
def cvtRow (d : Desc) (r : Run) (i : Nat) : Run :=
  let s := d.vSrc
  let t := d.vDst
  let n := d.vLen
  let rb := vRowBytes s n
  let ra := d.f 1 47 0 + i * rowStep (d.f 1 63 48) rb
  let (r, ab) := r.read ra rb
  let (r, sc) := if s ≤ 4 then
      r.read (d.f 5 47 0 + (ra - r.c.baseOf ra) / blockBytes s) (ceilDiv n 32) else (r, [])
  if r.fault.isSome then r
  else
    let vals := ((unpack (fmtBits s) n ab).zipIdx).map (fun (p : Nat × Nat) =>
      immScale d.vImm (cvtSrc s p.1 (nthD sc (p.2 / 32) 0).toNat))
    let rd := d.f 3 47 0 + i * rowStep (d.f 3 63 48) (vRowBytes t n)
    if t ≤ 4 then
      let bl := (chunks 32 vals).map (cvtBlock t d.vMode (d.f 0 34 34 = 1))
      let fl := bl.foldl (fun acc b => acc ||| b.2.2) 0
      let r := r.vxFlags fl
      let plane := d.f 6 47 0 + (rd - r.c.baseOf rd) / blockBytes t
      (r.write rd (pack (fmtBits t) (bl.map (fun b => b.2.1)).flatten)).write plane
        (bl.map (fun b => BitVec.ofNat 8 b.1))
    else
      let conv (v : FVal) : VRes :=
        if t = 7 || t = 8 then
          let o := emitVal d.vCtl v
          if v.isSnan then { o with flags := o.flags ||| fInvalid } else o
        else cvtInt t d.vMode v
      let outs := vals.map conv
      (r.vxFlags (orFlags outs)).write rd (pack (fmtBits t) (outs.map (·.bits)))

/-- VCVT (R171). -/
def vectorVcvt (r : Run) (d : Desc) : Run := eachRow (cvtRow d) d.vRows r 0

/-- The exact-sum unit of one row (R174). -/
structure SumSt where
  s      : Int := 0
  nan    : Bool := false
  pinf   : Bool := false
  ninf   : Bool := false
  unf    : Bool := false
  ovf    : Bool := false
  negZero : Bool := true
  terms  : Nat := 0
  snan   : Bool := false
  lost   : Bool := false
  deriving DecidableEq, Repr

/-- One element of SUM or SUMSQ (R175). -/
def sumElem (sq : Bool) (x : SumSt) (v : FVal) : SumSt :=
  let x := { x with terms := x.terms + 1 }
  match v with
  | .nan s => { x with nan := true, negZero := false, snan := x.snan || s }
  | .inf n => if sq || !n then { x with pinf := true, negZero := false } else { x with ninf := true, negZero := false }
  | .fin n m e =>
    let isNegZero : Bool := n && m = 0
    if sq then
      let k := 2 * e + 170
      let sqm := m * m
      let big : Bool := m ≠ 0 && decide ((floorLog2 sqm : Int) + 2 * e ≥ 130)
      let (t, dropped) : Nat × Bool :=
        if big then (2 ^ 300, false)
        else if 0 ≤ k then (sqm <<< k.toNat, false)
        else (sqm >>> (-k).toNat, decide (sqm % 2 ^ (-k).toNat ≠ 0))
      { x with s := x.s + t, unf := x.unf || dropped, lost := x.lost || dropped, negZero := x.negZero && isNegZero }
    else
      let t : Int := ((m <<< (e + 149).toNat : Nat) : Int)
      { x with s := x.s + (if n then -t else t), negZero := x.negZero && isNegZero }

/-- The row's sum left its window, or a partial's had (R176). -/
def SumSt.past (x : SumSt) : Bool := x.ovf || decide (x.s.natAbs ≥ 2 ^ 319)

/-- What the row itself records: a SUMSQ term that lost bits, a sum past its window and a signalling element
(R165, the bits of CORE_VX_STAT). A partial's UNF is passed on and is no term of this row (DEDUCED, log entry 27). -/
def SumSt.recorded (x : SumSt) : Nat :=
  (if x.lost then fSumUnf else 0) ||| (if x.past then fSumOvf else 0) ||| (if x.snan then fInvalid else 0)

/-- The row's rounded result (R176). -/
def sumResult (k : RoundCtl) (base : Int) (x : SumSt) : VRes :=
  let out : VRes :=
    if x.nan || (x.pinf && x.ninf) then
      ⟨canonNan k.code, if x.pinf && x.ninf then fInvalid else 0⟩
    else if x.pinf || x.ninf then k.inf x.ninf 0
    else if x.past then
      ⟨overflowBits k.fmt (decide (x.s < 0)) k.mode k.sat, fOverflow⟩
    else if x.s = 0 then k.zero (x.negZero || decide (k.mode = 2))
    else k.emit (Exact.ofInt x.s (-base))
  { out with flags := out.flags ||| x.recorded }

/-- The row's partial (R176). -/
def sumPartial (kind : Nat) (x : SumSt) : List Byte × Nat :=
  let fl := (if x.nan then 1 else 0) + (if x.pinf then 2 else 0) + (if x.ninf then 4 else 0) + (if x.unf then 8 else 0) +
    (if x.past then 16 else 0) + (if x.negZero then 32 else 0)
  (leBytes 40 (x.s % (2 ^ 320 : Nat)).toNat ++ [BitVec.ofNat 8 kind, BitVec.ofNat 8 fl, 0, 0] ++
    leBytes 4 (min x.terms 0xFFFFFFFF), x.recorded)

/-- One partial added by PSUM (R175, R177); none when its check fails. -/
def psumElem (acc : Option (SumSt × Nat)) (bytes : List Byte) : Option (SumSt × Nat) :=
  match acc with
  | none => none
  | some (x, kind) =>
    let k := (nthD bytes 40 0).toNat
    let fl := (nthD bytes 41 0).toNat
    if (k = 1 ∨ k = 2) ∧ (kind = 0 ∨ kind = k) ∧ fl < 64 ∧ nthD bytes 42 0 = 0 ∧ nthD bytes 43 0 = 0 then
      some ({ x with
        s := x.s + sext 320 (ofLe (bytes.take 40))
        nan := x.nan || fl.testBit 0, pinf := x.pinf || fl.testBit 1, ninf := x.ninf || fl.testBit 2
        unf := x.unf || fl.testBit 3, ovf := x.ovf || fl.testBit 4, negZero := x.negZero && fl.testBit 5
        terms := x.terms + ofLe (bytes.drop 44) }, k)
    else none

/-- The row maximum or minimum (R175). -/
def extremum (k : RoundCtl) (isMax : Bool) (vs : List FVal) : VRes :=
  if vs.any FVal.isNan then ⟨canonNan k.code, if vs.any FVal.isSnan then fInvalid else 0⟩
  else match vs with
    | [] => ⟨0, 0⟩
    | v :: rest => emitVal k (rest.foldl (if isMax then maxVal else minVal) v)

/-- One row of VRED (R175 to R177). -/
def redRow (d : Desc) (r : Run) (i : Nat) : Run :=
  let s := d.vSrc
  let n := d.vLen
  let func := d.f 0 31 24
  let rb := vRowBytes s n
  let (r, ab) := r.read (d.f 1 47 0 + i * rowStep (d.f 1 63 48) rb) rb
  let db := vRowBytes d.vDst 1
  let rd := d.f 3 47 0 + i * rowStep (d.f 3 63 48) db
  let put (r : Run) (o : VRes) : Run := (r.vxFlags o.flags).write rd (leBytes db o.bits)
  if r.fault.isSome then r
  else match func with
    | 2 => put r (extremum d.vCtl true ((unpack (fmtBits s) n ab).map (floatVal s)))
    | 3 => put r (extremum d.vCtl false ((unpack (fmtBits s) n ab).map (floatVal s)))
    | 4 =>
      match (chunks 48 ab).foldl psumElem (some ({}, 0)) with
      | none => { r with fault := some ⟨0x02, 4, 0⟩ }
      | some (x, kind) =>
        if d.vDst = 10 then
          let (b, fl) := sumPartial kind x
          (r.vxFlags fl).write rd b
        else put r (sumResult d.vCtl (if kind = 2 then 170 else 149) x)
    | _ =>
      let sq : Bool := func = 1
      let x := ((unpack (fmtBits s) n ab).map (floatVal s)).foldl (sumElem sq) {}
      if d.vDst = 10 then
        let (b, fl) := sumPartial (if sq then 2 else 1) x
        (r.vxFlags fl).write rd b
      else put r (sumResult d.vCtl (if sq then 170 else 149) x)

/-- VRED (R175). -/
def vectorVred (r : Run) (d : Desc) : Run := eachRow (redRow d) d.vRows r 0

/-- One row of VGATHER (R178): a row of the table, or zeros with GATHER_OOR. -/
def gatherRow (d : Desc) (r : Run) (i : Nat) : Run :=
  let rb := vRowBytes d.vSrc d.vLen
  let (r, ib) := r.read (d.f 5 47 0 + 4 * i) 4
  let idx := ofLe ib
  let rd := d.f 3 47 0 + i * rowStep (d.f 3 63 48) rb
  if r.fault.isSome then r
  else if idx ≥ d.vImm then (r.vxFlags fGatherOor).write rd (List.replicate rb 0)
  else
    let (r, row) := r.read (d.f 6 47 0 + idx * rowStep (d.f 1 63 48) rb) rb
    if r.fault.isSome then r else r.write rd row

/-- VGATHER (R178). -/
def vectorGather (r : Run) (d : Desc) : Run := eachRow (gatherRow d) d.vRows r 0

end Sys2Proof.Machine
end

