-- ==== Sys2Proof/Machine/IngestOps.lean ====
section
/-! DEFINITION. The ingest engine's operations (R231 to R262): manifests and their checks, conversion and relayout, piece images
and their digests, residency, adapter and prefix slots. -/
namespace Sys2Proof.Machine

/-! ### Manifests (R234 to R236) -/

/-- SHARD_ID. -/
def mfId (ws : List U64) : Nat := wf ws 0 31 0
/-- GEN. -/
def mfGen (ws : List U64) : Nat := wf ws 0 47 32
/-- HOME. -/
def mfHome (ws : List U64) : Nat := wf ws 0 50 48
/-- SOURCE: from the BAR2 staging area. -/
def mfStaged (ws : List U64) : Bool := wf ws 0 51 51 = 1
/-- STORED_LEN. -/
def mfStored (ws : List U64) : Nat := wf ws 1 39 0
/-- DECODED_LEN. -/
def mfDecoded (ws : List U64) : Nat := wf ws 2 39 0
/-- SRC_FMT. -/
def mfSrc (ws : List U64) : Nat := wf ws 2 43 40
/-- DST_FMT. -/
def mfDst (ws : List U64) : Nat := wf ws 2 47 44
/-- LAYOUT. -/
def mfLayout (ws : List U64) : Nat := wf ws 2 49 48
/-- K_TOTAL. -/
def mfK (ws : List U64) : Nat := wf ws 3 23 0
/-- Tile depth KT. -/
def mfKt (ws : List U64) : Nat := 32 * (wf ws 3 35 24 + 1)
/-- Tile width NT. -/
def mfNt (ws : List U64) : Nat := 16 * (wf ws 3 47 36 + 1)
/-- HOME_ADDR. -/
def mfAddr (ws : List U64) : Nat := wf ws 6 39 0
/-- OBJ_ID. -/
def mfObj (ws : List U64) : Nat := wf ws 7 31 0
/-- OBJ_VERSION. -/
def mfVersion (ws : List U64) : Nat := wf ws 7 47 32
/-- OBJ_SIZE. -/
def mfSize (ws : List U64) : Nat := wf ws 7 60 48
/-- Does the manifest load a prefix. -/
def mfPrefix (ws : List U64) : Bool := mfHome ws = 3 || mfHome ws = 4
/-- Does the manifest have crystal homes. -/
def mfCrystal (ws : List U64) : Bool := mfHome ws = 0 || mfHome ws = 4
/-- A digest of the manifest: STORED_DIGEST at word 8, RESIDENT_DIGEST at word 12. -/
def mfDigest (ws : List U64) (at' : Nat) : List Byte := (rangeFrom at' 4).flatMap (fun i => leBytes 8 (wordAt ws i).toNat)

/-- The 16 words of a 128-byte block of host memory. -/
def wordsOf (b : List Byte) : List U64 := (chunks 8 b).map (fun c => BitVec.ofNat 64 (ofLe c))

/-- Whole decoded elements (R245): for SRC_FMT 0 to 4 those of whole blocks, each with its scale byte. Bytes that make no whole element
are read as none (DESIGN CHOICE, log entry 138). -/
def mfElems (ws : List U64) : Nat :=
  let s := mfSrc ws
  let len := mfDecoded ws
  if s ≤ 4 then 32 * (len / (blockBytes s + 1)) else if fmtBits s = 0 then 0 else len * 8 / fmtBits s

/-- Does DECODED_LEN hold whole elements only. -/
def mfWhole (ws : List U64) : Bool :=
  let s := mfSrc ws
  if s ≤ 4 then mfDecoded ws % (blockBytes s + 1) = 0 else mfDecoded ws * 8 % max 1 (fmtBits s) = 0

/-- A pairing the conversion table lists (R245). -/
def pairListed (s d : Nat) : Bool :=
  ((s = 7 || s = 8) && decide (d ≤ 4)) || (s = 8 && d = 7) || (s = d && fmtBits s ≠ 0)

/-- Units of a shard (R235): tiles for layout 1, 4 KiB pages of the decoded form for layout 0. -/
def mfUnits (ws : List U64) : Nat :=
  if mfLayout ws = 1 then mfElems ws / (mfKt ws * mfNt ws) else ceilDiv (mfDecoded ws) 4096

/-- Elements of the units before unit u (R235, R246): whole tiles, or the elements that begin before its page of the decoded form, whose
scale bytes follow its elements (DEDUCED, log entry 120). -/
def elemsBefore (ws : List U64) (u : Nat) : Nat :=
  min (mfElems ws) (if mfLayout ws = 1 then u * (mfKt ws * mfNt ws) else ceilDiv (u * 32768) (max 1 (fmtBits (mfSrc ws))))

/-- Bytes of an image of n elements: its data and, for codes 0 to 4, its scales from the next page boundary (R247). -/
def imageSize (dst n : Nat) : Nat :=
  let data := n * fmtBits dst / 8
  if dst ≤ 4 then (data + 4095) / 4096 * 4096 + ceilDiv n 32 else data

/-- A whole number of 4 KiB pages. -/
def pages (n : Nat) : Nat := (n + 4095) / 4096 * 4096

/-- A placement record's fields (R235): core, residency index, first unit, units. -/
def placeOf (w : U64) : Nat × Nat × Nat × Nat := (bitsOf w 7 0, bitsOf w 19 8, bitsOf w 39 20, bitsOf w 59 40)

/-- Elements that `count` units from unit `first` hold (R246). -/
def unitElems (ws : List U64) (first count : Nat) : Nat := elemsBefore ws (first + count) - elemsBefore ws first

/-- Bytes the resident form or backing copy takes at HOME_ADDR (R247). -/
def homeSize (ws : List U64) (places : List U64) : Nat :=
  if mfCrystal ws then
    places.foldl (fun n w => let p := placeOf w; n + pages (imageSize (mfDst ws) (unitElems ws p.2.2.1 p.2.2.2))) 0
  else imageSize (mfDst ws) (mfElems ws)

/-- The fields a manifest must hold, status 0x04 (R231, R234, R236): what the rule lists, and 0 in OBJ_ID, R_KEY and PLACE_COUNT where the
layout says they are 0 (DEDUCED, log entry 121). -/
def manifestOk (ws : List U64) : Bool :=
  let lenOk := fun (n : Nat) => decide (1 ≤ n ∧ n ≤ 2 ^ 32)
  let home := mfHome ws
  let reserved : Bool := wf ws 1 63 40 = 0 && wf ws 2 63 50 = 0 && wf ws 3 63 48 = 0 && wf ws 6 63 40 = 0 && wf ws 7 63 61 = 0
  decide (ws.length = 16) && wf ws 0 63 56 = 1 && reserved && decide (home ≤ 4) && decide (mfLayout ws ≤ 1) &&
  lenOk (mfStored ws) && lenOk (mfDecoded ws) && pairListed (mfSrc ws) (mfDst ws) &&
  (mfLayout ws = 0 || (mfWhole ws && mfK ws % mfKt ws = 0 && mfElems ws % (mfK ws * mfNt ws) = 0)) &&
  (!mfStaged ws || wf ws 5 31 0 = 0) && (mfCrystal ws || wf ws 5 63 48 = 0) &&
  (match home with
   | 0 => mfObj ws = 0 | 1 => mfObj ws = 0
   | 2 => decide (1 ≤ mfSize ws ∧ mfSize ws ≤ 256)
   | _ => decide (1 ≤ mfSize ws ∧ mfSize ws ≤ 4096))

/-- The placements a manifest names, from the quadrant's plan image (R234). -/
def State.mfPlaces (s : State) (q : Nat) (ws : List U64) : Option (List U64) :=
  let n := wf ws 5 63 48
  let f := wf ws 5 47 32
  if !mfCrystal ws then some []
  else match (s.quad q).plan with
    | some p => if f + n ≤ p.places.length ∧ 0 < n then some ((p.places.drop f).take n) else none
    | none => none

/-- Is a placement legal, status 0x05 (R235, R236): its core of the quadrant with a crystal region of that index, large
enough. -/
def State.placeOk (s : State) (q : Nat) (ws : List U64) (w : U64) : Bool :=
  let (v, idx, first, count) := placeOf w
  decide (v / 64 = q) && bitsOf w 63 60 = 0 && decide (first + count ≤ mfUnits ws) &&
  match s.vcore v with
  | none => false
  | some c => match c.crystalAt idx with
    | none => false
    | some i => decide (imageSize (mfDst ws) (unitElems ws first count) ≤ c.regLen i)

/-- Placements list the units in ascending order and cover each once (R235). -/
def coverAll (units : Nat) : Nat → List U64 → Bool
  | n, [] => n = units
  | n, w :: ws => let p := placeOf w; p.2.2.1 = n && coverAll units (n + p.2.2.2) ws

/-- Does a range lie wholly inside a window. -/
def State.insideWindow (s : State) (r : Reg) (q a n : Nat) : Bool :=
  let base := s.fld r q 15 0 * 2 ^ 20
  decide (base ≤ a ∧ a + n ≤ base + s.fld r q 31 16 * 2 ^ 20)

/-- Is HOME_ADDR legal, status 0x06 (R236). -/
def State.homeOk (s : State) (q : Nat) (ws : List U64) (places : List U64) : Bool :=
  let a := mfAddr ws
  let n := homeSize ws places
  let x := s.quad q
  a % 4096 = 0 && decide (a + n ≤ 0x600000000) &&
  x.shards.all (fun r => !overlaps a n (mfAddr r.words) (max 1 r.bytes)) &&
  (if mfCrystal ws then !s.insideWindow .QD_HBM_RD_WIN q a n && !s.insideWindow .QD_HBM_WR_WIN q a n
   else s.insideWindow .QD_HBM_RD_WIN q a n)

/-! ### Conversion, relayout and images (R245 to R248) -/

/-- Elements and their E8M0 scales, one for each block of 32; none when an element is not finite or a scale is 0xFF (R245). -/
def convertAll (s d : Nat) (dec : List Byte) (n : Nat) : Option (List Nat × List Nat) :=
  let raw := unpack (fmtBits s) n dec
  let vals := if s = 7 ∨ s = 8 then raw.map (floatVal s) else []
  let finite := vals.all (fun v => match v with | .fin _ _ _ => true | _ => false)
  if !finite then none
  else if s = d then some (raw, if s ≤ 4 then (dec.drop (n * fmtBits s / 8)).map (·.toNat) else [])
  else if d ≤ 4 then
    let bl := (chunks 32 vals).map (cvtBlock d 0 true)
    if bl.any (fun b => b.1 = 255) then none else some ((bl.map (fun b => b.2.1)).flatten, bl.map (·.1))
  else some (vals.map (fun v => (emitVal ⟨7, 0, true⟩ v).bits), [])

/-- Element number n of the units in order, in the source order (R246). -/
def sourceIndex (ws : List U64) (n : Nat) : Nat :=
  if mfLayout ws = 1 then
    let kt := mfKt ws
    let per := mfK ws / kt
    let u := n / (kt * mfNt ws)
    let i := n % (kt * mfNt ws)
    (u / per * mfNt ws + i / kt) * mfK ws + u % per * kt + i % kt
  else n

/-- Data and scales of `count` units from unit `first` (R246, R247). -/
def pieceOf (ws : List U64) (conv : List Nat × List Nat) (first count : Nat) : List Byte × List Byte :=
  let n := unitElems ws first count
  let idx := (List.range n).map (fun i => sourceIndex ws (elemsBefore ws first + i))
  let d := mfDst ws
  (pack (fmtBits d) (idx.map (fun k => conv.1.getD k 0)),
   if d ≤ 4 then ((List.range (ceilDiv n 32)).map (fun b => BitVec.ofNat 8 (conv.2.getD ((idx.getD (32 * b) 0) / 32) 0))) else [])

/-- A piece image (R247): its data, then from the next 4 KiB boundary its scales. -/
def imageOf (p : List Byte × List Byte) : List Byte :=
  if p.2.isEmpty then p.1 else p.1 ++ List.replicate (pages p.1.length - p.1.length) 0 ++ p.2

/-- A byte string padded to whole pages. -/
def padPages (b : List Byte) : List Byte := b ++ List.replicate (pages b.length - b.length) 0

/-- The pieces of a shard: for a single image, one piece of all units (R247). -/
def shardPieces (ws : List U64) (places : List U64) (conv : List Nat × List Nat) : List (List Byte × List Byte) :=
  if mfCrystal ws then places.map (fun w => let p := placeOf w; pieceOf ws conv p.2.2.1 p.2.2.2)
  else [pieceOf ws conv 0 (mfUnits ws)]

/-- What lies at HOME_ADDR (R247). -/
def homeImage (ws : List U64) (ps : List (List Byte × List Byte)) : List Byte :=
  if mfCrystal ws then ps.flatMap (fun p => padPages (imageOf p)) else ps.flatMap imageOf

/-- The residency record of a shard's pieces (R248, R249): core, residency index, data bytes, scale bytes, digest. -/
def recordPieces (ws : List U64) (places : List U64) (ps : List (List Byte × List Byte)) :
    List (Nat × Nat × Nat × Nat × List Byte) :=
  ps.zipIdx.map (fun x =>
    let pl := placeOf (places.getD x.2 0)
    let c := if mfCrystal ws then pl.1 else 0
    (c, pl.2.1, x.1.1.length, x.1.2.length, sha256 (x.1.1 ++ x.1.2)))

/-! ### Adapter and prefix slots (R254 to R259) -/

/-- The slot register of adapters or prefixes, and the id register. -/
def slotReg (pfx : Bool) : Reg := if pfx then .HUB_PREFIX_SLOT else .HUB_ADAPTER_SLOT
/-- The id register. -/
def idReg (pfx : Bool) : Reg := if pfx then .HUB_PREFIX_ID else .HUB_ADAPTER_ID

/-- First slot and count of a quadrant's range in ING_SLOT_RANGE (R267). -/
def State.slotRange (s : State) (q : Nat) (pfx : Bool) : Nat × Nat :=
  if pfx then (s.fld .ING_SLOT_RANGE q 34 25, s.fld .ING_SLOT_RANGE q 45 35)
  else (s.fld .ING_SLOT_RANGE q 11 0, s.fld .ING_SLOT_RANGE q 24 12)

/-- The slots a quadrant owns: its range but for slots a lower-numbered quadrant names (R254). -/
def State.ownSlots (s : State) (q : Nat) (pfx : Bool) : List Nat :=
  let (f, n) := s.slotRange q pfx
  (rangeFrom f n).filter (fun k => decide (k < if pfx then 1024 else 4096) &&
    (List.range q).all (fun j => let (g, m) := s.slotRange j pfx; !decide (g ≤ k ∧ k < g + m)))

/-- STATE of a slot: 0 FREE, 1 LOADING, 2 LIVE, 3 RETIRING. -/
def State.slotState (s : State) (pfx : Bool) (k : Nat) : Nat := s.fld (slotReg pfx) k 17 16
/-- VERSION of a slot. -/
def State.slotVersion (s : State) (pfx : Bool) (k : Nat) : Nat := s.fld (slotReg pfx) k 15 0
/-- The id a slot holds. -/
def State.slotId (s : State) (pfx : Bool) (k : Nat) : Nat := s.fld (idReg pfx) k 31 0
/-- REFS of a slot. -/
def State.slotRefs (s : State) (pfx : Bool) (k : Nat) : Nat := s.fld (slotReg pfx) k 47 32
/-- STATE of a slot replaced. -/
def State.setSlotState (s : State) (pfx : Bool) (k st : Nat) : State := s.setFld (slotReg pfx) k 17 16 st

/-- Slots of a quadrant that hold an id. -/
def State.slotsOf (s : State) (q : Nat) (pfx : Bool) (id : Nat) : List Nat :=
  (s.ownSlots q pfx).filter (fun k => s.slotState pfx k ≠ 0 && s.slotId pfx k = id)

/-- A slot freed: its registers as at reset. -/
def State.freeSlot (s : State) (pfx : Bool) (k : Nat) : State :=
  (s.setReg (slotReg pfx) k 0).setReg (idReg pfx) k 0

/-- A slot that becomes LOADING (R255, R266). -/
def State.takeSlot (s : State) (q : Nat) (pfx : Bool) (k id version size : Nat) : State :=
  (s.setReg (slotReg pfx) k (BitVec.ofNat 64 (version + 65536 + q * 2 ^ 18 + (size - 1) % 4096 * 2 ^ 20))).setReg (idReg pfx) k
    (BitVec.ofNat 64 id)

/-- The slot a load takes, or the status that refuses it (R255): 0x09, 0x0A, 0x08. -/
def State.slotForLoad (s : State) (q : Nat) (pfx : Bool) (id version : Nat) : Nat ⊕ Nat :=
  let held := s.slotsOf q pfx id
  if version = 0 ∨ held.any (fun k => s.slotVersion pfx k = version) then .inr 0x09
  else if held.any (fun k => s.slotState pfx k = 1) then .inr 0x0A
  else match (s.ownSlots q pfx).find? (fun k => s.slotState pfx k = 0) with
    | some k => .inl k
    | none => .inr 0x08

/-- Kind-6 and kind-7 ARG0 (R527). -/
def loadArg (id gen slot : Nat) (retiredPfx : Bool) : Nat :=
  id + gen * 2 ^ 32 + slot * 2 ^ 48 + (if retiredPfx then 2 ^ 60 else 0)

/-- A slot begins to retire for a command that holds a place for its completion (R255, R521). -/
def State.retireSlot (s : State) (q : Nat) (pfx : Bool) (k cid tag : Nat) : State :=
  (s.setSlotState pfx k 3).modQuad q (fun x => { x with retired := x.retired ++ [(k, cid, tag, pfx)] })

/-- RETIRING slots whose reference count is 0 become FREE, each with its completion (R255); a command a quadrant reset has lost
(R535) has none. -/
def State.sweepRetired (s : State) (q : Nat) : State :=
  s.each (s.quad q).retired (fun s r =>
    let (k, cid, tag, pfx) := r
    if s.slotRefs pfx k = 0 ∧ s.slotState pfx k = 3 then
      let arg := loadArg (s.slotId pfx k) (s.slotVersion pfx k) k pfx
      let s := s.modQuad q (fun x => { x with
        retired := x.retired.filter (fun y => !(y.1 = k && y.2.2.2 = pfx))
        shards := x.shards.filter (fun y => !(y.slot = some k && mfPrefix y.words = pfx && mfHome y.words ≥ 2)) })
      if cid = 0xFFFF then s.freeSlot pfx k else (s.freeSlot pfx k).answer q 7 0 cid tag arg 0
    else s)

/-! ### Storage reads (R237, R238, R267) -/

/-- The port a load uses first, by PORT_USE and PORT_PREF (R263, R267). -/
def State.loadPort (s : State) (q target : Nat) : Nat :=
  match s.fld .ING_CTRL q 3 2 with
  | 1 => 0
  | 2 => 1
  | _ => let pref := s.fld .ING_TARGET_CFG target 26 25; if pref = 0 ∨ pref = 2 then 0 else 1

/-- May the queue pair move to the other port (R238, R263, R267). -/
def State.otherPort (s : State) (q : Nat) (pair : QueuePair) : Bool :=
  s.fld .ING_CTRL q 3 2 % 3 = 0 && decide (bitsOf pair.cfg 26 25 < 2)

/-- A queue pair opened to a target with the settings of now (R267). -/
def State.openPair (s : State) (target : Nat) : QueuePair :=
  { addr := ((s.reg .ING_TARGET_ADDR (2 * target)).toNat, (s.reg .ING_TARGET_ADDR (2 * target + 1)).toNat), cfg := s.reg .ING_TARGET_CFG target }

/-- An RDMA READ sent on a port (R237, R267). -/
def State.sendRead (s : State) (port target : Nat) (pair : QueuePair) (rkey addr len : Nat) : State :=
  s.send (.storage
    { port := port, target := target, dest := pair.addr, ipv6 := bitAt pair.cfg 24, qpn := bitsOf pair.cfg 23 0, mac := s.fld .ING_PORT_MAC port 47 0
      src := ((s.reg .ING_PORT_IP (2 * port)).toNat, (s.reg .ING_PORT_IP (2 * port + 1)).toNat), vlan := (s.reg .ING_PORT_VLAN port).toNat
      rkey := rkey, addr := addr, len := len })

/-- A READ of a load's stored form from a byte offset. -/
def State.readStored (s : State) (l : LoadSt) (off len : Nat) : State :=
  s.sendRead l.port (wf l.words 0 55 52) l.pair (wf l.words 5 31 0) ((wordAt l.words 4).toNat + off) len

/-- READs issued while the limit allows, each of at most 1 MiB (R237, R238), and no reset of the port waits (R554), by fuel: the
limit. -/
def State.issueReads (s : State) (q : Nat) : Nat → State
  | 0 => s
  | n + 1 =>
    match (s.quad q).load with
    | none => s
    | some l =>
      if mfStaged l.words ∨ l.asked ≥ mfStored l.words ∨ l.outst.length ≥ l.limit ∨ s.keeper.block = some (2, l.port) then s
      else
        let len := min (2 ^ 20) (mfStored l.words - l.asked)
        let l' := { l with asked := l.asked + len, outst := l.outst ++ [(l.asked, len, 0)] }
        ((s.modQuad q (fun x => { x with load := some l' })).readStored l l.asked len).issueReads q n

/-- Is a storage target usable (R267). -/
def State.targetValid (s : State) (t : Nat) : Bool := s.bit .ING_TARGET_CFG t 27

/-- Staging area of a quadrant: base and size in bytes (R239, R267). -/
def State.staging (s : State) (q : Nat) : Nat × Nat := (s.fld .ING_STAGE q 15 0 * 2 ^ 20, s.fld .ING_STAGE q 31 16 * 2 ^ 20)

/-! ### Refetches (R251) -/

/-- The residency record of a shard. -/
def sameShard (a b : List U64) : Bool := mfId a = mfId b && mfGen a = mfGen b && mfAddr a = mfAddr b

/-- A refetch of a live shard begins, or waits for the ingest engine (R251) (DEDUCED, log entry 85). -/
def State.beginRefetch (s : State) (q : Nat) (ws : List U64) : State :=
  match (s.quad q).load with
  | some l =>
    if (l.refetch && sameShard l.words ws) || (s.quad q).refetch.any (sameShard ws) then s
    else s.modQuad q (fun x => { x with refetch := x.refetch ++ [ws] })
  | none =>
    let t := wf ws 0 55 52
    let l : LoadSt :=
      { words := ws, places := (s.mfPlaces q ws).getD [], cid := 0, tag := 0, refetch := true, port := s.loadPort q t, pair := s.openPair t }
    ((s.modQuad q (fun x => { x with load := some l })).setBit .ING_STAT q 0 true).issueReads q 16

/-- The ingest engine is free: a refetch that waits begins (R251). -/
def State.ingestFree (s : State) (q : Nat) : State :=
  let s := ((s.modQuad q (fun x => { x with load := none })).setBit .ING_STAT q 0 false).setBit .ING_STAT q 1 false
  match (s.quad q).refetch with
  | [] => s
  | ws :: rest => (s.modQuad q (fun x => { x with refetch := rest })).beginRefetch q ws

/-- A shard's record damaged (R251): new bindings are refused, and the quadrant's sequences are lost (R497). -/
def State.damage (s : State) (q : Nat) (ws : List U64) (lose : Bool) : State :=
  let s := s.modQuad q (fun x => { x with
    shards := x.shards.map (fun r => if sameShard r.words ws then { r with bad := true } else r) })
  if lose then s.each (List.range 128) (fun s n => s.loseSlot q n) else s

/-! ### Loads -/

/-- The slot of a load that failed (R255): FREE at the next launch, or at once when no plan runs. -/
def State.dropSlot (s : State) (q : Nat) (pfx : Bool) (k : Nat) : State :=
  if s.runs q then s.modQuad q (fun x => { x with failed := x.failed ++ [(k, pfx)] }) else s.freeSlot pfx k

/-- A load ends with a status other than 0x00 (R255, R262, R521): its slot FREE at the next launch, its places given back, BUSY cleared. A
refetch that fails leaves its record damaged (DEDUCED, log entry 85). -/
def State.endLoad (s : State) (q : Nat) (l : LoadSt) (status off : Nat) : State :=
  let s := match l.slot with | some k => if l.refetch then s else s.dropSlot q (mfPrefix l.words) k | none => s
  let s := if status = 1 ∨ status = 0x0C then s.bump .ING_STAT q 47 32 1 else s
  let id := if mfHome l.words ≥ 2 then mfObj l.words else mfId l.words
  let gen := if mfHome l.words ≥ 2 then mfVersion l.words else mfGen l.words
  let s := if l.refetch then s.damage q l.words false
    else (s.unreserve q 1).answer q 6 status l.cid l.tag (loadArg id gen (l.slot.getD 0) false) off
  s.ingestFree q

/-- A loaded record becomes live at a launch, or at once when no plan runs (R232, R255): status 0x00, the previous LIVE
version RETIRING. -/
def State.goLive (s : State) (q : Nat) : State :=
  match (s.quad q).load with
  | none => s
  | some l =>
    match l.ready with
    | none => s
    | some r =>
      let s := s.modQuad q (fun x => { x with shards := x.shards ++ [{ r with live := true, checked := s.now }] })
      let s := s.bump .ING_STAT q 31 16 1
      let pfx := mfPrefix l.words
      let obj : Bool := decide (mfHome l.words ≥ 2)
      let id := if obj then mfObj l.words else mfId l.words
      let gen := if obj then mfVersion l.words else mfGen l.words
      let old := if obj then (s.slotsOf q pfx id).find? (fun k => s.slotState pfx k = 2) else none
      let s := match l.slot with | some k => s.setSlotState pfx k 2 | none => s
      let s := s.answer q 6 0 l.cid l.tag (loadArg id gen (l.slot.getD 0) false) 0
      let s := match old with
        | some k => s.retireSlot q pfx k l.cid l.tag
        | none => s.unreserve q 1
      let s := s.ingestFree q
      -- with no plan running the loader applies the CRYSTAL records again at once (R642), and a version no sequence holds is FREE
      if s.runs q then s else (s.rebase q).sweepRetired q

/-- The slots of failed loads FREE at a launch (R255). -/
def State.sweepFailed (s : State) (q : Nat) : State :=
  (s.each (s.quad q).failed (fun s f => if s.slotState f.2 f.1 = 1 then s.freeSlot f.2 f.1 else s)).modQuad q (fun x => { x with failed := [] })

/-- A LOAD begins (R231, R232, R236, R239, R255), or ends at once with its status. -/
def State.beginLoad (s : State) (q cid tag : Nat) (ws : List U64) : State :=
  let l : LoadSt := { words := ws, places := [], cid := cid, tag := tag }
  let pfx := mfPrefix ws
  if !manifestOk ws then s.endLoad q l 0x04 0
  else match s.mfPlaces q ws with
    | none => s.endLoad q l 0x05 0
    | some places =>
      if !(places.all (s.placeOk q ws)) ∨ (mfCrystal ws ∧ !coverAll (mfUnits ws) 0 places) then s.endLoad q l 0x05 0
      else if !s.homeOk q ws places then s.endLoad q l 0x06 0
      else if mfStaged ws ∧ (s.staging q).2 < (wordAt ws 4).toNat + mfStored ws then s.endLoad q l 0x0B 0
      else
        let slot := if mfHome ws < 2 then .inl 0 else s.slotForLoad q pfx (mfObj ws) (mfVersion ws)
        match slot with
        | .inr st => s.endLoad q l st 0
        | .inl k =>
          let obj : Bool := decide (mfHome ws ≥ 2)
          let s := if obj then s.takeSlot q pfx k (mfObj ws) (mfVersion ws) (mfSize ws) else s
          let t := wf ws 0 55 52
          let l := { l with places := places, slot := if obj then some k else none, port := s.loadPort q t, pair := s.openPair t }
          let s := (s.modQuad q (fun x => { x with load := some l })).setBit .ING_STAT q 0 true
          if mfStaged ws then s.setBit .ING_STAT q 1 true
          else if s.targetValid t && !s.power.lost.contains 38 then s.issueReads q 16
          else s.endLoad q l 0x07 0

/-- A piece image written into its crystal region with the crystal code (R232, R682). -/
def State.writePiece (s : State) (v idx : Nat) (image : List Byte) : State :=
  match s.phys v with
  | none => s
  | some p => s.modCore p (fun c => match c.crystalAt idx with
    | none => c
    | some i =>
      let img := image ++ List.replicate ((64 - image.length % 64) % 64) 0
      let base := c.regBase i
      let c := c.hwWrite s.now base img
      let n := img.length / 64
      { c with wbq := c.wbq.filter (fun u => !decide (base / 64 ≤ u ∧ u < base / 64 + n)) })

/-- A refetch passed (R251): the record is good again, and its crystal pieces wait for re-crystallisation. -/
def State.refetched (s : State) (q : Nat) (ws : List U64) : State :=
  (s.modQuad q (fun x => { x with
    shards := x.shards.map (fun r => if sameShard r.words ws then { r with bad := false } else r) })).ingestFree q

/-- The byte offset of piece i in what lies at HOME_ADDR, from the pieces' data and scale bytes (R247). -/
def pieceAt : Nat → List (Nat × Nat) → Nat
  | 0, _ => 0
  | _ + 1, [] => 0
  | n + 1, (d, sc) :: ps => pages (if sc = 0 then d else pages d + sc) + pieceAt n ps

/-- HOME read back piece by piece (R232): the data and scale bytes that HBM holds, with words found uncorrectable reported. -/
def State.readHome (s : State) (q base : Nat) (sizes : List (Nat × Nat)) : List (List Byte × List Byte) :=
  sizes.zipIdx.map (fun x =>
    let a := base + pieceAt x.2 sizes
    (s.hbmRead q a x.1.1, if x.1.2 = 0 then [] else s.hbmRead q (a + pages x.1.1) x.1.2))

/-- The end of a load's stream (R232), `bad` the words of HOME found uncorrectable: the form decoded, converted and written to HOME as
it came, the stored digest compared, HOME read back and its digests taken, piece images copied; the record is ready for the next launch.
A form whose decoding or conversion fails writes nothing, and HOME that cannot be read back ends with 0x0C (DESIGN CHOICE, log entry
119). -/
def State.finishStream (s : State) (q : Nat) (l : LoadSt) (stored : List Byte) (bad : List Nat) : State :=
  let ws := l.words
  match decodeStored (mfDecoded ws) stored with
  | .bad off => s.endLoad q l 0x02 off
  | .ok dec =>
    match convertAll (mfSrc ws) (mfDst ws) dec (mfElems ws) with
    | none => s.endLoad q l 0x03 0
    | some conv =>
      let ps := shardPieces ws l.places conv
      let img := homeImage ws ps
      let s := s.hbmWrite q (mfAddr ws) img
      if sha256 stored ≠ mfDigest ws 8 then s.endLoad q l 0x01 0
      else
        let s := (s.noteBadWords q bad).hbmTraffic q (mfAddr ws) img.length
        let ps := s.readHome q (mfAddr ws) (ps.map (fun p => (p.1.length, p.2.length)))
        let want := mfDigest ws 12
        if !((s.quad q).badWords (mfAddr ws) img.length).isEmpty ∨
            (want.any (· ≠ 0) ∧ sha256 (ps.flatMap (fun p => p.1 ++ p.2)) ≠ want) then s.endLoad q l 0x0C 0
        else if l.refetch then s.refetched q ws
        else
          let s := if mfCrystal ws then
              s.each (l.places.zip ps) (fun s x => let pl := placeOf x.1; s.writePiece pl.1 pl.2.1 (imageOf x.2))
            else s
          let r : ShardRec := { words := ws, pieces := recordPieces ws l.places ps, slot := l.slot,
                                bytes := homeSize ws l.places }
          let s := s.modQuad q (fun x => { x with load := some { l with stored := [], ready := some r } })
          if s.runs q then s else s.goLive q

end Sys2Proof.Machine
end

