-- ==== Sys2Proof/Machine/Ingest.lean ====
section
/-! DEFINITION. The ingest commands (R231 to R262): loads and their storage reads, the BAR2 staging window, unload, retire,
digest rechecks and re-crystallisation. -/
namespace Sys2Proof.Machine

/-- The places of a command applied on its own (R521): without room it waits, CQ_HELD reads 1. -/
def State.withPlaces (s : State) (f : Nat) (ws : List U64) (go : State → State) : State :=
  if (s.func f).placesFree < placesOf ws then s.setBit .HIF_STAT f 4 true else go (s.reserve f (placesOf ws))

/-- A command refused (R528): both places of a LOAD or RETIRE released with its completion. -/
def State.refuse (s : State) (f kind status : Nat) (ws : List U64) (a0 : Nat := 0) : State :=
  (s.unreserve f (placesOf ws - 1)).answer f kind status (cmdCid ws) (cmdTag ws) a0 0

/-- The checks of every command (R522, R528): bits [15:8] of word 0 and the bits no operand uses 0, CID below 0x8000. -/
def cmdOk (ws : List U64) (masks : List Nat) : Bool :=
  wf ws 0 15 8 = 0 && decide (cmdCid ws < 0x8000) &&
  (rangeFrom 1 7).all (fun i => decide ((wordAt ws i).toNat &&& (2 ^ 64 - 1 - masks.getD (i - 1) 0) = 0))

/-- LOAD with its manifest (R231, R232): the ingest engine must be idle and enabled. -/
def State.cmdLoad (s : State) (q : Nat) (ws : List U64) (block : Option (List Byte)) : State :=
  if !cmdOk ws [2 ^ 64 - 64] then s.refuse q 6 0x31 ws
  else match block with
    | none => s.refuse q 6 0x38 ws
    | some b => s.beginLoad q (cmdCid ws) (cmdTag ws) (wordsOf b)

/-- May a load or unload run now (R231, R263). -/
def State.ingestIdle (s : State) (q : Nat) : Bool := (s.quad q).load.isNone && s.bit .ING_CTRL q 0 && !(s.quad q).asleep && !decide (s.keeper.block = some (3, q))

/-- Is a command a LOAD or an UNLOAD. -/
def ingestOp (ws : List U64) : Bool := cmdOp ws = 0x20 || cmdOp ws = 0x21

/-- A LOAD or UNLOAD in its ring order (R231, R263): run now, or held behind the busy or disabled engine and the commands that wait for it,
to run at a later snapshot or poll. -/
def State.ingestCommand (s : State) (q : Nat) (ws : List U64) (block : Option (List Byte)) (go : State → State) : State :=
  s.withPlaces q ws (fun s =>
    if s.ingestIdle q && !(s.func q).fetched.any (fun e => e.words.any ingestOp) then go s
    else s.modFunc q (fun x => { x with
      fetched := x.fetched.filter (fun e => e.words.isSome) ++
        { no := 0, due := 0, words := some ws, block := block, places := placesOf ws } :: x.fetched.filter (fun e => e.words.isNone) }))

/-- LOAD (R231, R232): a load command of quadrant q's ring with its manifest. -/
def execLoad (q : Fin 4) (entry : Entry) (block : Option (List Byte)) (s : State) : Host.Outcome State Fault Refusal :=
  .next (s.ingestCommand q (entryWords entry) block (fun s => s.cmdLoad q (entryWords entry) block))

/-- Does a storage port support a frame (R237): what it uses of each layer is listed there. -/
def storageFrameOk (f : StorageFrame) : Bool :=
  decide (f.tags ≤ 1) && !f.pause && decide (f.length ≤ 4200) && (f.ip = 4 || f.ip = 6) && !f.options && f.udpPort = 4791 && f.pdu ≠ .other

/-- The oldest READ of a load, unanswered or answered by a NAK, sent again (R238): at most 7 times, then the queue pair of the other
port takes over from the first unanswered byte, and with no port left the load ends with status 0x07 (DEDUCED, log entry 122). -/
def State.retryRead (s : State) (q : Nat) : State :=
  match (s.quad q).load with
  | none => s
  | some l =>
    match l.outst with
    | [] => s
    | (off, len, n) :: rest =>
      let target := wf l.words 0 55 52
      if n < 7 then
        ((s.modQuad q (fun x => { x with load := some { l with outst := (off, len, n + 1) :: rest } })).bump
          .ING_PORT_STAT l.port 63 48 1).readStored l off len
      else if s.otherPort q l.pair ∧ l.port = (if bitsOf l.pair.cfg 26 25 = 0 then 0 else 1) then
        (s.modQuad q (fun x => { x with load := some { l with
          port := 1 - l.port, pair := s.openPair target, outst := [], asked := l.stored.length, limit := 16, marked := none } })).issueReads q 16
      else s.endLoad q l 0x07 0

/-- A response to a load's READs (R237, R238): its bytes in order; a CE mark halves the limit and sends a CNP. -/
def State.readAnswered (s : State) (q : Nat) (l : LoadSt) (data : List Byte) (ce : Bool) : State :=
  let stored := l.stored ++ data.take (l.asked - l.stored.length)
  let l := { l with stored := stored, outst := l.outst.filter (fun o => decide (stored.length < o.1 + o.2.1)) }
  let l := if ce then { l with limit := max 1 (l.limit / 2), marked := some s.now } else l
  let s := if ce then
      (s.bump .ING_PORT_STAT l.port 47 32 1).send (.storageCnp l.port (wf l.words 0 55 52) (bitsOf l.pair.cfg 23 0))
    else s
  (s.modQuad q (fun x => { x with load := some l })).issueReads q 16

/-- STORAGE_READ_RESPONSE (R237, R238): a frame at a storage port for quadrant q's queue pair; one that uses anything not supported is
discarded and counted. -/
def execStorageReadResponse (q : Fin 4) (port : Fin 2) (frame : StorageFrame) (t : U64) (s : State) : Host.Outcome State Fault Refusal :=
  let s := s.at' t.toNat
  .next (
    if !storageFrameOk frame then s.bump .ING_PORT_STAT port 31 16 1
    else match (s.quad q).load with
      | none => s
      | some l =>
        if l.port ≠ port ∨ mfStaged l.words ∨ l.ready.isSome then s
        else match frame.pdu with
          | .readResponse data => s.readAnswered q l data frame.ce
          | .nak => s.retryRead q
          | _ => s)

/-- STORAGE_READ_TIMEOUT (R238): the oldest READ has had no answer for 500 µs. -/
def execStorageReadTimeout (q : Fin 4) (s : State) : Host.Outcome State Fault Refusal := .next (s.retryRead q)

/-- OUTSTANDING_LIMIT_RAISE (R238): 100 µs without marks raise the READ limit by 1, up to 16. -/
def execOutstandingLimitRaise (q : Fin 4) (t : U64) (s : State) : Host.Outcome State Fault Refusal :=
  let s := s.at' t.toNat
  .next (match (s.quad q).load with
    | none => s
    | some l =>
      match l.marked with
      | none => s
      | some m =>
        if m + 100000 ≤ t.toNat ∧ l.limit < 16 then
          (s.modQuad q (fun x => { x with load := some { l with limit := l.limit + 1, marked := some t.toNat } })).issueReads q 16
        else s)

/-- INGEST_STREAM_DONE (R232): the whole stored form has been streamed, from the storage port or from the staging area; `found` is what the
controller finds in the words that the load reads (R223, R224). -/
def execIngestStreamDone (q : Fin 4) (found : HbmFinds) (s : State) : Host.Outcome State Fault Refusal :=
  .next (match (s.quad q).load with
    | none => s
    | some l =>
      if l.ready.isSome then s
      else if mfStaged l.words then
        let a := (s.staging q).1 + (wordAt l.words 4).toNat
        let n := mfStored l.words
        let s := (s.hbmFinds q found).hbmTraffic q a n
        if ((s.quad q).badWords a n).isEmpty then s.finishStream q l (s.hbmRead q a n) found.bad else s.endLoad q l 0x01 0
      else if l.stored.length = mfStored l.words then (s.hbmFinds q found).finishStream q l l.stored found.bad
      else s)

/-- BAR2_WRITE (R239, R516): bytes at an offset of the 4 GiB staging window; those beyond the staging area, or while it belongs
to a load, are discarded. An access past the window's end reaches no byte of it there. -/
def execBar2Write (q : Fin 4) (off : BitVec 32) (data : List Byte) (s : State) : Host.Outcome State Fault Refusal :=
  let (base, size) := s.staging q
  if s.bit .ING_STAT q 1 then .next (s.setBit .ING_STAT q 2 true)
  else
    let fit := data.take (min size (2 ^ 32) - off.toNat)
    let s' := if fit.isEmpty then s else s.hbmWrite q (base + off.toNat) fit
    .next (if fit.length < data.length then s'.setBit .ING_STAT q 2 true else s')

/-- BAR2_READ (R516): staging data, zeros beyond its size. -/
def execBar2Read (q : Fin 4) (off : BitVec 32) (len : Fin 4097) (found : HbmFinds) (s : State) : Host.Outcome State Fault Refusal :=
  let (base, size) := s.staging q
  let n := min (len : Nat) (min size (2 ^ 32) - off.toNat)
  let (s, data) := (s.hbmFinds q found).hbmDeliver q (base + off.toNat) n
  .next (s.send (.readData "BAR2" (data ++ List.replicate (len - n) 0)))

/-- Does a loaded plan that runs on the quadrant reference a shard (R252): a crystal shard by the generation its base words name, another by
its manifest. -/
def State.shardInUse (s : State) (q id gen : Nat) : Bool :=
  s.runs q && (Map.find (α := Nat) (s.quad q).inUse id = some gen || match (s.quad q).plan with
    | some p => p.manifests.any (fun m => mfHome m ≠ 0 && mfId m = id && mfGen m = gen)
    | none => false)

/-- UNLOAD (R252): the residency record becomes free. What an UNLOAD of a shard that is not resident answers, the spec does
not say: a free value (log entry 24). -/
def State.cmdUnload (s : State) (q : Nat) (ws : List U64) : State :=
  let id := wf ws 1 31 0
  let gen := wf ws 1 47 32
  let arg := loadArg id gen 0 false
  if !cmdOk ws [0xFFFFFFFFFFFF] then s.refuse q 6 0x31 ws
  else if !((s.quad q).shards.any (fun r => mfId r.words = id && mfGen r.words = gen && mfHome r.words < 2)) then
    let (v, s) := s.fresh
    s.answer q 6 (v.toNat % 256) (cmdCid ws) (cmdTag ws) arg 0
  else if s.shardInUse q id gen then s.answer q 6 0x0E (cmdCid ws) (cmdTag ws) arg 0
  else
    (s.modQuad q (fun x => { x with
      shards := x.shards.filter (fun r => !(mfId r.words = id && mfGen r.words = gen && mfHome r.words < 2)) })).answer
      q 6 0 (cmdCid ws) (cmdTag ws) arg 0

/-- UNLOAD (R252). -/
def execUnload (q : Fin 4) (entry : Entry) (s : State) : Host.Outcome State Fault Refusal :=
  .next (s.ingestCommand q (entryWords entry) none (fun s => s.cmdUnload q (entryWords entry)))

/-- RETIRE (R255, R528): a LIVE version becomes RETIRING; any other version is a conflict, status 0x09. -/
def State.cmdRetire (s : State) (q : Nat) (ws : List U64) : State :=
  let pfx : Bool := wf ws 1 48 48 = 1
  let id := wf ws 1 31 0
  if !cmdOk ws [0x1FFFFFFFFFFFF] then s.refuse q 1 0x31 ws
  else if (s.slotRange q pfx).2 = 0 then s.refuse q 1 0x34 ws
  else match (s.slotsOf q pfx id).find? (fun k => s.slotVersion pfx k = wf ws 1 47 32 && s.slotState pfx k = 2) with
    | some k => (s.retireSlot q pfx k (cmdCid ws) (cmdTag ws)).answer q 1 0 (cmdCid ws) (cmdTag ws) 0 0
    | none => s.refuse q 1 0x09 ws

/-- RETIRE (R255). -/
def execRetire (q : Fin 4) (entry : Entry) (s : State) : Host.Outcome State Fault Refusal :=
  .next (s.withPlaces q (entryWords entry) (fun s =>
    let s := s.cmdRetire q (entryWords entry)
    if s.runs q then s else s.sweepRetired q))

/-! ### Rechecks (R250, R251) -/

/-- The recheck period in drips (R250, R264): INTERVAL_MS, below 1,000 taken as 1,000. -/
def State.recheckPeriod (s : State) (q : Nat) : Nat := max 1000 (s.fld .ING_RECHECK q 31 0) * 1000000

/-- DIGEST_RECHECK (R250, R264): a recheck falls due at drip t, once the period since the last one that fell due is over; one still
unfinished is counted late, and the next starts as soon as it ends (DEDUCED, log entry 125). -/
def execDigestRecheck (q : Fin 4) (t : U64) (s : State) : Host.Outcome State Fault Refusal :=
  let s := s.at' t.toNat
  let early : Bool := match (s.quad q).recheckAt with | some a => decide (t.toNat < a + s.recheckPeriod q) | none => false
  .next (
    if !s.bit .ING_CTRL q 1 ∨ early then s
    else
      let s := s.modQuad q (fun x => { x with recheckAt := some t.toNat })
      match (s.quad q).recheck with
      | some _ => (s.bump .ING_STAT q 55 48 1).modQuad q (fun x => { x with recheckDue := true })
      | none => s.modQuad q (fun x => { x with recheck := some t.toNat }))

/-- Data and scale bytes of a record's pieces. -/
def ShardRec.sizes (r : ShardRec) : List (Nat × Nat) := r.pieces.map (fun p => (p.2.2.1, p.2.2.2.1))

/-- The digest of an image held as data and scales at two places, by a reader. -/
def imageDigest (read : Nat → Nat → List Byte) (base d sc : Nat) : List Byte :=
  sha256 (read base d ++ if sc = 0 then [] else read (base + pages d) sc)

/-- What a recheck finds in a piece or a copy: sound, uncorrectable, or a digest that differs (R250, R251). -/
inductive PieceState where
  | sound | uncorrectable | differs
  deriving DecidableEq, Repr

/-- What a copy in HBM shows when it is read: sound, uncorrectable, or a digest that differs; uncorrectable words are reported (R224,
R250). -/
def State.checkCopy (s : State) (q base d sc : Nat) (digest : List Byte) : State × PieceState :=
  let n := if sc = 0 then d else pages d + sc
  (s.hbmTraffic q base n,
   if !((s.quad q).badWords base n).isEmpty then .uncorrectable
   else if imageDigest (s.hbmRead q) base d sc = digest then .sound else .differs)

/-- A piece image read from its core, through the codes (R250). -/
def State.checkPiece (s : State) (v idx d sc : Nat) (digest : List Byte) : State × PieceState :=
  match s.phys v with
  | none => (s, .uncorrectable)
  | some p =>
    match (s.core p).crystalAt idx with
    | none => (s, .uncorrectable)
    | some i =>
      let base := (s.core p).regBase i
      let r0 : Run := ⟨s.core p, s.now, none, [], []⟩
      let (r1, a) := r0.read base d
      let (r2, b) := if sc = 0 then (r1, []) else r1.read (base + pages d) sc
      let s := s.runCore p (r2.c, r2.evs)
      if r2.fault.isSome then (s, .uncorrectable)
      else (s, if sha256 (a ++ b) = digest then .sound else .differs)

/-- A core's rows queued for re-crystallisation (R208). -/
def State.wantCrystal (s : State) (q v : Nat) : State :=
  s.modQuad q (fun x => if x.recrys.contains v then x else { x with recrys := x.recrys ++ [v] })

/-- The mismatch notice and count (R251, R265, R529). -/
def State.mismatch (s : State) (q : Nat) (r : ShardRec) (piece : Nat) : State :=
  (s.bump .ING_STAT q 47 32 1).notice (some q) 0x05 (mfId r.words + mfGen r.words * 2 ^ 32 + piece * 2 ^ 48) r.checked

/-- A backing copy or HBM form that is not sound rewritten from storage; with no source there its record is damaged (R224, R251). -/
def State.mendCopy (s : State) (q : Nat) (ws : List U64) (lose : Bool) : State :=
  if mfStaged ws then s.damage q ws lose else s.beginRefetch q ws

/-- One crystal piece rechecked and repaired as tabled (R251), and whether its digest matched. -/
def State.recheckPiece (s : State) (q : Nat) (r : ShardRec) (i : Nat) (pc : Nat × Nat × Nat × Nat × List Byte) (backing : Bool) :
    State × Bool :=
  let (v, idx, d, sc, digest) := pc
  let copy := fun (s : State) => s.checkCopy q (mfAddr r.words + pieceAt i r.sizes) d sc digest
  let (s, st) := s.checkPiece v idx d sc digest
  match st with
  | .sound =>
    if backing then
      let (s, k) := copy s
      (match k with
       | .sound => s
       | .uncorrectable => s.mendCopy q r.words false
       | .differs => (s.bump .ING_STAT q 47 32 1).mendCopy q r.words false, true)
    else (s, true)
  | .uncorrectable => (s.wantCrystal q v, false)
  | .differs =>
    let (s, k) := copy (s.mismatch q r i)
    (if k = .sound then (s.wantCrystal q v).recoveryEvent q false
     else if mfStaged r.words then s.damage q r.words true
     else ((s.beginRefetch q r.words).wantCrystal q v).recoveryEvent q false, false)

/-- The pieces of a crystal shard rechecked in order, and whether all matched. -/
def State.recheckPieces (s : State) (q : Nat) (r : ShardRec) (backing : Bool) : State × Bool :=
  r.pieces.zipIdx.foldl (fun a x => let b := a.1.recheckPiece q r x.2 x.1 backing; (b.1, a.2 && b.2)) (s, true)

/-- A resident form of HBM rechecked (R251), and whether its digest matched; words found uncorrectable explain a difference. -/
def State.recheckHome (s : State) (q : Nat) (r : ShardRec) : State × Bool :=
  match r.pieces with
  | [] => (s, true)
  | (_, _, d, sc, digest) :: _ =>
    let (s, k) := s.checkCopy q (mfAddr r.words) d sc digest
    match k with
    | .sound => (s, true)
    | .uncorrectable => ((s.damage q r.words false).mendCopy q r.words false, false)
    | .differs => (((s.mismatch q r 0).damage q r.words false).mendCopy q r.words false, false)

/-- One live shard rechecked (R250, R251); a record keeps the drip of its last matching recheck. -/
def State.recheckShard (s : State) (q : Nat) (r : ShardRec) : State :=
  let backing : Bool := (r.rechecks + 1) % max 1 (s.fld .ING_RECHECK q 39 32) = 0
  let a := if mfCrystal r.words then s.recheckPieces q r backing else s.recheckHome q r
  a.1.modQuad q (fun x => { x with
    shards := x.shards.map (fun y => if sameShard y.words r.words then
      { y with rechecks := y.rechecks + 1, checked := if a.2 then s.now else y.checked } else y) })

/-- The recheck that a reset or a sleep leaves due, run before the loader accepts a plan (R562). -/
def State.recheckNow (s : State) (q : Nat) : State :=
  if (s.quad q).mustCheck then
    (s.each ((s.quad q).shards.filter (fun r => r.live && mfCrystal r.words)) (fun s r => s.recheckShard q r)).modQuad q
      (fun x => { x with mustCheck := false })
  else s

/-- RECHECK_DONE (R250, R251): every live shard's images read and compared, and any mismatch repaired as tabled; a recheck that fell due
meanwhile starts while RECHECK_EN is 1. `found` is what the controller finds in HBM (R223, R224). -/
def execRecheckDone (q : Fin 4) (t : U64) (found : HbmFinds) (s : State) : Host.Outcome State Fault Refusal :=
  let s := s.at' t.toNat
  .next (match (s.quad q).recheck with
    | none => s
    | some _ =>
      let s := s.hbmFinds q found
      (s.each ((s.quad q).shards.filter (·.live)) (fun s r => s.recheckShard q r)).modQuad q (fun x =>
        { x with recheck := if x.recheckDue && s.bit .ING_CTRL q 1 then some t.toNat else none, recheckDue := false }))

/-! ### Re-crystallisation (R208, R230, R491) -/

/-- The units of the row of code unit u: a row of local SRAM is one unit, a row of the stacked slice four (R190, R193). -/
def rowUnits (u : Nat) : List Nat := if u < 0x200000 then [u] else rangeFrom (u / 4 * 4) 4

/-- A unit of a crystal region at byte `b` written whole from a piece image; its queued write-back is discarded (R207, R230). -/
def CoreSt.writeCrystal (c : CoreSt) (now b : Nat) (img : List Byte) (u : Nat) : CoreSt :=
  let off := 64 * u - b
  let bytes := (img.drop off).take 64
  { c.hwWrite now (64 * u) (bytes ++ List.replicate (64 - bytes.length) 0) with wbq := c.wbq.filter (fun x => x ≠ u) }

/-- The rows of a crystal region that hold poisoned units rewritten from a piece image (R208). -/
def CoreSt.mendRows (c : CoreSt) (now idx : Nat) (img : List Byte) : CoreSt :=
  match c.crystalAt idx with
  | none => c
  | some k =>
    let b := c.regBase k
    let units := rangeFrom (b / 64) (ceilDiv img.length 64)
    let bad := units.filter (fun u => (c.unit u).poison)
    (units.filter (fun u => bad.any (fun w => (rowUnits w).contains u))).foldl (fun c u => c.writeCrystal now b img u) c

/-- One piece re-crystallised from its backing copy (R208, R491), and whether the work is done: the whole image of a moved position,
else the rows that hold poisoned units, and then the whole image when the digest still differs (DEDUCED, log entry 126). A backing copy
that is not correctable is fetched from storage first. -/
def State.recrystallise (s : State) (q : Nat) (r : ShardRec) (i : Nat) (pc : Nat × Nat × Nat × Nat × List Byte) (whole : Bool) :
    State × Bool :=
  let (v, idx, d, sc, digest) := pc
  let base := mfAddr r.words + pieceAt i r.sizes
  let n := if sc = 0 then d else pages d + sc
  if r.bad then (s, true)
  else if !((s.quad q).badWords base n).isEmpty then ((s.hbmTraffic q base n).mendCopy q r.words true, mfStaged r.words)
  else
    let img := s.hbmRead q base n
    let s := if whole then s.writePiece v idx img
      else match s.phys v with
        | none => s
        | some p => s.modCore p (fun c => c.mendRows s.now idx img)
    let (s, st) := s.checkPiece v idx d sc digest
    if st = PieceState.sound then (s, true)
    else
      let (s, st) := (s.writePiece v idx img).checkPiece v idx d sc digest
      (if st = PieceState.sound then s else s.mismatch q r i, true)

/-- The crystal pieces of virtual core v re-crystallised, and whether none waits for a refetch. -/
def State.recrystalliseCore (s : State) (q v : Nat) (whole : Bool) : State × Bool :=
  ((s.quad q).shards.filter (fun r => mfCrystal r.words)).foldl (fun (a : State × Bool) r =>
    (r.pieces.zipIdx.filter (fun x => x.1.1 = v)).foldl (fun (a : State × Bool) x =>
      let b := a.1.recrystallise q r x.2 x.1 whole
      (b.1, a.2 && b.2)) a) (s, true)

/-- RECRYSTALLISATION_DONE (R208, R491): the rows of virtual core v that wait are rewritten and their digests compared; those whose
backing copy is being fetched wait on. A moved position of a quadrant that runs a plan is filled when its new core takes it over (R493).
`found` is what the controller finds in the backing copies (R223, R224). -/
def execRecrystallisationDone (v : Fin 256) (found : HbmFinds) (s : State) : Host.Outcome State Fault Refusal :=
  let q := (v : Nat) / 64
  let moved := (s.quad q).moved.any (fun m => m.v = (v : Nat) && m.crystal)
  let late := moved && s.runs q
  .next (
    if !((s.quad q).recrys.contains v || moved) then s
    else
      let s := s.hbmFinds q found
      let (s, done) := if late then (s, true) else s.recrystalliseCore q v moved
      if !done then s
      else
        (s.modQuad q (fun x => { x with
          recrys := x.recrys.filter (· ≠ (v : Nat))
          moved := (x.moved.map (fun m => if m.v = (v : Nat) then { m with crystal := false } else m)).filter (fun m =>
            s.runs q || m.crystal) })).repairReady q)

end Sys2Proof.Machine
end

