-- ==== Sys2Proof/Machine/Memory.lean ====
section
/-! DEFINITION. The supervisor's forwarding of fault records (R119, R123) and the memory commands (R196, R203, R206, R219,
R223, R224). -/
namespace Sys2Proof.Machine

/-- Is a record of the program class (R62, R118): exceptions below code 0x10, and kinds 2 to 6 but for the record the supervisor itself
writes of a discarded signal, SOURCE 6 (R319; DEDUCED, log entry 88). -/
def programClass (w0 : U64) : Bool :=
  let k := bitsOf w0 7 0
  (k = 1 && decide (bitsOf w0 23 16 < 0x10)) || (decide (2 ≤ k ∧ k ≤ 6) && decide (bitsOf w0 10 8 ≠ 6))

/-- A plan fault of a quadrant (R119): PLAN_FAULT set and the fault reported to the partition master. -/
def State.planFault (s : State) (q : Nat) : State :=
  (s.setBit .QD_RECOVERY q 3 true).send (.message 1 [q, 1])

/-- FAULT_RECORD_FORWARD (R123, R119): the oldest record leaves the supervisor's queue, is forwarded to the partition master
and noticed. -/
def execFaultRecordForward (q : Fin 4) (s : State) : Host.Outcome State Fault Refusal :=
  .next (match (s.quad q).faultQ with
    | [] => s
    | ws :: rest =>
      let w0 := wordAt ws 0
      let s := (s.modQuad q (fun x => { x with faultQ := rest })).send (.message 4 (ws.map BitVec.toNat))
      let s := s.notice (some (q : Nat)) 0x01 w0.toNat (wordAt ws 7).toNat (bitAt w0 11)
      if programClass w0 then s.planFault q else s)

/-- PLAN_FAULT_NOTICE (R119). -/
def execPlanFaultNotice (q : Fin 4) (s : State) : Host.Outcome State Fault Refusal :=
  .next (s.setBit .QD_RECOVERY q 3 true)

/-- The write-back of the oldest unit queued on a core (R206): rewritten corrected; one that has become uncorrectable is
poisoned and its rows wait for re-crystallisation, with no step lost (R207, R208). A unit that is no longer crystal is only read, under
the code of its type (R682). -/
def CoreSt.writeBack (c : CoreSt) : CoreSt × Bool :=
  match c.wbq with
  | [] => (c, false)
  | u :: rest =>
    let c := { c with wbq := rest, rehearsed := c.rehearsed.filter (· ≠ u) }
    let m := c.unit u
    if m.init ∨ m.poison then (c, false)
    else if c.unitType u ≠ 1 then
      (if flowCheck (c.unitBytes u) = m.check then c else c.memError (u * 64) 2 49, false)
    else match rsDecode (c.unitBytes u ++ m.check) with
      | .clean => (c, false)
      | .corrected cw => ({ c with sram := c.sram.writeN (u * 64) (cw.take 64) }.setUnit u ⟨rsCheck (cw.take 64), false, false⟩, false)
      | .bad => ((c.setUnit u { m with poison := true }).memError (u * 64) 1 48, true)

/-- CRYSTAL_WRITE_BACK (R206). -/
def execCrystalWriteBack (p : Fin 288) (s : State) : Host.Outcome State Fault Refusal :=
  let (c, bad) := (s.core p).writeBack
  let s := s.setCore p c
  .next (match bad, s.virtOf p with
    | true, some v => s.wantCrystal (p / 72) v
    | _, _ => s)

/-- Is a core quiescent for CORE_REGION and CORE_PORT_SHARE (R203): its sequencer stopped or faulted, its queues empty. -/
def CoreSt.quiescent (c : CoreSt) : Bool :=
  (match c.seq.run with | .stopped => true | .faulted => true | _ => false) && c.queues.all (fun p => p.2.ents.isEmpty)

/-- A write that is ignored with REG_REJ (R196, R203). -/
def CoreSt.reject (c : CoreSt) : CoreSt := c.setFld .CORE_MEM_STAT 0 52 52 1

/-- A write of region entry i (R203); `keeper` marks a write through the keeper's management function while a plan runs. -/
def CoreSt.writeRegion (c : CoreSt) (i : Nat) (val : U64) (keeper : Bool) : CoreSt :=
  let v := val &&& 0xFFF7FFFFFFF
  let old := c.regType i
  let new := bitsOf v 30 28
  if c.quiescent then c.setReg .CORE_REGION i v
  else if keeper && ((old = 0 && new = 1) || (old = 1 && new = 0)) then
    { c with regionPend := Map.set (α := U64) c.regionPend i v }
  else c.reject

/-- CORE_REGION_WRITE (R203). -/
def execCoreRegionWrite (v : Fin 256) (i : Fin 16) (val : U64) (keeper : Bool) (s : State) : Host.Outcome State Fault Refusal :=
  .next (s.onCoreReg v (fun c => c.writeRegion i val (keeper && s.runs (v / 64))))

/-- The constraints on CORE_PORT_SHARE (R196). -/
def shareOk (v : U64) : Bool :=
  let f := fun hi lo => bitsOf v hi lo
  decide (f 4 0 + f 9 5 + f 14 10 + f 19 15 ≤ 16) && decide (f 23 20 + f 27 24 + f 31 28 + f 35 32 ≤ 8) &&
  decide (f 41 36 + f 47 42 + f 53 48 + f 59 54 ≤ 32) && f 36 36 = 0 && f 42 42 = 0 && f 48 48 = 0 && f 54 54 = 0

/-- A write of CORE_PORT_SHARE, whole or not at all (R196, R226). -/
def CoreSt.writeShare (c : CoreSt) (val : U64) : CoreSt :=
  if c.quiescent && shareOk val then c.setReg .CORE_PORT_SHARE 0 (val &&& 0xFFFFFFFFFFFFFFF) else c.reject

/-- PORT_SHARE_WRITE (R196). -/
def execPortShareWrite (v : Fin 256) (val : U64) (s : State) : Host.Outcome State Fault Refusal :=
  .next (s.onCoreReg v (fun c => c.writeShare val))

/-- HBM_REFRESH (R219): the stack's refresh at its single or doubled rate, which HOT tells. -/
def execHbmRefresh (q : Fin 4) (hot : Bool) (s : State) : Host.Outcome State Fault Refusal :=
  .next (s.setBit .QD_HBM_STAT q 49 hot)

/-- Live shards whose HBM bytes hold one of some words (R224, R251). -/
def State.shardsAt (s : State) (q : Nat) (bad : List Nat) : List ShardRec :=
  (s.quad q).shards.filter (fun r => r.live && bad.any (fun b => decide (b < mfAddr r.words + r.bytes ∧ mfAddr r.words < b + 8)))

/-- PATROL_SCRUB (R219, R223, R224): corrections counted; words found uncorrectable are reported, and a copy they lie in is
fetched again (a staged shard's record is damaged, R251) (DEDUCED, log entry 96). -/
def execPatrolScrub (q : Fin 4) (sec ondie : Nat) (bad : List Nat) (s : State) : Host.Outcome State Fault Refusal :=
  let bad := (bad.map (· / 8 * 8)).filter (fun b => decide (b < 0x600000000))
  let s := (s.bump .QD_HBM_STAT q 31 0 sec).bump .QD_HBM_STAT q 47 32 ondie
  let s := (s.noteBadWords q bad).hbmError q bad
  .next (s.each (s.shardsAt q bad) (fun s r =>
    if mfStaged r.words then s.damage q r.words false else s.beginRefetch q r.words))

end Sys2Proof.Machine
end

