-- ==== Sys2Proof/Machine/ServingOps.lean ====
section
/-! DEFINITION. Shared operations of serving (R268 to R328, R483 to R487): accounts, rings and bindings, delta records, cuts,
the scan of commits, and how a slot ends. -/
namespace Sys2Proof.Machine

/-! ### Accounts (R294 to R298) -/

/-- FIRST and COUNT of a quadrant's account range (R309). -/
def State.budRange (s : State) (q : Nat) : Nat × Nat := (s.fld .BUD_RANGE q 12 0, s.fld .BUD_RANGE q 26 13)
/-- Does a range hold an account. -/
def inRange (r : Nat × Nat) (a : Nat) : Bool := decide (r.1 ≤ a ∧ a < r.1 + r.2)
/-- Does a quadrant own an account: the lower-numbered of two that name it (R294). -/
def State.ownsAccount (s : State) (q a : Nat) : Bool :=
  inRange (s.budRange q) a && (List.range q).all (fun j => !inRange (s.budRange j) a)
/-- The accounts of a quadrant's range that it owns. -/
def State.accounts (s : State) (q : Nat) : List Nat :=
  let (f, n) := s.budRange q
  (rangeFrom f n).filter (fun a => decide (a < 8192) && s.ownsAccount q a)
/-- BALANCE. -/
def State.balance (s : State) (a : Nat) : Nat := s.fld .BUD_BAL a 39 0
/-- W_PRE and W_GEN. -/
def State.weights (s : State) (a : Nat) : Nat × Nat := (s.fld .BUD_CFG a 15 0, s.fld .BUD_CFG a 31 16)
/-- An amount credited, saturating at 2^40 − 1 (R298). -/
def State.credit (s : State) (a n : Nat) : State := s.bump .BUD_BAL a 39 0 n
/-- An amount debited; the balance covers it (R297). -/
def State.debit (s : State) (a n : Nat) : State := s.setFld .BUD_BAL a 39 0 (s.balance a - n)

/-- One account refilled to period p (R296). -/
def State.refill (s : State) (q p a : Nat) : State :=
  let p0 := Map.get (α := Nat) (s.quad q).periods a 0
  if p0 < p then
    let b := s.balance a
    let cap := s.fld .BUD_CAP a 39 0
    let s := s.setFld .BUD_BAL a 39 0 (max b (min cap (b + (p - p0) * s.fld .BUD_CFG a 63 32)))
    s.modQuad q (fun x => { x with periods := Map.set (α := Nat) x.periods a p })
  else s

/-! ### Rings and bindings -/

/-- A stream ring of a quadrant function. -/
def State.ring (s : State) (q i : Nat) : Option Ring := Map.find (α := Ring) (s.func q).rings i
/-- A stream ring replaced. -/
def State.setRing (s : State) (q i : Nat) (r : Ring) : State :=
  s.modFunc q (fun x => { x with rings := Map.set (α := Ring) x.rings i r })
/-- A ring bound to a slot, or freed; entries asked for and not applied stay the host's. -/
def State.bindRing (s : State) (q : Nat) (i : Option Nat) (slot : Option Nat) : State :=
  match i with
  | none => s
  | some k => match s.ring q k with
    | some r => s.setRing q k { r with bound := slot, asked := [] }
    | none => s

/-- Free entries of an output ring, as the last applied poll shows; none while the function is stalled (R283, R534)
(DEDUCED, log entry 83). -/
def State.outRoom (s : State) (q i : Nat) : Nat :=
  match s.ring q i with
  | some r => if s.bit .HIF_STAT q 1 then 0 else r.size - ahead r.devCount r.hostCount
  | none => 0

/-- The reference count of an adapter or prefix slot changed (R256, R257). -/
def State.addRef (s : State) (pfx : Bool) (k : Option Nat) (up : Bool) : State :=
  match k with
  | none => s
  | some k =>
    let n := s.slotRefs pfx k
    s.setFld (slotReg pfx) k 47 32 (if up then n + 1 else n - 1)

/-- The residency record of an adapter or prefix slot. -/
def State.objShard (s : State) (q : Nat) (pfx : Bool) (k : Nat) : Option ShardRec :=
  (s.quad q).shards.find? (fun r => r.slot = some k && mfPrefix r.words = pfx && decide (mfHome r.words ≥ 2))

/-- What binding an id and a version meets (R256, R292): a slot, none for id 0, or a status. -/
def State.binding (s : State) (q : Nat) (pfx : Bool) (id version : Nat) : Option Nat ⊕ Nat :=
  if id = 0 then .inl none
  else
    let held := s.slotsOf q pfx id
    let want := held.filter (fun k => version = 0 || s.slotVersion pfx k = version)
    match want.find? (fun k => s.slotState pfx k = 2) with
    | some k => match s.objShard q pfx k with
      | some r => if r.bad then .inr 0x0C else .inl (some k)
      | none => .inl (some k)
    | none => if want.any (fun k => s.slotState pfx k = 1) then .inr 0x15 else .inr 0x14

/-- The positions of a bound prefix (R259). -/
def State.prefixLen (s : State) (k : Option Nat) : Nat := match k with | some k => s.fld .HUB_PREFIX_SLOT k 31 20 + 1 | none => 0

/-- The slot that an id and a version name, whatever may be bound (R291): the LIVE one first, none for id 0 or a version no slot holds. -/
def State.namedSlot (s : State) (q : Nat) (pfx : Bool) (id version : Nat) : Option Nat :=
  if id = 0 then none
  else
    let want := (s.slotsOf q pfx id).filter (fun k => version = 0 || s.slotVersion pfx k = version)
    match want.find? (fun k => s.slotState pfx k = 2) with
    | some k => some k
    | none => want.head?

/-! ### Serving parameters -/

/-- Positions a decode step adds, NP (R326). -/
def Serving.np (p : Serving) : Nat := p.inPos + 1
/-- Codes per output entry, C (R311). -/
def Serving.codes (p : Serving) : Nat := if p.outKind = 1 then p.outCodes else 1
/-- Draws of a decode step (R311). -/
def Serving.draws (p : Serving) : Nat := p.outMax * p.codes
/-- Sampling rate of a frame format (R530). -/
def pcmRate (format : Nat) : Nat := match format with | 1 => 16000 | 2 => 24000 | 3 => 48000 | _ => 0
/-- Bytes of one position of an input buffer: the largest frame the plan takes, in whole units (R280; log entry 26). -/
def Serving.frameRoom (p : Serving) : Nat :=
  let n := if p.inputKind = 2 then 4 * p.inCodes else p.frameUs * 48000 / 1000000 * 2
  (n + 63) / 64 * 64

/-! ### Mirroring (R482 to R488) -/

/-- Mirror state of a slot: 0 none, 1 in step, 2 not in step, 3 lost. -/
def State.mirrorState (s : State) (q n : Nat) : Nat := s.fld .HUB_SEQ_MIRROR (q * 128 + n) 1 0

/-- The eight words of a delta record (R484). -/
def State.deltaWords (s : State) (q n kind dseq ntok epoch : Nat) : List U64 :=
  let t := (s.quad q).slot n
  [BitVec.ofNat 64 (n + kind * 2 ^ 8 + q * 2 ^ 16 + s.globalId * 2 ^ 32), BitVec.ofNat 64 t.step,
   BitVec.ofNat 64 (t.pos % 2 ^ 24 + t.left % 2 ^ 24 * 2 ^ 24 + ntok % 32 * 2 ^ 48), BitVec.ofNat 64 epoch, BitVec.ofNat 64 t.frame,
   BitVec.ofNat 64 (t.d0 % 2 ^ 32), BitVec.ofNat 64 (dseq % 2 ^ 32), 0]

/-- The little-endian bytes of a sampler parameter block (R312). -/
def Sampler.bytes (x : Sampler) : List Byte :=
  leBytes 4 x.temp ++ leBytes 4 x.topP ++ leBytes 4 x.minP ++ leBytes 4 x.rep ++ leBytes 4 x.pres ++ leBytes 4 x.freq ++
  leBytes 2 x.topK ++ leBytes 2 0 ++ leBytes 4 x.stop

/-- The id and version an adapter or prefix slot holds, 0 for none. -/
def State.boundId (s : State) (pfx : Bool) (k : Option Nat) : Nat × Nat :=
  match k with | some k => (s.slotId pfx k, s.slotVersion pfx k) | none => (0, 0)

/-- The admission block of a start record (R484). -/
def State.startBlock (s : State) (q n : Nat) : List Byte :=
  let t := (s.quad q).slot n
  let a := s.boundId false t.adapter
  let p := s.boundId true t.pfx
  leBytes 8 t.seed.toNat ++ leBytes 4 t.tag ++ leBytes 2 t.account ++ leBytes 1 t.dclass ++ leBytes 1 0 ++ leBytes 4 a.1 ++
  leBytes 2 a.2 ++ leBytes 2 0 ++ leBytes 4 p.1 ++ leBytes 2 p.2 ++ leBytes 2 0 ++ t.sampler.bytes

/-- A delta record of a mirrored slot sent to its partner (R321, R484): DSEQ counts from 0 at the start record. -/
def State.sendDelta (s : State) (q n kind epoch : Nat) (tokens : List Nat) : State :=
  let m := s.mirrorState q n
  if kind ≠ 3 ∧ m ≠ 1 ∧ m ≠ 2 then s
  else
    let d := if kind = 3 then 0 else ((s.quad q).slot n).dseq + 1
    let bytes := (s.deltaWords q n kind d tokens.length epoch).flatMap (fun w => leBytes 8 w.toNat) ++
      (if kind = 3 then s.startBlock q n else tokens.flatMap (fun t => leBytes 8 t))
    let s := s.modSlot q n (fun t => { t with dseq := d })
    let s := (s.setFld .HUB_SEQ_MIRROR (q * 128 + n) 39 16 d).setFld .HUB_SEQ_MIRROR (q * 128 + n) 1 0 2
    s.send (.message 5 (bytes.map BitVec.toNat))

/-! ### Ending and cutting (R277, R278, R325 to R327) -/

/-- The position word of a completion (R527). -/
def SlotSt.posWord (t : SlotSt) : Nat := t.step % 2 ^ 40 + t.pos % 2 ^ 24 * 2 ^ 40

/-- A cut's completion (R327). -/
def State.cutDone (s : State) (q n status cid : Nat) (tag : Nat) : State :=
  let t := (s.quad q).slot n
  s.answer q 5 status cid tag t.posWord t.frame

/-- A slot's ended completion queued, once (R278, R526). -/
def State.endNote (s : State) (q n : Nat) : State :=
  let t := (s.quad q).slot n
  if (t.state = 3 ∨ t.state = 4) ∧ !t.inStep ∧ !t.ended ∧ !t.frozen then
    (s.modSlot q n (fun t => { t with ended := true })).slotNote q 3 n t.tag t.posWord t.reason
  else s

/-- A slot enters DRAIN (R277, R278); a cut that waits completes with 0x21 (R332), and the ended
completion follows once no step is in flight. -/
def State.drain (s : State) (q n reason : Nat) : State :=
  let t := (s.quad q).slot n
  let s := s.modSlot q n (fun t => { t with state := 3, reason := reason, ending := none, cut := none })
  let s := match t.cut with
    | some (_, cid) => s.cutDone q n 0x21 cid t.tag
    | none => s
  s.endNote q n

/-- A token's count lowered; one that reaches 0 leaves the table (R326). -/
def uncount (counts : Map Nat) (tok : Nat) : Map Nat :=
  let n := Map.get (α := Nat) counts tok 0
  if n ≤ 1 then Map.del (α := Nat) counts tok else Map.set (α := Nat) counts tok (n - 1)

/-- The state of a slot after a cut to step k (R326). -/
def SlotSt.cutTo (t : SlotSt) (p : Serving) (k : Nat) : SlotSt :=
  let gone := t.log.filter (fun r => decide (k ≤ r.2))
  let frame := k * p.cadenceIn
  { t with
    counts := gone.foldl (fun c r => uncount c r.1) t.counts
    log := t.log.filter (fun r => decide (r.2 < k))
    pos := t.d0 + k * p.np, step := k, frame := frame, frames := [], gate := []
    inClosed := t.inClosed && decide (t.endFrame < frame) }

/-- A cut of slot n to position c performed (R326), with its completion and its delta record. -/
def State.cutSlot (s : State) (q n c cid epoch : Nat) : State :=
  let p := (s.quad q).params
  let t := (s.quad q).slot n
  let k := (c - t.d0) / p.np
  if t.pos ≤ c then s.cutDone q n 0x00 cid t.tag
  else if c < t.d0 ∨ k < t.evict then s.cutDone q n 0x20 cid t.tag
  else
    -- frames applied and not yet written leave the ring with the cut, and those written count no longer
    let s := match t.inRing with
      | some i => match s.ring q i with
        | some r => s.setRing q i { r with
            devCount := (r.devCount + t.gate.length) % 2 ^ 32, asked := r.asked.map (fun (e : RingFetch) => { e with written := false }) }
        | none => s
      | none => s
    ((s.modSlot q n (fun t => t.cutTo p k)).sendDelta q n 2 epoch []).cutDone q n 0x00 cid t.tag

/-- Does a function's queue still hold the ended completion of a slot. -/
def FuncSt.holdsEnd (f : FuncSt) (n : Nat) : Bool := f.queue.any (fun c => c.kind = 3 && c.cid = 0x8000 + n)

/-- A slot that becomes FREE: its count table and log stay until it leaves FREE (R330). -/
def SlotSt.freed (t : SlotSt) : SlotSt := { dseq := t.dseq, counts := t.counts, log := t.log, evict := t.evict, full := t.full }

/-- A slot whose ended completion has been posted becomes FREE and releases its bindings (R257, R277); its mirror is
released at the partner (R485). -/
def State.freeSeq (s : State) (q n epoch : Nat) : State :=
  let t := (s.quad q).slot n
  if (t.state = 3 ∨ t.state = 4) ∧ t.ended ∧ !t.inStep ∧ !t.frozen ∧ !(s.func q).holdsEnd n then
    let s := ((s.bindRing q t.inRing none).bindRing q t.outRing none).sendDelta q n 4 epoch []
    let s := (s.addRef false t.adapter false).addRef true t.pfx false
    s.modQuad q (fun x => { x with slots := Map.set (α := SlotSt) x.slots n t.freed })
  else s

/-- A quadrant's frozen slots freed and their bindings released (R257, R564): the model's keeper does it when the quadrant is released
or takes a new role, the events by which it sees the partition's recovery over (DESIGN CHOICE, log entry 44). -/
def State.freeFrozen (s : State) (q : Nat) : State :=
  s.each ((s.quad q).slots.filter (fun x => x.2.frozen)) (fun s x =>
    let s := (s.addRef false x.2.adapter false).addRef true x.2.pfx false
    s.modQuad q (fun y => { y with slots := Map.set (α := SlotSt) y.slots x.1 x.2.freed }))

/-! ### The scan of commits (R273, R277, R297) -/

/-- The outstanding reservation of a slot credited but for `cost` (R297). -/
def State.trueUp (s : State) (q n cost : Nat) : State :=
  let t := (s.quad q).slot n
  (s.credit t.account (t.reserved - cost)).modSlot q n (fun t => { t with reserved := 0 })

/-- A slot leaves its step: its row is free and its order that of this launch's epoch (R276, R284). -/
def SlotSt.leaveStep (t : SlotSt) (k : Nat) : SlotSt := { t with inStep := false, row := none, order := k, aborted := false }

/-- PREFILL to DECODE (R277, R525): D0 is the position reached, less what a resumed sequence had already decoded. -/
def SlotSt.enterDecode (t : SlotSt) (p : Serving) : SlotSt :=
  match t.resume with
  | some r => { t with state := 2, step := r, frame := r * p.cadenceIn, d0 := t.pos - r * p.np }
  | none => { t with state := 2, d0 := t.pos }

/-- A prompt chunk's fetch issued, to apply at `due` (R685). -/
def State.askChunk (s : State) (q n c due : Nat) : State :=
  let size := (s.quad q).params.chunk
  let t := (s.quad q).slot n
  if c * size < t.promptLen then
    (s.modSlot q n (fun t => { t with chunkDue := Map.set (α := Nat) t.chunkDue c due })).send
      (.hostRead q (t.promptAt + 4 * c * size) (4 * min size (t.promptLen - c * size)))
  else s

/-- A slot whose state was reported lost enters LOST with reason 4 (R277, R310, R497): an END or ABORT that waited yields to it, and a
cut that waited completes with 0x21 (R327). -/
def State.takeLost (s : State) (q n : Nat) : State :=
  let t := (s.quad q).slot n
  if !t.lost then s
  else
    let s := match t.cut with | some (_, cid) => s.cutDone q n 0x21 cid t.tag | none => s
    (s.modSlot q n (fun t => { t with state := 4, reason := 4, lost := false, ending := none, cut := none })).bump .QD_RECOVERY q 39 24 1

/-- The scan of slot n at the launch of epoch k: an applied commit takes effect in the table, an aborted one is credited and
its step starts again (R273, R277, R278, R297, R323). -/
def State.scanSlot (s : State) (q n k due : Nat) : State :=
  let p := (s.quad q).params
  let t := (s.quad q).slot n
  let s := match t.applied with
    | some a =>
      if t.state = 4 then (s.trueUp q n 0).modSlot q n (fun t => { t.leaveStep k with applied := none })
      else
        let cost := if a.chunk then 0 else p.inPos * t.weights.1 + a.emitted * t.weights.2
        let s := (s.trueUp q n cost).modSlot q n (fun t => t.leaveStep k)
        let s := if t.ending = some 3 then s.modSlot q n (fun t => { t with applied := some { a with outputs := [] } }) else s
        let t := (s.quad q).slot n
        match t.ending with
        | some r => s.drain q n r
        | none =>
          if a.stop then s.drain q n 0
          else if t.pos ≥ p.kvMax then s.drain q n 1
          else if a.chunk then
            let s := s.modSlot q n (fun t => { t with
              chunkNo := t.chunkNo + 1, chunks := t.chunks.filter (· ≠ t.chunkNo), chunkDue := Map.del (α := Nat) t.chunkDue t.chunkNo })
            if t.left = 0 then s.modSlot q n (fun t => t.enterDecode p) else s.askChunk q n (t.chunkNo + 2) due
          else s
    | none =>
      if t.aborted then
        let s := (s.trueUp q n 0).modSlot q n (fun t => t.leaveStep t.order)
        match t.ending with
        | some r => s.drain q n r
        | none => s
      else if t.state = 4 ∧ !t.inStep ∧ 0 < t.reserved then s.trueUp q n 0
      else s
  let t := (s.quad q).slot n
  match t.cut with
  | some (c, cid) =>
    if t.state = 2 ∧ !t.inStep then (s.modSlot q n (fun t => { t with cut := none })).cutSlot q n c cid k else s
  | none => s

/-- Slots whose commit completed at or before L − 64, or whose group was aborted (R37, R273). -/
def QuadSt.scanned (x : QuadSt) (l : Nat) : List Nat :=
  (List.range 128).filter (fun n =>
    let t := x.slot n
    t.aborted || (t.state = 4 && !t.inStep && decide (0 < t.reserved)) ||
    match t.applied with | some a => decide (a.at' + 64 ≤ l) | none => false)

/-! ### Posting outputs (R282, R531) -/

/-- One output entry posted with timestamp L, its payload before it (R520, R531). -/
def State.postOutput (s : State) (q n ring step ord l : Nat) (codes : List Nat) : State :=
  match s.ring q ring with
  | none => s
  | some r =>
    if s.bit .HIF_STAT q 1 then s
    else
      let speech : Bool := (s.quad q).params.outKind = 1
      let slot := r.devCount % r.size
      let s := if speech then s.send (.hostWrite q (r.payload + slot * 128) (codes.flatMap (leBytes 4))) else s
      let words := [
        (if speech then 2 else 1) + ord * 2 ^ 8 + ((s.quad q).slot n).tag * 2 ^ 32, step % 2 ^ 40,
        if speech then codes.length else codes.headD 0 % 2 ^ 18, l % 2 ^ 63 + phaseOf r.devCount r.size * 2 ^ 63]
      (s.send (.output q ring (r.base + slot * 32) (words.map (BitVec.ofNat 64)) (if speech then codes.flatMap (leBytes 4) else []))).setRing
        q ring { r with devCount := (r.devCount + 1) % 2 ^ 32 }

/-- The outputs of a scanned commit posted in emission order, and the ring's interrupt (R282, R520); discarded when no output
ring is bound (R283). -/
def State.postOutputs (s : State) (q l n : Nat) : State :=
  let t := (s.quad q).slot n
  match t.applied with
  | none => s
  | some a =>
    let s := match t.outRing with
      | none => s
      | some ring =>
        let s := s.each a.outputs.zipIdx (fun s x => s.postOutput q n ring a.step x.2 l x.1)
        match s.ring q ring with
        | some r => if r.irq && !a.outputs.isEmpty && s.live q then s.noteVector q r.vector else s
        | none => s
    s.modSlot q n (fun t => { t with applied := none })

end Sys2Proof.Machine
end

