-- ==== Sys2Proof/Machine/LoaderOps.lean ====
section
/-! DEFINITION. The loader's operations (R407, R641 to R649, R666): the device tables of a plan, loading, starting and unloading. -/
namespace Sys2Proof.Machine

/-- The keeper changed by a function. -/
def State.modKeeper (s : State) (f : KeeperSt → KeeperSt) : State := { s with keeper := f s.keeper }

/-! ### Fabric tables (R407, R666) -/

/-- A register written with its access mask. -/
def State.loadReg (s : State) (r : Reg) (i v : Nat) : State := s.setReg r i (BitVec.ofNat 64 (v &&& r.info.rw))

/-- One entry of a link's slot table in both banks; the active bank of a link in ACTIVE or RETRAIN is not written (R396), and the other
then waits for its swap. -/
def State.loadSlot (s : State) (r : Reg) (bankBit port i v : Nat) : State :=
  let busy : Bool := s.linkState port = 5 || s.linkState port = 6
  s.each [0, 1] (fun s b =>
    if busy && decide (s.fld .LNK_STATE port bankBit bankBit = b) then s
    else
      let s := s.loadReg r ((b * 12 + port) * 2048 + i) v
      if busy then s.modPort port (fun p => { p with prepared := true }) else s)

/-- A table of 4,096 32-bit entries written. -/
def State.loadSlots (s : State) (r : Reg) (bankBit port : Nat) (ent : Nat → Nat) : State :=
  s.each (List.range 2048) (fun s i => s.loadSlot r bankBit port i (ent (2 * i) + ent (2 * i + 1) * 2 ^ 32))

/-- The destination entry of one device number. -/
def State.loadDest (s : State) (id v : Nat) : State :=
  let n := id % 65536
  let lo := 32 * (n % 2)
  s.setReg .LNK_DEST (n / 2) (putBits (s.reg .LNK_DEST (n / 2)) (lo + 31) lo (v &&& 0xFFFFF))

/-- The stored entries of a register from one index to another forgotten: they read as at reset. -/
def State.clearRange (s : State) (r : Reg) (lo hi : Nat) : State :=
  { s with regs := s.regs.filter (fun x => decide (x.1 < r.key lo ∨ r.key hi ≤ x.1)) }

/-- The tables of the block position `pos` of this device: every role there (R407, R666, R686), in the safe order
(DESIGN CHOICE, log entry 63). -/
def State.loadFabric (s : State) (p : Plan) : State :=
  let ss := imageSects p.image
  let pos := match p.me with | some m => m.pos | none => 0
  let rs := rolesAt p pos
  let flows := rs.flatMap (sectEntries ss 0x0C)
  let links := rs.flatMap (sectEntries ss 0x0B)
  let ports := (List.range 12).filter (fun pt => links.any (fun e => bytesAt e 0 1 = pt))
  -- the old keys off
  let s := s.each ((List.range 768).filter (fun k => decide (k % 64 ≠ 0))) (fun s k =>
    if s.bit .LNK_PKEY k 16 then s.setBit .LNK_PKEY k 16 false else s)
  let s := s.each (rs.flatMap (sectEntries ss 0x0D)) (fun s e => s.loadDest (p.placement.getD (bytesAt e 0 4) 0) (bytesAt e 4 4))
  let s := s.each rs (fun s r => s.each (sectEntries ss 0x0E r) (fun s e =>
    match p.roles[r]?, p.roles[bytesAt e 4 4]? with
    | some me, some peer =>
      let v := putBits (BitVec.ofNat 64 (bytesAt e 8 8)) 22 1 (p.placement.getD peer.pos 0 + peer.quad * 2 ^ 20)
      s.loadReg .QD_ELA_WIN (me.quad * 1024 + bytesAt e 0 2 % 1024) v.toNat
    | _, _ => s))
  -- receive flows, then receive slots: the partner's transmit entries (R369)
  let s := s.clearRange .LNK_RX_FLOW 0 786432
  let s := s.each (List.range 12) (fun s pt => s.each (portTable flows pt 1) (fun s x => s.loadReg .LNK_RX_FLOW (pt * 65536 + x.1 % 65536) x.2))
  let s := s.each (List.range 12) (fun s pt =>
    match s.acrossPort (bytesAt p.image 16 1) (bytesAt p.image 17 1) (bytesAt p.image 18 1) pos pt with
    | none => s
    | some pos' =>
      let es := (rolesAt p pos').flatMap (sectEntries ss 0x0B)
      if es.any (fun e => bytesAt e 0 1 = pt ^^^ 2) then s.loadSlots .LNK_RX_SLOT 20 pt (linkEntry es (pt ^^^ 2)) else s)
  -- transmit tags, then transmit slots
  let s := s.clearRange .LNK_TX_TAG 0 12288
  let s := s.each (List.range 12) (fun s pt => s.each (portTable flows pt 0) (fun s x => s.loadReg .LNK_TX_TAG (pt * 1024 + x.1 % 1024) x.2))
  let s := s.each ports (fun s pt => s.loadSlots .LNK_TX_SLOT 19 pt (linkEntry links pt))
  -- the new keys on, the tag last
  let s := s.each (List.range 12) (fun s pt => s.each ((portTable flows pt 2).filter (fun x => decide (x.1 % 64 ≠ 0))) (fun s x =>
    s.loadReg .LNK_PKEY (pt * 64 + x.1 % 64) x.2))
  s.setReg .KPR_SETUP_TAG 0 p.setupTag

/-! ### HBM windows and slots (R218, R229) -/

/-- A write of QD_HBM_SLOT instance r: a controller slot's byte and a byte of kind 2 or 3 stay. -/
def hbmSlotWrite (r : Nat) (old val : U64) : U64 :=
  (List.range 8).foldl (fun (w : U64) b =>
    if controllerSlot (8 * r + b) ∨ 2 ≤ bitsOf val (8 * b + 7) (8 * b + 6) then w
    else putBits w (8 * b + 7) (8 * b) (bitsOf val (8 * b + 7) (8 * b))) old

/-- The windows and slots of a plan: slots it does not list have no owner. -/
def State.loadHbm (s : State) (q : Nat) (p : Plan) : State :=
  let s := s.loadReg .QD_HBM_RD_WIN q (p.hbmValue 0)
  let s := s.loadReg .QD_HBM_WR_WIN q (p.hbmValue 1)
  s.each (List.range 512) (fun s r =>
    let v := ((List.range 8).map (fun b => p.hbmByte (8 * r + b) * 2 ^ (8 * b))).foldl (· + ·) 0
    s.setReg .QD_HBM_SLOT (q * 512 + r) (hbmSlotWrite r (s.reg .QD_HBM_SLOT (q * 512 + r)) (BitVec.ofNat 64 v)))

/-! ### Loading (R641) -/

/-- Manifests of a role that are not yet live (R232, R646). -/
def State.manifestsNeeded (s : State) (q : Nat) (p : Plan) : Nat :=
  (p.manifests.filter (fun m => !(s.quad q).shards.any (fun r => r.live && mfId r.words = mfId m && mfGen r.words = mfGen m))).length

/-- The bytes of a load report written to host memory (R646). -/
def State.loadReportAt (s : State) (f at' : Nat) (ws : List U64) : State :=
  if s.live f then s.send (.hostWrite f at' (ws.flatMap (fun w => leBytes 8 w.toNat))) else s

/-- Ports of this device that join it to another member of the plan's block (R471). -/
def State.memberPorts (s : State) (p : Plan) : List Nat :=
  let pos := match p.me with | some m => m.pos | none => 0
  (List.range 12).filter (fun pt =>
    match s.acrossPort (bytesAt p.image 16 1) (bytesAt p.image 17 1) (bytesAt p.image 18 1) pos pt with
    | some pos' => decide (pos' ≠ pos) && !(rolesAt p pos').isEmpty
    | none => false)

/-- The barrier tree and the member ports (R464, R471): the role of the lowest quadrant of the device governs. A barrier that did not
complete is discarded (R506). -/
def State.loadTree (s : State) (q : Nat) (p : Plan) : State :=
  if (List.range q).any (fun k => (s.quad k).plan.isSome) then s
  else match p.me with
    | none => s
    | some m =>
      let mask := (s.memberPorts p).foldl (fun n pt => n + 2 ^ pt) 0
      ((s.setFld .TB_SNAP_CFG 0 11 0 mask).setFld .TB_SNAP_CFG 0 15 12 m.parent).setFld .TB_SNAP_CFG 0 27 16 m.children

/-- The resources of a role's quadrant written in the order of R666, its cores quiet. -/
def State.loadQuad (s : State) (q : Nat) (p : Plan) (mesh : Map Nat) : State :=
  let s := s.each (physCores q) (fun s i => s.modCore i (fun c => c.stop.flush))
  let s := s.loadHbm q p
  let s := s.each (s.virtCores q) (fun s v => match s.phys v with | some i => s.loadPosition p v i | none => s)
  let s := s.each (if p.roles.length > 1 then s.virtCores q else []) (fun s v =>
    s.onCoreReg v (fun c => c.setFld .SEQ_CTRL 0 15 8 (max 4 (c.fld .SEQ_CTRL 0 15 8))))
  let mask := fun r => s.rowOut q r
  (s.writeMesh q 0 p mask mesh).writeMesh q 1 p mask mesh

/-- QD_MIRROR of a plan (R482, R509). -/
def State.loadMirror (s : State) (q : Nat) (p : Plan) : State :=
  match p.mirror with
  | some (dev, k) => s.setReg .QD_MIRROR q (BitVec.ofNat 64 (dev % 2 ^ 20 + k % 4 * 2 ^ 20 + 2 ^ 22 + s.fld .QD_MIRROR q 39 32 * 2 ^ 32))
  | none => s.setReg .QD_MIRROR q (BitVec.ofNat 64 (s.fld .QD_MIRROR q 39 32 * 2 ^ 32))

/-- A role that has passed its checks and its relocation taken by its quadrant. -/
def State.takeRole (s : State) (q : Nat) (p : Plan) (mesh : Map Nat) : State :=
  let s := if p.standby then s.setBit .KPR_QUAD_STAT q 2 true
    else
      let s := if p.setupTag ≠ 0 ∧ s.reg .KPR_SETUP_TAG 0 = p.setupTag then s else s.loadFabric p
      (s.loadQuad q p mesh).loadMirror q p
  let s := s.loadTree q p
  let s := ((s.setReg .QD_VARIANT q 0).setReg .QD_EPOCH_INDEX q 0).setReg .QD_LAUNCH_NEXT q 0
  let m := match p.me with | some m => m.master | none => false
  (s.modQuad q (fun x => { x with
    plan := some p, rule := {}, origin := 0, kv := 0, past := [], notice := none, unload := none, master := m, request := none, sustain := []
    reports := [], below := none, restart := none, begun := false, weight := none, repairs := [], announced := 0, moved := []
    admits := 0, rehearsed := false })).noteInUse q

/-- The loader's decision on a role (R641): its plan with relocated words and its mesh tables, or the failure. -/
def State.judgeLoad (s : State) (q : Nat) (img : List Byte) (role : Nat) (placement : List Nat) (tag : Nat) : (Plan × Map Nat) ⊕ LoadFail :=
  match s.loadFail q img role placement tag with
  | some f => .inr f
  | none =>
    let p := planOf img role q placement
    if p.standby then .inl (p, [])
    else match s.relocate q p.reloc 0 p with
      | .inr n => .inr { status := 0x7D, check := 0, item := n, sect := match findSect (imageSects img) 0x18 role 0xFF with | some x => x.no | none => 0xFFFF }
      | .inl p => match p.meshTable (fun r => s.rowOut q r) with
        | some t => .inl (p, t)
        | none => .inr { status := 0x77, check := 9 }

/-- Does a plan with another set-up tag run on the device (R653) (DEDUCED, log entry 64). -/
def State.tagClash (s : State) (tag : U64) : Bool :=
  (List.range 4).any (fun k => s.runs k && match (s.quad k).plan with | some p => decide (p.setupTag ≠ tag) | none => false)

/-- PLAN_LOAD (R641), in the place its command holds. `image` is what the host's memory holds at the image address, none when it cannot
be read; `tag` is the failure-domain tag of the mirror partner's device (R402). -/
def State.planLoad (s : State) (f : Nat) (ws : List U64) (image : Option (List Byte)) (placement : List Nat) (tag : Nat) : State :=
  let q := wf ws 4 33 32
  let role := wf ws 4 31 0
  let rep := (wordAt ws 3).toNat
  let done := fun (s : State) (status : Nat) => s.answer f 1 status (cmdCid ws) (cmdTag ws) 0 0
  if !cmdOk ws [2 ^ 64 - 4096, 2 ^ 40 - 1, 2 ^ 64 - 64, 2 ^ 34 - 1, 2 ^ 64 - 1] ∨ (f < 4 ∧ q ≠ f) then done s 0x31
  else match image with
    | none => done s 0x38
    | some b =>
      let img := b.take (wf ws 2 39 0)
      let s := s.recheckNow q
      let bad := fun (s : State) (x : LoadFail) => done (s.loadReportAt f rep (x.words role)) x.status
      if (s.quad q).plan.isSome ∨ s.runs q ∨ s.tagClash (BitVec.ofNat 64 (bytesAt img 24 8)) then bad s { status := 0x7C, check := 0 }
      else match s.judgeLoad q img role placement tag with
        | .inr x => bad s x
        | .inl (p, mesh) =>
          let p := { p with loadFn := f, reportAt := rep }
          let s := (s.freeFrozen q).takeRole q p mesh
          done (s.loadReportAt f rep [BitVec.ofNat 64 (0xFFFF * 2 ^ 16 + role % 2 ^ 24 * 2 ^ 40), 0, BitVec.ofNat 64 (s.manifestsNeeded q p), 0, 0,
            0, 0, 0]) 0

/-! ### Starting (R648) -/

/-- A start completes: its report, with a member in word 3, and its completion. -/
def State.endStart (s : State) (words : List U64) (status : Nat) : State :=
  match s.keeper.start with
  | none => s
  | some x =>
    ((s.modKeeper (fun k => { k with start := none })).loadReportAt x.fn x.report words).answer x.fn 1 status x.cid x.tag 0 0

/-- The role of a start's master quadrant. -/
def State.startRole (s : State) : Nat :=
  match s.keeper.start with
  | some x => match (s.quad x.quad).plan with | some p => p.role | none => 0
  | none => 0

/-- A start that ends with 0x7E, its report naming in word 3 a member: global ID and quadrant (R648). -/
def State.failStart (s : State) (member : Nat) : State :=
  s.endStart [BitVec.ofNat 64 (0x7E + 0xFFFF * 2 ^ 16 + s.startRole % 2 ^ 24 * 2 ^ 40), 0, 0, BitVec.ofNat 64 member, 0, 0, 0, 0] 0x7E

/-- A core with DIAG set in a quadrant of this device whose role the start of quadrant q would run: its role, and the failure
(R83; DEDUCED, log entry 102). -/
def State.diagOf (s : State) (q : Nat) : Option (Nat × LoadFail) :=
  (List.range 4).findSome? (fun k => match (s.quad k).plan with
    | some p => if k = q ∨ s.samePartition q k then (s.diagCore k).map (fun v => (p.role, diagFail v)) else none
    | none => none)

/-- PLAN_START (R641, R648), in the place its command holds, through function f at drip t; refused while DIAG is set (R83). -/
def State.planStart (s : State) (f : Nat) (ws : List U64) (t : Nat) : State :=
  let report := fun (words : List U64) (status : Nat) =>
    (s.loadReportAt f (wordAt ws 3).toNat words).answer f 1 status (cmdCid ws) (cmdTag ws) 0 0
  let holds := fun (q : Nat) => (match (s.quad q).plan with
    | some p => match p.me with | some m => m.master && !p.standby | none => false
    | none => false) && !s.runs q
  let q := if f < 4 then (if holds f then some f else none) else (List.range 4).find? holds
  if !cmdOk ws [0, 0, 2 ^ 64 - 64] then s.answer f 1 0x31 (cmdCid ws) (cmdTag ws) 0 0
  else match q, s.keeper.start with
    | some q, none => match s.diagOf q with
      | some (role, x) => report (x.words role) x.status
      | none => s.modKeeper (fun k => { k with
          start := some { quad := q, fn := f, cid := cmdCid ws, tag := cmdTag ws, report := (wordAt ws 3).toNat, since := t } })
    | _, _ => report [0x7C, 0, 0, 0, 0, 0, 0, 0] 0x7C

/-! ### Unloading (R649) -/

/-- Every occupied slot of a quadrant ended with reason 3, its open step credited (R278, R323, R649). -/
def State.endSlots (s : State) (q : Nat) : State :=
  s.each ((List.range 128).filter (fun n => decide (((s.quad q).slot n).state ≠ 0))) (fun s n =>
    let s := s.takeLost q n
    let s := if ((s.quad q).slot n).inStep then (s.trueUp q n 0).modSlot q n (fun t => t.leaveStep t.order) else s
    let st := ((s.quad q).slot n).state
    if st = 1 ∨ st = 2 then s.drain q n 3 else s.endNote q n)

/-- The admission queue emptied, each entry completed with 0x1B (R275). -/
def State.emptyQueue (s : State) (q : Nat) : State :=
  let s := s.each (s.quad q).adm (fun s e => s.answer q 2 0x1B e.2.cid e.2.tag 0 0)
  s.modQuad q (fun x => { x with adm := [] })

/-- The plan leaves the quadrant (R649): recovery and plan-fault state end with it, sequencers left faulted may run again (R62). -/
def State.dropPlan (s : State) (q : Nat) : State :=
  let s := s.each (physCores q) (fun s i => s.modCore i (fun c => { c with seq := { c.seq with run := .stopped } }))
  let s := (s.setFld .QD_VARIANT q 8 3 0).setReg .QD_SWITCH_COUNT q 0
  let s := (s.setFld .QD_RECOVERY q 3 0 0).setReg .QD_RESTART_AT q 0
  let s := (s.setFld .QD_MIRROR q 23 0 0).setBit .KPR_QUAD_STAT q 2 false
  let s := s.each (List.range 8) (fun s r => if s.outMask q r = s.rowOut q r then s else s.mapRow q r (s.rowOut q r))
  s.modQuad q (fun x => { x with
    plan := none, master := false, notice := none, unload := none, restart := none, begun := false, weight := none, repairs := []
    moved := [], detour := false, request := none, sustain := [], reports := [], below := none, groups := [], drawQ := [], serving := none })

/-- The stop of R649, in its order: sequencers and queues, groups, with FORCE the slots, the admission queue, the plan. -/
def State.stopPlan (s : State) (q : Nat) (force : Bool) : State :=
  let s := s.each (physCores q) (fun s i => s.modCore i (fun c => c.stop.flush))
  let s := s.abortGroups q
  let s := if force then s.endSlots q else s
  (s.emptyQueue q).dropPlan q

/-- The stop of a running plan at its launch, and the completion of its command. -/
def State.unloadNow (s : State) (q : Nat) : State :=
  match (s.quad q).unload with
  | none => s
  | some (force, f, cid, tag) =>
    let many := match (s.quad q).plan with | some p => decide (p.roles.length > 1) | none => false
    let s := s.stopPlan q force
    let s := if many then s.send (.message 8 [s.globalId, q]) else s
    s.answer f 1 0 cid tag 0 0

/-- PLAN_UNLOAD (R641, R649), in the place its command holds (DEDUCED, log entry 65). -/
def State.planUnload (s : State) (f : Nat) (ws : List U64) : State :=
  let q := wf ws 4 33 32
  let force : Bool := wf ws 1 0 0 = 1
  let done := fun (s : State) (status : Nat) => s.answer f 1 status (cmdCid ws) (cmdTag ws) 0 0
  if !cmdOk ws [1, 0, 0, 3 * 2 ^ 32] ∨ (f < 4 ∧ q ≠ f) then done s 0x31
  else if (s.quad q).plan.isNone ∨ (s.quad q).unload.isSome then done s 0x7C
  else if !force ∧ (List.range 128).any (fun n => decide (((s.quad q).slot n).state ≠ 0)) then done s 0x7F
  else
    let s := match s.keeper.start with
      | some x => if !x.released && (x.quad = q || s.samePartition x.quad q) then s.failStart (s.globalId + q * 2 ^ 20) else s
      | none => s
    if s.runs q then s.modQuad q (fun x => { x with unload := some (force, f, cmdCid ws, cmdTag ws) })
    else done (s.stopPlan q force) 0

end Sys2Proof.Machine
end

