-- ==== Sys2Proof/Machine/Loader.lean ====
section
/-! DEFINITION. The plan commands (R641 to R649) as rows of their own, and the loader's link test (R645). -/
namespace Sys2Proof.Machine

/-- A plan command of function f's ring: its entry was handed to the loader with its place held, or it takes a place now. -/
def State.asLoad (s : State) (f : Nat) (ws : List U64) (go : State → State) : State :=
  if s.keeper.loads.contains (f, ws) then go (s.modKeeper (fun k => { k with loads := k.loads.erase (f, ws) }))
  else s.withPlaces f ws go

/-- PLAN_LOAD (R641). `image` and `placement` are what the host's memory holds at the command's addresses, none when the image cannot be
read; `tag` is the failure-domain tag of the mirror partner's device (R402), a fact of another device. -/
def execPlanLoad (f : Fin 5) (entry : Entry) (image : Option (List Byte)) (placement : List (BitVec 32)) (tag : BitVec 16) (s : State) :
    Host.Outcome State Fault Refusal :=
  .next (s.asLoad f (entryWords entry) (fun s =>
    s.planLoad f (entryWords entry) image (placement.map (fun w => w.toNat % 2 ^ 20)) tag.toNat))

/-- PLAN_START (R648). -/
def execPlanStart (f : Fin 5) (entry : Entry) (t : U64) (s : State) : Host.Outcome State Fault Refusal :=
  .next ((s.at' t.toNat).withPlaces f (entryWords entry) (fun s => s.planStart f (entryWords entry) t.toNat))

/-- PLAN_UNLOAD (R649). -/
def execPlanUnload (f : Fin 5) (entry : Entry) (s : State) : Host.Outcome State Fault Refusal :=
  .next (s.withPlaces f (entryWords entry) (fun s => s.planUnload f (entryWords entry)))

/-- The present barrier discarded and the next number taken (R506). -/
def State.discardBarrier (s : State) : State :=
  ((s.bumpWrap .TB_SNAP_STAT 0 5 0 1).setBit .TB_SNAP_STAT 0 6 false).modTime (fun x => { x with arrived := [] })

/-- The first member of this device's view that has not arrived (R648): its own first quadrant, or the partner of its first child port
that sent no ARRIVE (DEDUCED, log entry 66). -/
def State.missing (s : State) : Nat :=
  if !s.bit .TB_SNAP_STAT 0 6 then
    s.globalId + ((List.range 4).find? (fun q => (s.quad q).plan.isSome && !s.runs q)).getD 0 * 2 ^ 20
  else match (maskPorts (s.fld .TB_SNAP_CFG 0 27 16)).find? (fun p => !s.time.arrived.contains p) with
    | some p => s.fld .LNK_PEER p 19 0
    | none => s.globalId

/-- A start whose barrier has not completed within 10 s abandoned (R648, R506). -/
def State.startTimeout (s : State) (t : Nat) : State :=
  match s.keeper.start with
  | some x => if !x.released && decide (x.since + 10000000000 ≤ t) then (s.failStart s.missing).discardBarrier else s
  | none => s

/-- START_BARRIER_TIMEOUT (R648). -/
def execStartBarrierTimeout (t : U64) (s : State) : Host.Outcome State Fault Refusal := .next ((s.at' t.toNat).startTimeout t.toNat)

/-- A new round-trip report at the master's loader (R645): the figure kept, and the link test rerun for a running plan, whose failure is a
report and a notice. -/
def State.rttReport (s : State) (id port rtt scale : Nat) : State :=
  let s := s.modKeeper (fun k => { k with rtts := Map.set (α := Nat) k.rtts (id * 16 + port) (rtt * 64 + scale) })
  match (List.range 4).find? (fun q => (s.quad q).master && s.runs q &&
      match (s.quad q).plan with | some p => p.placement.contains id | none => false) with
  | none => s
  | some q => match (s.quad q).plan with
    | none => s
    | some p => match s.linkFail p s.keeper.rtts (some (p.placement.idxOf id, port)) with
      | none => s
      | some (role, f) =>
        let own := match (List.range 4).find? (fun k => s.samePartition q k && match (s.quad k).plan with | some y => y.role = role | none => false) with
          | some k => k
          | none => q
        let (fn, a) := match (s.quad own).plan with | some y => (y.loadFn, y.reportAt) | none => (p.loadFn, p.reportAt)
        let ws := f.words role
        (s.loadReportAt fn a ws).notice (some own) 0x0D (wordAt ws 0).toNat (wordAt ws 1).toNat

/-- LINK_RTT_REPORT (R645): a member's port, its round-trip time and its slot time in units of 1.36 drips. -/
def execLinkRttReport (id : BitVec 20) (port : Fin 12) (rtt : BitVec 16) (scale : Fin 64) (s : State) :
    Host.Outcome State Fault Refusal :=
  .next (s.rttReport id.toNat port rtt.toNat scale)

end Sys2Proof.Machine
end

