-- ==== Sys2Proof/Machine/HangOps.lean ====
section
/-! DEFINITION. Hang analysis (R628, R629): the edges of the wait-for graph that this device's own state gives, and the report. -/
namespace Sys2Proof.Machine

/-- Observation changed by a function. -/
def State.modTrace (s : State) (f : TraceSt → TraceSt) : State := { s with trace := f s.trace }

/-- A node (R629): global ID, quadrant, node kind, unit, sub-unit. -/
def hangNode (id q kind unit sub : Nat) : Nat :=
  id % 2 ^ 20 + q % 4 * 2 ^ 20 + kind % 16 * 2 ^ 22 + unit % 65536 * 2 ^ 26 + sub % 65536 * 2 ^ 42

/-- An edge record (R629), its CYCLE bit 0. -/
def hangEdge (kind rehearse detail arg from' to' since : Nat) : List U64 :=
  [BitVec.ofNat 64 (kind + rehearse % 2 * 2 ^ 9 + detail % 2 ^ 22 * 2 ^ 10 + arg % 2 ^ 32 * 2 ^ 32), BitVec.ofNat 64 from',
   BitVec.ofNat 64 to', BitVec.ofNat 64 since]

/-- The queue that holds the most entries, the lowest on a tie. -/
def CoreSt.fullest (c : CoreSt) : Nat :=
  (List.range 4).foldl (fun b k => if (c.queue b).ents.length < (c.queue k).ents.length then k else b) 0

/-- The queue of the earlier descriptor a head waits on (R96). -/
def CoreSt.blocker (c : CoreSt) (k : Nat) (e : QEntry) : Option Nat :=
  (List.range 4).find? (fun j => decide (j ≠ k) && (c.queue j).ents.any (fun f =>
    decide (f.seqNo < e.seqNo) && e.claims.any (fun a => f.claims.any (fun b => a.conflicts b))))

/-- The virtual core of a quadrant whose flow table sends a tag (R355). -/
def State.flowSource (s : State) (q tag : Nat) : Option Nat :=
  (s.virtCores q).find? (fun v => match s.vcore v with
    | none => false
    | some c => (List.range 1024).any (fun i =>
        let w := c.reg .MSH_FLOW i
        w ≠ 0 && decide (bitsOf w 9 0 = tag) && decide (bitsOf w 12 10 ≤ 2)))

/-- The edges of virtual core v (R629): heads on claims, pushes, event waits, awaited flows, halted queues, a late epoch and
held flagged requests (DEDUCED, log entry 56). -/
def State.coreEdges (s : State) (v : Nat) (c : CoreSt) : List (List U64) :=
  let id := s.globalId
  let q := v / 64
  let seq := hangNode id q 0 v 0
  let queue := fun (k : Nat) => hangNode id q 1 v k
  let heads := (List.range 4).filterMap (fun k =>
    match (c.queue k).ents.find? (fun e => e.st = .waiting) with
    | some e => (c.blocker k e).map (fun j => hangEdge 1 0 0 0 (queue k) (queue j) 0)
    | none => none)
  let waits := match c.seq.run with
    | .waiting (.pushFull r) => [hangEdge 2 0 0 0 seq (queue r.queue) 0]
    | .waiting (.pushClaims _) => [hangEdge 3 0 0 0 seq (queue c.fullest) 0]
    | .waiting (.pushRefused _) => [hangEdge 3 0 0 0 seq (queue c.fullest) 0]
    | .waiting (.event ev _) => [hangEdge 4 0 0 0 seq (hangNode id q 2 v ev) 0]
    | .waiting (.queue k _) => [hangEdge 2 0 0 0 seq (queue k) 0]
    | _ => []
  let flows := ((c.executing 3).filter (fun e => decide (e.desc.op = 1) && decide (e.moved < e.desc.f 4 23 0 + 1))).map (fun e =>
    let w := c.reg .MSH_FLOW (e.desc.flow % 1024)
    let to' := match s.flowSource q (bitsOf w 9 0) with
      | some u => hangNode id q 1 u 3
      | none => hangNode id (portQuad (bitsOf w 31 28)) 3 (bitsOf w 31 28) 0
    hangEdge 5 0 0 0 (queue 3) to' 0)
  let halts := (List.range 4).filterMap (fun k =>
    if (c.queue k).halted then some (hangEdge 6 0 (bitsOf (c.reg .CORE_FAULT_RECORD 0) 7 0) 0 (queue k) (queue k) 0) else none)
  let late := if c.fld .CORE_EPOCH_STAT 0 31 0 = 0 then [] else [hangEdge 7 0 0 (c.fld .CORE_EPOCH_STAT 0 31 0) seq seq 0]
  let held := c.held.map (fun h =>
    let e := s.reg .QD_ELA_WIN (q * 1024 + h.win)
    hangEdge 8 0 0 0 (hangNode id q 5 h.win (pkGroup h.pkt)) (hangNode (pkSrc h.pkt) (bitsOf e 22 21) 5 (bitsOf e 32 23) (pkReq h.pkt)) h.since)
  heads ++ waits ++ flows ++ halts ++ late ++ held

/-- Elastic requests outstanding and waiting windows of a quadrant (R419, R629). -/
def State.windowEdges (s : State) (q : Nat) : List (List U64) :=
  (s.quad q).wins.flatMap (fun (x : Nat × WinSt) =>
    let e := s.reg .QD_ELA_WIN (q * 1024 + x.1)
    x.2.reqs.map (fun r => hangEdge 9 0 0 0 (hangNode s.globalId q 1 r.core 3) (hangNode (bitsOf e 20 1) (bitsOf e 22 21) 5 (bitsOf e 32 23) r.id)
      (r.waiting.getD r.sentAt)))

/-- Every edge that this device's state gives now. -/
def State.hangEdges (s : State) : List (List U64) :=
  let id := s.globalId
  let cores := (List.range 256).flatMap (fun v => match s.vcore v with | some c => s.coreEdges v c | none => [])
  let wins := (List.range 4).flatMap s.windowEdges
  let ports := (List.range 12).filterMap (fun p =>
    if s.bit .LNK_CTRL p 0 && decide (s.linkState p ≠ 5) then
      let n := hangNode id (portQuad p) 3 p 0
      some (hangEdge 10 0 (s.linkState p) 0 n n 0)
    else none)
  let slots := (List.range 4).flatMap (fun q => (s.quad q).slots.filterMap (fun (e : Nat × SlotSt) =>
    if e.2.state ≠ 0 ∧ e.2.state ≠ 4 ∧ e.2.hold ≠ 0 ∧ !e.2.inStep then
      let n := hangNode id q 4 e.1 0
      some (hangEdge 11 0 e.2.hold 0 n n 0)
    else none))
  cores ++ wins ++ ports ++ slots

/-- FROM and TO of an edge. -/
def edgeFrom (e : List U64) : Nat := (wordAt e 1).toNat
/-- TO. -/
def edgeTo (e : List U64) : Nat := (wordAt e 2).toNat

/-- The nodes reached from some nodes along the edges, by fuel: the number of edges. -/
def hangReach (edges : List (List U64)) : Nat → List Nat → List Nat
  | 0, seen => seen
  | n + 1, seen =>
    let new := ((edges.filter (fun e => seen.contains (edgeFrom e))).map edgeTo).eraseDups.filter (fun x => !seen.contains x)
    if new.isEmpty then seen else hangReach edges n (seen ++ new)

/-- CYCLE set on every edge that lies on a directed cycle (R628). -/
def markCycles (edges : List (List U64)) : List (List U64) :=
  edges.map (fun e =>
    if (hangReach edges edges.length [edgeTo e]).contains (edgeFrom e) then (wordAt e 0 ||| 256#64) :: e.drop 1 else e)

/-- Does the search still see a device (R628). -/
def HangSt.knows (h : HangSt) (dev : Nat) : Bool := h.visited.contains dev || h.asked.any (fun a => decide (a.1 = dev))

/-- The devices that edges lead to asked for their edges from those nodes, when they lie within the depth (R419, R628). -/
def State.hangAsk (s : State) (depth : Nat) (edges : List (List U64)) : State :=
  s.each edges (fun s e => match s.trace.hang with
    | none => s
    | some h =>
      let dev := edgeTo e % 2 ^ 20
      if dev = s.globalId ∨ h.hops ≤ depth ∨ h.knows dev then s
      else (s.modTrace (fun x => { x with hang := some { h with asked := h.asked ++ [(dev, depth + 1)] } })).send
        (.message 22 [s.globalId, dev, edgeTo e]))

/-- The report written (R628, R629): own edges tested again and dropped when their wait has ended, cycles marked, and the header; or
kept in the keeper's memory when no command asked for it. -/
def State.hangDone (s : State) (h : HangSt) : State :=
  let own := s.hangEdges
  let all := h.edges.filter (fun e => decide (edgeFrom e % 2 ^ 20 ≠ s.globalId) || own.contains e)
  let kept := markCycles all
  let keep := kept.take (h.limit - 1)
  let head := [BitVec.ofNat 64 ((keep.length + 1) * 2 ^ 32), BitVec.ofNat 64 h.since, BitVec.ofNat 64 (h.visited.length),
    BitVec.ofNat 64 (kept.length - keep.length)]
  let recs := if h.limit = 0 then [] else head :: keep
  let s := s.modTrace (fun x => { x with hang := none })
  match h.cmd with
  | none => s.modTrace (fun x => { x with lastHang := some recs })
  | some (cid, tag) =>
    (s.send (.hostWrite 4 h.addr (recs.flatMap (fun r => r.flatMap (fun w => leBytes 8 w.toNat))))).answer 4 1 0 cid tag 0 0

/-- The report ends once no reply is awaited. -/
def State.hangTry (s : State) : State :=
  match s.trace.hang with
  | some h => if h.asked.isEmpty then s.hangDone h else s
  | none => s

/-- A report begun (R628). -/
def State.hangStart (s : State) (h : HangSt) : State :=
  let es := s.hangEdges
  let s := s.modTrace (fun x => { x with hang := some { h with edges := es, visited := [s.globalId] } })
  (s.hangAsk 0 es).hangTry

/-- A report ended early by a live keeper update, with what it has (R636). -/
def State.hangCut (s : State) : State := match s.trace.hang with | some h => s.hangDone h | none => s

/-- Another keeper's reply (R628): its edges from the node it was asked for, or none when it could not be reached. -/
def State.hangReply (s : State) (dev : Nat) (reply : Option (List (List U64))) : State :=
  match s.trace.hang with
  | none => s
  | some h => match h.asked.find? (fun a => decide (a.1 = dev)) with
    | none => s
    | some (_, depth) =>
      let asked := h.asked.filter (fun a => decide (a.1 ≠ dev))
      match reply with
      | some es =>
        let h := { h with asked := asked, visited := h.visited ++ [dev], edges := h.edges ++ es.filter (fun e => !h.edges.contains e) }
        ((s.modTrace (fun x => { x with hang := some h })).hangAsk depth es).hangTry
      | none =>
        let from' := ((h.edges.find? (fun e => decide (edgeTo e % 2 ^ 20 = dev))).map edgeFrom).getD 0
        let to' := ((h.edges.find? (fun e => decide (edgeTo e % 2 ^ 20 = dev))).map edgeTo).getD 0
        let h := { h with asked := asked, edges := h.edges ++ [hangEdge 12 0 0 0 from' to' 0] }
        (s.modTrace (fun x => { x with hang := some h })).hangTry

/-- This device's edges from a node and from what they reach on it (R628), answered to the keeper that asked. -/
def State.hangAnswer (s : State) (from' node : Nat) : State :=
  let es := s.hangEdges
  let seen := hangReach es es.length [node]
  s.send (.message 23 ([from'] ++ (es.filter (fun e => seen.contains (edgeFrom e))).flatMap (fun e => e.map BitVec.toNat)))

end Sys2Proof.Machine
end

