-- ==== Sys2Proof/Machine/Crypto.lean ====
section
/-! DEFINITION. The check of an ECDSA signature over the curve P-384 (FIPS 186-5), by which images
(R566), remote resets (R553) and debug unlocks (R630) are verified. -/
namespace Sys2Proof.Machine

/-! ### P-384 -/

/-- The field prime. -/
def p384P : Nat := 2 ^ 384 - 2 ^ 128 - 2 ^ 96 + 2 ^ 32 - 1
/-- The coefficient b; the coefficient a is −3. -/
def p384B : Nat :=
  0xb3312fa7e23ee7e4988e056be3f82d19181d9c6efe8141120314088f5013875ac656398d8a2ed19d2a85c8edd3ec2aef
/-- The order of the base point. -/
def p384N : Nat :=
  0xffffffffffffffffffffffffffffffffffffffffffffffffc7634d81f4372ddf581a0db248b0a77aecec196accc52973
/-- The base point. -/
def p384G : Nat × Nat :=
  (0xaa87ca22be8b05378eb1c71ef320ad746e1d3b628ba79b9859f741e082542a385502f25dbf55296c3a545e3872760ab7,
   0x3617de4a96262c6f5d9e98bf9292dc29f8f41dbd289a147ce9da3113b5f0b8c00a60b1ce1d7e819d7a431d7c90ea0e5f)

/-- b to the power e modulo m, by the bits of e, `f` of them. -/
def powMod (m : Nat) : Nat → Nat → Nat → Nat
  | 0, _, _ => 1 % m
  | f + 1, b, e =>
    let r := powMod m f (b * b % m) (e / 2)
    if e % 2 = 1 then b * r % m else r
/-- The inverse modulo a prime below 2^384. -/
def invMod (m a : Nat) : Nat := powMod m 384 (a % m) (m - 2)
/-- a − b modulo the field prime. -/
def subP (a b : Nat) : Nat := (a + p384P - b % p384P) % p384P

/-- A point of the curve in Jacobian coordinates X, Y, Z: the affine point is (X / Z², Y / Z³), and Z is 0 at infinity. -/
structure P384 where
  x : Nat
  y : Nat
  z : Nat
  deriving DecidableEq, Repr

/-- The point at infinity. -/
def p384Zero : P384 := ⟨1, 1, 0⟩

/-- Twice a point. -/
def p384Double (p : P384) : P384 :=
  let z2 := p.z * p.z % p384P
  let y2 := p.y * p.y % p384P
  let m := 3 * (subP p.x z2 * (p.x + z2)) % p384P
  let s := 4 * p.x * y2 % p384P
  let x3 := subP (m * m) (2 * s)
  ⟨x3, subP (m * subP s x3) (8 * y2 * y2), 2 * p.y * p.z % p384P⟩

/-- The sum of two points. -/
def p384Add (p q : P384) : P384 :=
  if p.z = 0 then q
  else if q.z = 0 then p
  else
    let a := p.z * p.z % p384P
    let b := q.z * q.z % p384P
    let u := p.x * b % p384P
    let s := p.y * b * q.z % p384P
    let h := subP (q.x * a) u
    let r := subP (q.y * a * p.z) s
    if h = 0 then (if r = 0 then p384Double p else p384Zero)
    else
      let h2 := h * h % p384P
      let h3 := h * h2 % p384P
      let v := u * h2 % p384P
      let x3 := subP (r * r) (h3 + 2 * v)
      ⟨x3, subP (r * subP v x3) (s * h3), h * p.z * q.z % p384P⟩

/-- A multiple of a point, by the bits of the factor, `f` of them. -/
def p384Mul : Nat → Nat → P384 → P384
  | 0, _, _ => p384Zero
  | f + 1, k, q =>
    let r := p384Mul f (k / 2) (p384Double q)
    if k % 2 = 1 then p384Add q r else r

/-- Is (x, y) a point of the curve. -/
def onP384 (x y : Nat) : Bool :=
  decide (x < p384P ∧ y < p384P) && (y * y % p384P = (subP (x * x * x) (3 * x) + p384B) % p384P)

/-- Does an ECDSA signature, r then s, 48 bytes each and big-endian, verify over a digest under a public key, x then y. -/
def ecdsaOk (key sig : List Byte) (digest : Nat) : Bool :=
  let x := ofBe (key.take 48)
  let y := ofBe ((key.drop 48).take 48)
  let r := ofBe (sig.take 48)
  let s := ofBe ((sig.drop 48).take 48)
  if !onP384 x y ∨ r = 0 ∨ p384N ≤ r ∨ s = 0 ∨ p384N ≤ s then false
  else
    let w := invMod p384N s
    let v := p384Add (p384Mul 384 (digest * w % p384N) ⟨p384G.1, p384G.2, 1⟩) (p384Mul 384 (r * w % p384N) ⟨x, y, 1⟩)
    v.z ≠ 0 && decide (v.x * invMod p384P (v.z * v.z) % p384P % p384N = r)

end Sys2Proof.Machine
end

