-- ==== Sys2Proof/Machine/PowerOps.lean ====
section
/-! DEFINITION. The operations of the power and thermal governors (R594 to R604): sensor classes and limits, throttle scopes, and
the cap each core's clock is held to. -/
namespace Sys2Proof.Machine

/-- The governors changed by a function. -/
def State.modPower (s : State) (f : PowerSt → PowerSt) : State := { s with power := f s.power }

/-! ### Sensors (R599, R600) -/

/-- The classes of sensors of R600. -/
inductive SensorClass where
  | rowPair | die | hbm | io | optical | stage | diode
  deriving DecidableEq, Repr

/-- The class of a sensor (R599). -/
def sensorClass (n : Nat) : SensorClass :=
  if n < 48 then (if n % 12 < 8 then .rowPair else .die)
  else if n < 52 then .hbm else if n < 56 then .io else if n < 58 then .optical else if n < 60 then .stage else .diode

/-- The throttle scope of a sensor (R600): 0 to 15 row-pairs, 16 to 19 quadrants, 20 the device; none where it has none. -/
def sensorScope (n : Nat) : Option Nat :=
  match sensorClass n with
  | .rowPair => some (n / 12 * 4 + n % 12 / 2)
  | .die => some (16 + n / 12)
  | .hbm | .io => some (16 + n % 4)
  | .stage => some 20
  | .optical | .diode => none

/-- DIE_THROTTLE in °C, values outside 75 to 95 taken as 95 (R611). -/
def State.dieThrottle (s : State) : Nat :=
  let d := s.fld .PWR_THERM_CFG 0 6 0
  if 75 ≤ d ∧ d ≤ 95 then d else 95

/-- The throttle limit of a sensor in units of 1/256 °C (R600); none for a diode. -/
def State.throttleAt (s : State) (n : Nat) : Option Int :=
  match sensorClass n with
  | .rowPair | .die => some (s.dieThrottle * 256)
  | .hbm => some (95 * 256)
  | .io => some (100 * 256)
  | .optical => some (75 * 256)
  | .stage => some (110 * 256)
  | .diode => none

/-- The trip limit of a sensor in units of 1/256 °C (R600). -/
def tripAt (n : Nat) : Int :=
  match sensorClass n with
  | .rowPair | .die | .diode => 110 * 256
  | .hbm => 105 * 256
  | .io => 115 * 256
  | .optical => 85 * 256
  | .stage => 125 * 256

/-- TEMP of a sensor. -/
def State.temp (s : State) (n : Nat) : Int := sext 16 (s.fld .PWR_TEMP n 15 0)
/-- The sensors that act on a scope. -/
def scopeSensors (k : Nat) : List Nat := (List.range 64).filter (fun n => sensorScope n = some k)

/-! ### Caps (R596, R598, R601, R602, R604) -/

/-- The step a scope with a failed sensor is held at on a quadrant (R604): the running variant's floor, or 26. -/
def State.heldStep (s : State) (q : Nat) : Nat :=
  if s.runs q then (match s.variant q with | some v => floorStep v.floor | none => 26) else 26

/-- A scope's thermal cap as it acts on a core of quadrant q. -/
def State.scopeCap (s : State) (q k : Nat) : Nat :=
  if s.power.invalid.any (fun n => sensorScope n = some k) then s.heldStep q
  else Map.get (α := Nat) s.power.caps k 40

/-- The cap of a physical core: the lowest of its scopes' thermal caps and the device power cap (R602). -/
def State.coreCap (s : State) (p : Nat) : Nat :=
  let q := p / 72
  min (min (s.scopeCap q (q * 4 + p % 72 / 18)) (s.scopeCap q (16 + q))) (min (s.scopeCap q 20) (s.fld .PWR_GOV_STAT 0 37 32))

/-- CLK_CORE_CTRL.CAP rewritten wherever it has changed (R602). -/
def State.writeCaps (s : State) : State :=
  s.each (List.range 288) (fun s p =>
    let c := s.coreCap p
    if (s.core p).fld .CLK_CORE_CTRL 0 11 6 = c then s
    else
      let s := s.modCore p (fun x => x.setFld .CLK_CORE_CTRL 0 11 6 c)
      match s.virtOf p with
      | some v => s.judgeClock v
      | none => s)

/-- POWER_CAP from the steps of its two governors (DEDUCED, log entry 46). -/
def State.powerCap (s : State) : State :=
  (s.setFld .PWR_GOV_STAT 0 37 32 (40 - (s.power.back + s.power.ceil))).writeCaps

end Sys2Proof.Machine
end

