-- ==== Sys2Proof/Machine/Link.lean ====
section
/-! DEFINITION. The Jalben link commands (R370 to R397). -/
namespace Sys2Proof.Machine

/-- LINK_UNIT_TRANSMIT (R370 to R376). -/
def execLinkUnitTransmit (port : Fin 12) (t : U64) (s : State) : Host.Outcome State Fault Refusal :=
  .next (s.transmit port t.toNat)

/-- LINK_UNIT_RECEIVE (R373 to R380). -/
def execLinkUnitReceive (port : Fin 12) (words : List LaneWord) (t : U64) (s : State) : Host.Outcome State Fault Refusal :=
  .next (s.receiveWords port words t.toNat)

/-- ACK_TIMER (R373): 400 drips after the last ACK, when P has advanced. -/
def execAckTimer (port : Fin 12) (t : U64) (s : State) : Host.Outcome State Fault Refusal :=
  let p := s.port port
  .next (if p.lastAckAt + 400 ≤ t.toNat ∧ p.point ≠ p.lastAck then
    (s.at' t.toNat).setPort port { p with ackQ := p.ackQ ++ [p.point], lastAck := p.point, lastAckAt := t.toNat }
  else s)

/-- The oldest unit of the replay buffer replayed once its timer of LNK_RTT + 600 expires (R376). -/
def State.replayTimeout (s : State) (port t : Nat) : State :=
  let p := s.port port
  match p.buffer with
  | [] => s
  | u :: _ =>
    if u.sentAt + s.fld .LNK_RTT port 15 0 + 600 ≤ t then
      let p' := { p with buffer := p.buffer.map (fun x => if x.seq = u.seq then { x with sentAt := t } else x) }
      s.setPort port (if p.replayQ.any (fun r => r.1 = u.seq) then p'
        else { p' with replayQ := p'.replayQ ++ [(u.seq, u.slot.getD 0, true)] })
    else s

/-- REPLAY_TIMEOUT (R376). -/
def execReplayTimeout (port : Fin 12) (t : U64) (s : State) : Host.Outcome State Fault Refusal :=
  .next ((s.at' t.toNat).replayTimeout port t.toNat)

/-- PROBE_BURST (R381). -/
def execProbeBurst (port : Fin 12) (s : State) : Host.Outcome State Fault Refusal :=
  .next (if s.linkState port = 1 then s.send (.symbol port 5 [0]) else s)

/-- PROBE_RECEIVE (R381): whether a burst carried PROBE codewords; two consecutive ones lead to ACQUIRE. -/
def execProbeReceive (port : Fin 12) (probe : Bool) (s : State) : Host.Outcome State Fault Refusal :=
  .next (if s.linkState port = 1 then
    (if !probe then s.modPort port (fun p => { p with probes := 0 })
     else if (s.port port).probes ≥ 1 then (s.setLink port 2).modPort port PortSt.retrainFresh
     else s.modPort port (fun p => { p with probes := p.probes + 1 }))
  else s)

/-- LANES_LOCKED (R381, R392). -/
def execLanesLocked (port : Fin 12) (lanes : BitVec 8) (s : State) : Host.Outcome State Fault Refusal :=
  .next (if s.linkState port = 2 then
    match s.widthFor port (s.wantWidth port) lanes.toNat with
    | some w => ((s.setWidth port w (s.fld .LNK_CTRL port 3 3)).setFld .LNK_STATE port 13 6 lanes.toNat).setLink port 3
    | none => s.setFld .LNK_STATE port 13 6 lanes.toNat
  else s)

/-- ALIGN_DONE (R362, R381, R383, R453): EXCHANGE, with IDENT sent; a skew between lanes of more than 160 drips fails alignment. -/
def execAlignDone (port : Fin 12) (skew : BitVec 16) (s : State) : Host.Outcome State Fault Refusal :=
  .next (if s.linkState port = 3 ∧ skew.toNat ≤ 160 then
    let s := ((s.setLink port 4).setBit .LNK_STATE port 15 false).freshStream port
    (s.modPort port (fun p => { p with txSlot := 0, rxSlot := 0 })).control port (s.identMsg port)
  else s)

/-- ACQUIRE_TIMEOUT (R381). -/
def execAcquireTimeout (port : Fin 12) (s : State) : Host.Outcome State Fault Refusal :=
  .next (if s.linkState port = 2 then
    (((s.setLink port 1).linkReason port 9).count port 15 1).modPort port PortSt.retrainFresh
  else s)

/-- ALIGN_TIMEOUT (R381). -/
def execAlignTimeout (port : Fin 12) (s : State) : Host.Outcome State Fault Refusal :=
  .next (if s.linkState port = 3 then s.setLink port 2 else s)

/-- EXCHANGE_TIMEOUT (R381) (DEDUCED, log entry 86). -/
def execExchangeTimeout (port : Fin 12) (s : State) : Host.Outcome State Fault Refusal :=
  .next (if s.linkState port = 4 then
    ((s.setLink port 1).linkReason port 9).modPort port PortSt.retrainFresh
  else s)

/-- An IDENT taken (R383, R384, R386): the peer, who leads, the digest comparison, and SYNC sent in answer. -/
def State.identify (s : State) (port id : Nat) (valid : Bool) (factory : U64) (peerPort dA dI : Nat) : State :=
  let mine : Bool := s.bit .KPR_FABRIC_ID 0 20
  let clash : Bool := valid && mine && decide (id = s.globalId)
  let lead : Bool :=
    if valid && mine && decide (id ≠ s.globalId) then decide (s.globalId < id)
    else decide (s.factory.toNat < factory.toNat)
  let s := s.setReg .LNK_PEER port (BitVec.ofNat 64 (id + (if valid then 2 ^ 23 else 0) + peerPort * 2 ^ 24))
  let s := ((s.setReg .LNK_PEER_FACTORY port factory).setBit .LNK_STATE port 15 true).setBit .LNK_STATE port 14 lead
  let s := s.modPort port (fun p => { p with identIn := true, peerDigest := [(0, dA), (1, dI)] })
  let s := if clash then (s.setBit .LNK_STATE port 17 true).linkNotice port else s
  let s := if valid && mine && decide (id / 65536 ≠ s.globalId / 65536) then s.linkNotice port else s
  let s := s.judgeDigest port dA
  (s.modPort port (fun p => { p with syncOut := true })).control port (s.syncMsg port)

/-- IDENT (R383, R386), taken during EXCHANGE. -/
def execIdent (port : Fin 12) (id : BitVec 20) (valid : Bool) (factory : U64) (peerPort : Fin 16)
    (digestActive digestInactive : BitVec 32) (s : State) : Host.Outcome State Fault Refusal :=
  .next (if s.linkState port = 4 then
    s.identify port id.toNat valid factory peerPort digestActive.toNat digestInactive.toNat
  else s)

/-- SYNC (R383, R388): units below the partner's P discarded; in EXCHANGE the port becomes ACTIVE once both ends have sent
SYNC, in a retrain CATCHUP begins at drip t, also in one that completes as a full training (DEDUCED, log entry 137). -/
def execSync (port : Fin 12) (point : BitVec 16) (t : U64) (s : State) : Host.Outcome State Fault Refusal :=
  let s' := s.modPort port (fun p => { p.acked point.toNat with syncIn := true, catchAt := t.toNat })
  .next (if s.linkState port = 4 then
    (if (s.port port).syncOut then
      (if s.rttTooLong port then
        (((s.setLink port 1).linkReason port 8).count port 15 1).modPort port PortSt.retrainFresh
       else if (s.port port).paused then (s'.setLink port 6).modPort port (fun p => { p with phase := some .catchup })
       else s'.activate port)
     else s')
  else if s.linkState port = 6 ∧ (s.port port).phase = some .sync then
    s'.modPort port (fun p => { p with phase := some .catchup })
  else s)

/-- DIGEST (R384, R397): the digest of the partner's armed bank. -/
def execDigest (port : Fin 12) (digest : BitVec 32) (s : State) : Host.Outcome State Fault Refusal :=
  .next (s.modPort port (fun p => { p with peerDigest := Map.set (α := Nat) p.peerDigest 1 digest.toNat }))

/-- LOSS_OF_SIGNAL (R382): in DOWN the lasers stay lit only while light is received (R381). -/
def execLossOfSignal (port : Fin 12) (t : U64) (s : State) : Host.Outcome State Fault Refusal :=
  .next (if s.linkState port = 5 ∨ s.linkState port = 6 then
    (((s.at' t.toNat).setLink port 1).linkReason port 6).declareDown port t.toNat
  else if s.linkState port = 7 then s.setBit .LNK_STATE port 21 false
  else s)

/-- RETRAIN_SYMBOL (R387, R391). -/
def execRetrainSymbol (port : Fin 12) (t : U64) (s : State) : Host.Outcome State Fault Refusal :=
  .next ((s.at' t.toNat).retrain port 4 t.toNat true)

/-- LANE_LOST (R387). -/
def execLaneLost (port : Fin 12) (t : U64) (s : State) : Host.Outcome State Fault Refusal :=
  .next ((s.at' t.toNat).retrain port 3 t.toNat true)

/-- Has every unit of the replay buffer been sent since the CATCHUP began (R388, R389). -/
def PortSt.caughtUp (p : PortSt) : Bool := p.buffer.all (fun u => u.slot.isSome && decide (p.catchAt ≤ u.sentAt))

/-- ALIGN of a retrain completes with some lanes locked (R385, R388, R392): the width is the decided or the present one, or the widest that
locked with AUTO_NARROW; a port that may not narrow goes to ACQUIRE. -/
def State.realign (s : State) (port lanes : Nat) : State :=
  let p := s.port port
  let (want, rate) := match p.target with
    | some d => (d % 4, d / 4 % 2)
    | none => (s.fld .LNK_STATE port 4 3, s.fld .LNK_STATE port 5 5)
  let s := s.setFld .LNK_STATE port 13 6 lanes
  match s.widthFor port want lanes with
  | none => (s.setLink port 2).modPort port PortSt.retrainFresh
  | some w =>
    let s := s.setWidth port w rate
    let s := match p.delay with
      | some d => s.setRtt port d
      | none => s
    ((s.freshStream port).modPort port (fun p => { p with phase := some .sync, syncOut := true, txSlot := 0, rxSlot := 0, sentIn := [] })).control port
      (s.syncMsg port)

/-- A phase of a retrain completes at drip t (R385, R388): the next begins, or ACTIVE resumes. Lanes skewed by more than 160 drips are not
aligned (R362). -/
def State.phaseDone (s : State) (port lanes skew t : Nat) : State :=
  let p := s.port port
  match p.phase with
  | none => s
  | some .pause => s.modPort port (fun p => { p with phase := some .align })
  | some .align => if 160 < skew then s else s.realign port lanes
  | some .sync => if p.syncIn then s.modPort port (fun p => { p with phase := some .catchup, catchAt := t }) else s
  | some .catchup => if p.caughtUp then s.activate port else s

/-- RETRAIN_PHASE_DONE (R388, R392): `lanes` and `skew` are what ALIGN found. -/
def execRetrainPhaseDone (port : Fin 12) (lanes : BitVec 8) (skew : BitVec 16) (t : U64) (s : State) : Host.Outcome State Fault Refusal :=
  .next (if s.linkState port = 6 then (s.at' t.toNat).phaseDone port lanes.toNat skew.toNat t.toNat else s)

/-- RETRAIN_PHASE_TIMEOUT (R388). -/
def execRetrainPhaseTimeout (port : Fin 12) (s : State) : Host.Outcome State Fault Refusal :=
  .next (if s.linkState port = 6 then
    ((s.setLink port 2).linkReason port 9).modPort port PortSt.retrainFresh
  else s)

/-- The configuration LNK_CTRL asks for, as RECONFIG carries it: width code and rate. -/
def State.wanted (s : State) (port : Nat) : Nat := s.wantWidth port + 4 * s.fld .LNK_CTRL port 3 3

/-- A configuration decided: an ACTIVE link reconfigures, and a retrain that has not aligned yet runs at it (R392, R399). -/
def State.decided (s : State) (port d : Nat) : State :=
  if s.linkState port = 5 then s.reconfigure port d
  else s.modPort port (fun p => { p with target := some (d % 8) })

/-- May a configuration be decided now: in ACTIVE, or in a retrain before its ALIGN is done (R392, R399). -/
def State.mayDecide (s : State) (port : Nat) : Bool :=
  decide (s.linkState port = 5 ∨ s.linkState port = 6 ∧ ((s.port port).phase = some .pause ∨ (s.port port).phase = some .align))

/-- A RECONFIG symbol (R392): the leader decides, its own request first; the follower obeys and drops its own. -/
def State.reconfigSymbol (s : State) (port data : Nat) : State :=
  if !s.mayDecide port then s
  else
    let p := s.port port
    if data / 8 % 2 = 0 then
      if s.bit .LNK_STATE port 14 then
        let d := if p.request then s.wanted port else data % 8
        (s.symbol port 2 (d + 8)).decided port d
      else s
    else
      let s := if p.request && decide (s.wanted port ≠ data % 8) then s.setBit .LNK_STATE port 18 true else s
      s.decided port (data % 8)

/-- RECONFIG_SYMBOL (R392). -/
def execReconfigSymbol (port : Fin 12) (data : BitVec 4) (s : State) : Host.Outcome State Fault Refusal :=
  .next (s.reconfigSymbol port data.toNat)

/-- ERROR_WINDOW (R387): a window of LNK_ERR_CFG.WINDOW_MS ends, and another begins. -/
def execErrorWindow (port : Fin 12) (t : U64) (s : State) : Host.Outcome State Fault Refusal :=
  let n := (s.port port).uncorr
  let s' := (s.at' t.toNat).modPort port (fun p => { p with uncorr := 0 })
  .next (if s.errorLimit port < n then s'.retrain port 2 t.toNat true else s')

/-- LINK_ENABLE (R394). -/
def execLinkEnable (port : Fin 12) (s : State) : Host.Outcome State Fault Refusal := .next (s.portOn port)

/-- LINK_DISABLE (R394, R399). -/
def execLinkDisable (port : Fin 12) (t : U64) (s : State) : Host.Outcome State Fault Refusal :=
  .next ((s.at' t.toNat).portOff port t.toNat)

/-- APPLY (R392): WIDTH and RATE requested of an ACTIVE link. -/
def State.applyLink (s : State) (port : Nat) : State :=
  if s.linkState port ≠ 5 then s
  else
    let d := s.wanted port
    let s := s.modPort port (fun p => { p with request := true })
    if s.bit .LNK_STATE port 14 then (s.symbol port 2 (d + 8)).reconfigure port d else s.symbol port 2 d

/-- APPLY (R392). -/
def execApply (port : Fin 12) (s : State) : Host.Outcome State Fault Refusal := .next (s.applyLink port)

/-- LNK_CTRL.RETRAIN (R381, R387, R394): an ACTIVE link retrains, a DOWN one trains in full with its history cleared. -/
def State.retrainCmd (s : State) (port t : Nat) : State :=
  if s.linkState port = 7 then
    (s.setLink port 2).modPort port (fun p => { p.retrainFresh with retrains := [] })
  else s.retrain port 5 t false

/-- RETRAIN (R394). -/
def execRetrain (port : Fin 12) (t : U64) (s : State) : Host.Outcome State Fault Refusal :=
  .next ((s.at' t.toNat).retrainCmd port t.toNat)

/-- LNK_SWAP_AT written (R397): a count arms the swap and sends DIGEST, 0 disarms it. -/
def State.armLink (s : State) (port : Nat) (count : U64) : State :=
  let b := s.fld .LNK_STATE port 19 19
  let s := (s.setReg .LNK_SWAP_AT port count).modPort port (fun p => { p with armedBank := decide (count ≠ 0) })
  if count = 0 then s
  else s.control port (leBytes 1 4 ++ leBytes 4 (s.digest .LNK_TX_SLOT (1 - b) port) ++ leBytes 1 (1 - b))

/-- LNK_SWAP_ARM (R397). -/
def execLnkSwapArm (port : Fin 12) (count : U64) (s : State) : Host.Outcome State Fault Refusal :=
  .next (s.armLink port count)

/-- The transmit bank swapped at a frame boundary of an ACTIVE link at or after the swap count (R397, R399). -/
def State.swapLink (s : State) (port t : Nat) : State :=
  let p := s.port port
  if s.linkState port = 5 && p.armedBank && decide ((s.reg .LNK_SWAP_AT port).toNat ≤ t ∧ p.txSlot % 4096 = 0) then
    ((s.at' t).setFld .LNK_STATE port 19 19 (1 - s.fld .LNK_STATE port 19 19)).modPort port
      (fun p => { p with armedBank := false, prepared := false })
  else s

/-- LINK_BANK_SWAP (R397). -/
def execLinkBankSwap (port : Fin 12) (t : U64) (s : State) : Host.Outcome State Fault Refusal :=
  .next (s.swapLink port t.toNat)

/-- TX_BANK_TOGGLE (R397): the receive bank is to swap at the next frame boundary. -/
def execTxBankToggle (port : Fin 12) (s : State) : Host.Outcome State Fault Refusal :=
  .next (if s.linkState port = 5 then s.modPort port (fun p => { p with rxSwap := true }) else s)

end Sys2Proof.Machine
end

