-- ==== Sys2Proof/Machine/MeshRoute.lean ====
section
/-! DEFINITION. What a router does in a slot and with an arriving flit (R340 to R353, R389, R418): injection of planned flows, dimension-order
routing, elastic and service turns. -/
namespace Sys2Proof.Machine

/-! ### Injection (R343, R389) -/

/-- Does the pause signal of a port hold back a flow of a core: its path ends at the port (R355, R389). -/
def State.sendPaused (s : State) (c : CoreSt) (flow : Nat) : Bool :=
  c.fld .MSH_FLOW flow 12 10 = 3 && (s.port (c.fld .MSH_FLOW flow 31 28)).paused

/-- Does a port of a quadrant whose pause signal is raised end the path of a TAG (R389, R412). -/
def State.tagPaused (s : State) (q tag : Nat) : Bool :=
  (List.range 12).any (fun n => portQuad n = q && (s.port n).paused && bitAt (s.reg .LNK_TX_TAG (n * 1024 + tag)) 0)

/-- The oldest SEND in execution of a core with a flit of a TAG to inject. -/
def CoreSt.sending (c : CoreSt) (tag : Nat) : Option (QEntry × Flit × List Flit) :=
  (c.queue 3).ents.findSome? (fun e => match e.flits with
    | f :: rest => if e.st = .executing ∧ flitTag f = tag then some (e, f, rest) else none
    | [] => none)

/-- The next flit of a TAG that the core of router p injects, or an answer to a PULL, and the state without it. -/
def State.coreInjects (s : State) (p tag : Nat) : Option (Flit × State) :=
  let c := s.core p
  match c.sending tag with
  | some (e, f, rest) =>
    if s.sendPaused c (e.desc.f 0 31 16) then none else some (f, s.setCore p (c.setEntry 3 { e with flits := rest }))
  | none => match Map.get (α := List Flit) c.outbox tag [] with
    | f :: rest => some (f, s.setCore p { c with outbox := Map.set (α := List Flit) c.outbox tag rest })
    | [] => none

/-- The next flit of a TAG that a port injects at its edge router (R378, R411), and the state without it. -/
def State.portInjects (s : State) (p tag : Nat) : Option (Flit × State) :=
  match portAt p with
  | none => none
  | some n =>
    if s.tagPaused (p / 72) tag then none
    else match Map.get (α := List Flit) (s.port n).toMesh tag [] with
      | f :: rest => some (f, s.modPort n (fun x => { x with toMesh := Map.set (α := List Flit) x.toMesh tag rest }))
      | [] => none

/-- The flit injected for a planned slot that names input L or a port's E, and the state without it (R343). -/
def State.injects (s : State) (p inp tag : Nat) : Option (Flit × State) :=
  match inp with
  | 4 => s.coreInjects p tag
  | 1 => s.portInjects p tag
  | _ => none

/-- A planned slot n of output o at which a flow enters the mesh (R343): its next flit leaves by every output that owns the slot for the
flow, at the turn of the first of them; with nothing ready the slot is idle. -/
def State.injectTurn (s : State) (p o n : Nat) (e : Nat) : State :=
  let b := s.meshBank (p / 72)
  if (s.plannedOuts b p n (entIn e) (entTag e)).head? ≠ some o then s
  else match s.injects p (entIn e) (entTag e) with
    | some (f, s') => s'.forward b p (entIn e) n f
    | none => s

/-! ### Elastic routes (R345) -/

/-- The output an elastic flit takes at a router (R345): its packet's, which the header in the first flit names; 5 for a packet that no
port takes, which is discarded and counted (R417). -/
def State.elasticExit (s : State) (p inp ch : Nat) (f : Flit) : Nat :=
  if flitFirst f then
    match s.packetExit (p / 72) (packetOf f.data) with
    | some x => dimensionOrder p x
    | none => 5
  else Map.get (α := Nat) s.meshRoute (bufKey p inp ch) 5

/-- The virtual channel of an elastic flit (R345): of the slot it came in from another router, or of its packet's kind; `response` tells
the channel of a later flit from a core or an attachment. -/
def State.elasticChannel (s : State) (p inp n : Nat) (f : Flit) (response : Bool) : Nat :=
  match nextRouter p inp with
  | some (p', o') => s.kindBefore (s.meshBank (p' / 72)) p' o' 2 n / 5 % 2
  | none => if flitFirst f then (if 2 ≤ pkType (packetOf f.data) then 1 else 0) else if response then 1 else 0

/-- An elastic flit arrives (R345, R351, R417, R418). -/
def State.elasticFlit (s : State) (p inp cycle : Nat) (f : Flit) (response : Bool) : State :=
  let ch := s.elasticChannel p inp (cycle % 1024) f response
  let exit := s.elasticExit p inp ch f
  let s := { s with meshRoute := if flitLast f then Map.del (α := Nat) s.meshRoute (bufKey p inp ch)
                                 else Map.set (α := Nat) s.meshRoute (bufKey p inp ch) exit }
  if exit = 5 then (if flitFirst f then s.fabCount (homePort (p / 72)) 4 else s)
  else s.bufferFlit p inp ch { flit := f, exit := exit, ready := cycle + hopCycles p inp }

/-- A flit arrives at a router in a fabric cycle (R340, R345, R346, R351, R353): `response`, `user` and `exit` say what an elastic flit of
an attachment and a service flit do not (DESIGN CHOICE, log entry 131). -/
def State.flitArrives (s : State) (p inp cycle : Nat) (f : Flit) (response : Bool) (user : ServiceUser) (exit : Nat) : State :=
  if !flitParityOk f then (s.bump .MSH_ROUTER_STAT p 47 32 1).abortGroups (p / 72)
  else if bridgeInput p inp && !s.bridgeOpen p then s.lostFlit p
  else match flitClass f with
    | 1 => s.plannedFlit p inp cycle f
    | 2 => s.elasticFlit p inp cycle f response
    | 3 => s.bufferFlit p inp 2 { flit := f, exit := exit, ready := cycle + hopCycles p inp, user := user }
    | _ => s.lostFlit p

/-! ### Slots that come round (R343, R345, R346) -/

/-- The key of an output's elastic channel. -/
def chanKey (p o ch : Nat) : Nat := (p * 5 + o) * 2 + ch
/-- May an output's elastic channel carry a flit of an input: no packet of another input is under way on it (R418). -/
def State.channelFree (s : State) (p o ch inp : Nat) : Bool :=
  let x := Map.get (α := Nat) s.meshOwner (chanKey p o ch) 0
  decide (x = 0 ∨ x = inp + 1)
/-- The output's elastic channel after a flit of an input: its packet's until LAST has passed (R418). -/
def State.ownChannel (s : State) (p o ch inp : Nat) (f : Flit) : State :=
  { s with meshOwner := if flitLast f then Map.del (α := Nat) s.meshOwner (chanKey p o ch)
                        else Map.set (α := Nat) s.meshOwner (chanKey p o ch) (inp + 1) }

/-- An elastic slot: number e belongs to input e mod 5 and channel e / 5 mod 2, and carries the head flit there when it routes here, what
lies beyond has room, and the channel is not amid another packet (R345, R418). -/
def State.elasticTurn (s : State) (b p o n cycle : Nat) : State :=
  let e := s.kindBefore b p o 2 n
  let inp := e % 5
  let ch := e / 5 % 2
  match s.buf p inp ch with
  | [] => s
  | m :: rest =>
    if m.exit = o ∧ m.ready ≤ cycle ∧ s.roomBeyond p o ch ∧ s.channelFree p o ch inp then
      ((s.setBuf p inp ch rest).ownChannel p o ch inp m.flit).emit p o m.flit ch
    else s

/-- A service slot: its input's flits for this output, signals first, then by their users' order (R346). -/
def State.serviceTurn (s : State) (b p o n cycle : Nat) : State :=
  let inp := s.kindBefore b p o 3 n % 5
  let l := s.buf p inp 2
  match firstServed (l.filter (fun m => decide (m.exit = o ∧ m.ready ≤ cycle))) with
  | none => s
  | some m => (s.setBuf p inp 2 (l.erase m)).emit p o m.flit

/-- A slot of output o of router p comes round in a fabric cycle (R334, R343, R345, R346). -/
def State.meshTurn (s : State) (p o cycle : Nat) : State :=
  let b := s.meshBank (p / 72)
  let n := cycle % 1024
  let ent := s.liveEntry b p o n
  match entKind ent with
  | 1 => s.injectTurn p o n ent
  | 2 => s.elasticTurn b p o n cycle
  | 3 => s.serviceTurn b p o n cycle
  | _ => s

end Sys2Proof.Machine
end

