-- ==== Sys2Proof/Machine/Mesh.lean ====
section
/-! DEFINITION. The mesh commands: MESH_FLIT_ARRIVAL, MESH_SLOT_TURN, MSH_SWAP_ARM, MESH_BANK_SWAP. -/
namespace Sys2Proof.Machine

/-- MESH_FLIT_ARRIVAL (R340, R345, R349 to R353). -/
def execMeshFlitArrival (p : Fin 288) (input : Fin 5) (cycle : U64) (flit : Flit) (response : Bool) (user : ServiceUser) (exit : Fin 5)
    (s : State) : Host.Outcome State Fault Refusal :=
  .next (s.flitArrives p input cycle.toNat flit response user exit)

/-- MESH_SLOT_TURN (R343, R345, R346). -/
def execMeshSlotTurn (p : Fin 288) (output : Fin 5) (cycle : U64) (s : State) : Host.Outcome State Fault Refusal :=
  .next (s.meshTurn p output cycle.toNat)

/-- MSH_SWAP_AT written: a count arms the swap, 0 disarms it (R357). -/
def State.armMesh (s : State) (q : Nat) (count : U64) : State :=
  (s.setReg .MSH_SWAP_AT q count).setBit .MSH_CTRL q 1 (decide (count ≠ 0))

/-- MSH_SWAP_ARM (R352). -/
def execMshSwapArm (q : Fin 4) (count : U64) (s : State) : Host.Outcome State Fault Refusal :=
  .next (s.armMesh q count)

/-- The drip count at the first mesh-frame boundary at or after a count (R334): frame m begins at drip 2,048 m / 3. -/
def frameFrom (count : Nat) : Nat := 2048 * ceilDiv (3 * count) 2048 / 3

/-- The bank swap of a quadrant at drip t, when armed and its frame boundary has come (R352). -/
def State.swapMesh (s : State) (q t : Nat) : State :=
  let s := s.at' t
  if s.bit .MSH_CTRL q 1 && decide (frameFrom (s.reg .MSH_SWAP_AT q).toNat ≤ t) then
    ((s.setFld .MSH_CTRL q 0 0 (1 - s.meshBank q)).setBit .MSH_CTRL q 1 false).modQuad q
      (fun x => { x with prepared := false, swapped := some ((3 * t + 2) / 2048 * 1024) })
  else s

/-- MESH_BANK_SWAP (R352): the first frame boundary at or after the swap count. -/
def execMeshBankSwap (q : Fin 4) (t : U64) (s : State) : Host.Outcome State Fault Refusal :=
  .next (s.swapMesh q t.toNat)

end Sys2Proof.Machine
end

