-- ==== Sys2Proof/Machine/DumpOps.lean ====
section
/-! DEFINITION. Tensor dumps (R626, R627): the symbol table's tensors and the DUMP command. -/
namespace Sys2Proof.Machine

/-- A tensor entry of the symbol table (R642). -/
def isTensor (e : List Byte) (sym : Nat) : Bool := decide (bytesAt e 0 1 = 0 ∧ bytesAt e 4 4 = sym)
/-- The pieces of a tensor: virtual core within the quadrant, format, address, length. -/
def Plan.pieces (p : Plan) (sym : Nat) : List (Nat × Nat × Nat × Nat) :=
  (p.symbols.filter (fun e => decide (bytesAt e 0 1 = 1 ∧ bytesAt e 4 4 = sym))).map (fun e =>
    (bytesAt e 1 1, bytesAt e 2 1, bytesAt e 8 8, bytesAt e 16 4))
/-- Bytes a dump writes (R627): a 64-byte header and the bytes padded to 64, for each piece. -/
def dumpSize (l : List (Nat × Nat × Nat × Nat)) : Nat := l.foldl (fun n p => n + 64 + (p.2.2.2 + 63) / 64 * 64) 0

/-- DUMP (R626, R627, R631): checked, and then held until its step's commit is scanned, or its epoch has run. -/
def State.cmdDump (s : State) (f : Nat) (ws : List U64) : State :=
  let q := wf ws 1 41 40
  let sym := wf ws 1 31 0
  let slot := wf ws 1 38 32
  let byslot := bitAt (wordAt ws 1) 39
  let step := (wordAt ws 2).toNat
  let done := fun (st : Nat) => s.answer f 1 st (cmdCid ws) (cmdTag ws) 0 0
  if !cmdOk ws [2 ^ 42 - 1, 2 ^ 64 - 1, 2 ^ 64 - 1, 2 ^ 32 - 1] ∨ (f < 4 ∧ q ≠ f) then done 0x31
  else if f = 4 ∧ s.fld .SEC_DBG_STAT 0 1 0 = 0 then done 0x5D
  else if s.trace.dump.isSome then done 0x5F
  else if wf ws 3 11 0 ≠ 0 then done 0x5B
  else match (s.quad q).plan with
    | none => done 0x58
    | some p => match p.symbols.find? (fun e => isTensor e sym) with
      | none => done 0x58
      | some e =>
        let stable : Bool := bytesAt e 8 1 % 2 = 1
        let var := bytesAt e 9 1
        let t := (s.quad q).slot slot
        let passed : Bool := if byslot then t.state = 0 || t.frozen || decide (step < t.step) else s.runs q && decide (step < s.epoch q)
        if !s.runs q then done 0x58
        else if !stable && decide (var = 0xFF) then done 0x59
        else if passed || decide (wf ws 4 31 0 < dumpSize (p.pieces sym)) then done 0x5A
        else
          let d : DumpSt :=
            { fn := f, cid := cmdCid ws, tag := cmdTag ws, quad := q, addr := (wordAt ws 3).toNat, symbol := sym, step := step,
              slot := if byslot then some slot else none, stable := stable, back := (s.quad q).rule.variant }
          let s := { s with trace := { s.trace with dump := some d } }
          if stable then s
          else if (s.quad q).master then s.modQuad q (fun x => { x with request := some var })
          else s.send (.message 24 [q, var])

end Sys2Proof.Machine
end

