-- ==== Sys2Proof/Machine/SeqAlu.lean ====
section
/-! DEFINITION. The sequencer commands that compute, load, store and branch (R57, R59). -/
namespace Sys2Proof.Machine

/-- An instruction issued by the sequencer of virtual core v. -/
def issueOn (s : State) (v : Nat) (f : SeqSt → SeqRes) : State := s.onCore v (fun c => seqIssue c f)

/-- A 15-bit immediate sign-extended. -/
def imm15 (i : BitVec 15) : U64 := i.signExtend 64

/-- rd ← f(rs1, rs2). -/
def aluOp (f : U64 → U64 → U64) (rd rs1 rs2 : Nat) (q : SeqSt) : SeqRes := .ok (q.wr rd (f (q.rd rs1) (q.rd rs2)))

/-- rd ← f(rs1, sign-extended imm15). -/
def immOp (f : U64 → U64 → U64) (rd rs1 : Nat) (imm : BitVec 15) (q : SeqSt) : SeqRes := .ok (q.wr rd (f (q.rd rs1) (imm15 imm)))

/-- A shift by imm15[5:0]; imm15[14:6] must be 0. -/
def shiftOp (f : U64 → Nat → U64) (rd rs1 : Nat) (imm : BitVec 15) (q : SeqSt) : SeqRes :=
  if imm.toNat ≥ 64 then .exc 0x01 else .ok (q.wr rd (f (q.rd rs1) imm.toNat))

/-- A shift amount of a register form: rs2[5:0]. -/
def shAmt (b : U64) : Nat := b.toNat % 64

/-- A word of 0 or 1. -/
def flagWord (b : Bool) : U64 := if b then 1 else 0

/-- A branch taken when the comparison holds: PC ← PC + off15. -/
def branchOp (f : U64 → U64 → Bool) (rs1 rs2 : Nat) (off : BitVec 15) (q : SeqSt) : SeqRes :=
  if f (q.rd rs1) (q.rd rs2) then .jump q ((q.pc : Int) + off.toInt) else .ok q

/-- LD and ST's data address check (R59): a multiple of 8 below 65,536. -/
def dataAddr (q : SeqSt) (rs1 : Nat) (imm : BitVec 15) : Option Nat :=
  let a := (q.rd rs1 + imm15 imm).toNat
  if a % 8 = 0 ∧ a < 65536 then some (a / 8) else none

/-- ADD (R57). -/
def execAdd (v : Fin 256) (rd rs1 rs2 : Fin 32) (s : State) : Host.Outcome State Fault Refusal :=
  .next (issueOn s v (aluOp (fun a b => a + b) rd rs1 rs2))

/-- SUB (R57). -/
def execSub (v : Fin 256) (rd rs1 rs2 : Fin 32) (s : State) : Host.Outcome State Fault Refusal :=
  .next (issueOn s v (aluOp (fun a b => a - b) rd rs1 rs2))

/-- AND (R57). -/
def execAnd (v : Fin 256) (rd rs1 rs2 : Fin 32) (s : State) : Host.Outcome State Fault Refusal :=
  .next (issueOn s v (aluOp (fun a b => a &&& b) rd rs1 rs2))

/-- OR (R57). -/
def execOr (v : Fin 256) (rd rs1 rs2 : Fin 32) (s : State) : Host.Outcome State Fault Refusal :=
  .next (issueOn s v (aluOp (fun a b => a ||| b) rd rs1 rs2))

/-- XOR (R57). -/
def execXor (v : Fin 256) (rd rs1 rs2 : Fin 32) (s : State) : Host.Outcome State Fault Refusal :=
  .next (issueOn s v (aluOp (fun a b => a ^^^ b) rd rs1 rs2))

/-- SLL (R57). -/
def execSll (v : Fin 256) (rd rs1 rs2 : Fin 32) (s : State) : Host.Outcome State Fault Refusal :=
  .next (issueOn s v (aluOp (fun a b => a <<< shAmt b) rd rs1 rs2))

/-- SRL (R57). -/
def execSrl (v : Fin 256) (rd rs1 rs2 : Fin 32) (s : State) : Host.Outcome State Fault Refusal :=
  .next (issueOn s v (aluOp (fun a b => a >>> shAmt b) rd rs1 rs2))

/-- SRA (R57). -/
def execSra (v : Fin 256) (rd rs1 rs2 : Fin 32) (s : State) : Host.Outcome State Fault Refusal :=
  .next (issueOn s v (aluOp (fun a b => a.sshiftRight (shAmt b)) rd rs1 rs2))

/-- SLT (R57). -/
def execSlt (v : Fin 256) (rd rs1 rs2 : Fin 32) (s : State) : Host.Outcome State Fault Refusal :=
  .next (issueOn s v (aluOp (fun a b => flagWord (a.slt b)) rd rs1 rs2))

/-- SLTU (R57). -/
def execSltu (v : Fin 256) (rd rs1 rs2 : Fin 32) (s : State) : Host.Outcome State Fault Refusal :=
  .next (issueOn s v (aluOp (fun a b => flagWord (a.ult b)) rd rs1 rs2))

/-- MIN (R57). -/
def execMin (v : Fin 256) (rd rs1 rs2 : Fin 32) (s : State) : Host.Outcome State Fault Refusal :=
  .next (issueOn s v (aluOp (fun a b => if a.slt b then a else b) rd rs1 rs2))

/-- MAX (R57). -/
def execMax (v : Fin 256) (rd rs1 rs2 : Fin 32) (s : State) : Host.Outcome State Fault Refusal :=
  .next (issueOn s v (aluOp (fun a b => if a.slt b then b else a) rd rs1 rs2))

/-- MUL (R57). -/
def execMul (v : Fin 256) (rd rs1 rs2 : Fin 32) (s : State) : Host.Outcome State Fault Refusal :=
  .next (issueOn s v (aluOp (fun a b => a * b) rd rs1 rs2))

/-- MULHU (R57). -/
def execMulhu (v : Fin 256) (rd rs1 rs2 : Fin 32) (s : State) : Host.Outcome State Fault Refusal :=
  .next (issueOn s v (aluOp (fun a b => BitVec.ofNat 64 (a.toNat * b.toNat / 2 ^ 64)) rd rs1 rs2))

/-- ADDI (R57). -/
def execAddi (v : Fin 256) (rd rs1 : Fin 32) (imm : BitVec 15) (s : State) : Host.Outcome State Fault Refusal :=
  .next (issueOn s v (immOp (fun a b => a + b) rd rs1 imm))

/-- ANDI (R57). -/
def execAndi (v : Fin 256) (rd rs1 : Fin 32) (imm : BitVec 15) (s : State) : Host.Outcome State Fault Refusal :=
  .next (issueOn s v (immOp (fun a b => a &&& b) rd rs1 imm))

/-- ORI (R57). -/
def execOri (v : Fin 256) (rd rs1 : Fin 32) (imm : BitVec 15) (s : State) : Host.Outcome State Fault Refusal :=
  .next (issueOn s v (immOp (fun a b => a ||| b) rd rs1 imm))

/-- XORI (R57). -/
def execXori (v : Fin 256) (rd rs1 : Fin 32) (imm : BitVec 15) (s : State) : Host.Outcome State Fault Refusal :=
  .next (issueOn s v (immOp (fun a b => a ^^^ b) rd rs1 imm))

/-- SLTI (R57). -/
def execSlti (v : Fin 256) (rd rs1 : Fin 32) (imm : BitVec 15) (s : State) : Host.Outcome State Fault Refusal :=
  .next (issueOn s v (immOp (fun a b => flagWord (a.slt b)) rd rs1 imm))

/-- SLLI (R57). -/
def execSlli (v : Fin 256) (rd rs1 : Fin 32) (imm : BitVec 15) (s : State) : Host.Outcome State Fault Refusal :=
  .next (issueOn s v (shiftOp (fun a n => a <<< n) rd rs1 imm))

/-- SRLI (R57). -/
def execSrli (v : Fin 256) (rd rs1 : Fin 32) (imm : BitVec 15) (s : State) : Host.Outcome State Fault Refusal :=
  .next (issueOn s v (shiftOp (fun a n => a >>> n) rd rs1 imm))

/-- SRAI (R57). -/
def execSrai (v : Fin 256) (rd rs1 : Fin 32) (imm : BitVec 15) (s : State) : Host.Outcome State Fault Refusal :=
  .next (issueOn s v (shiftOp (fun a n => a.sshiftRight n) rd rs1 imm))

/-- LUI (R57): sign-extended imm20 × 4,096. -/
def execLui (v : Fin 256) (rd : Fin 32) (imm : BitVec 20) (s : State) : Host.Outcome State Fault Refusal :=
  .next (issueOn s v (fun q => .ok (q.wr rd (imm.signExtend 64 <<< 12))))

/-- LD (R57, R59). -/
def execLd (v : Fin 256) (rd rs1 : Fin 32) (imm : BitVec 15) (s : State) : Host.Outcome State Fault Refusal :=
  .next (issueOn s v (fun q => match dataAddr q rs1 imm with
    | some k => .ok (q.wr rd (Map.get (α := U64) q.data k 0))
    | none => .exc 0x03))

/-- ST (R57, R59). -/
def execSt (v : Fin 256) (rs rs1 : Fin 32) (imm : BitVec 15) (s : State) : Host.Outcome State Fault Refusal :=
  .next (issueOn s v (fun q => match dataAddr q rs1 imm with
    | some k => .ok { q with data := Map.set (α := U64) q.data k (q.rd rs) }
    | none => .exc 0x03))

/-- BEQ (R57). -/
def execBeq (v : Fin 256) (rs1 rs2 : Fin 32) (off : BitVec 15) (s : State) : Host.Outcome State Fault Refusal :=
  .next (issueOn s v (branchOp (fun a b => decide (a = b)) rs1 rs2 off))

/-- BNE (R57). -/
def execBne (v : Fin 256) (rs1 rs2 : Fin 32) (off : BitVec 15) (s : State) : Host.Outcome State Fault Refusal :=
  .next (issueOn s v (branchOp (fun a b => decide (a ≠ b)) rs1 rs2 off))

/-- BLT (R57). -/
def execBlt (v : Fin 256) (rs1 rs2 : Fin 32) (off : BitVec 15) (s : State) : Host.Outcome State Fault Refusal :=
  .next (issueOn s v (branchOp (fun a b => a.slt b) rs1 rs2 off))

/-- BGE (R57). -/
def execBge (v : Fin 256) (rs1 rs2 : Fin 32) (off : BitVec 15) (s : State) : Host.Outcome State Fault Refusal :=
  .next (issueOn s v (branchOp (fun a b => !a.slt b) rs1 rs2 off))

/-- BLTU (R57). -/
def execBltu (v : Fin 256) (rs1 rs2 : Fin 32) (off : BitVec 15) (s : State) : Host.Outcome State Fault Refusal :=
  .next (issueOn s v (branchOp (fun a b => a.ult b) rs1 rs2 off))

/-- BGEU (R57). -/
def execBgeu (v : Fin 256) (rs1 rs2 : Fin 32) (off : BitVec 15) (s : State) : Host.Outcome State Fault Refusal :=
  .next (issueOn s v (branchOp (fun a b => !a.ult b) rs1 rs2 off))

/-- JAL (R57). -/
def execJal (v : Fin 256) (rd : Fin 32) (off : BitVec 20) (s : State) : Host.Outcome State Fault Refusal :=
  .next (issueOn s v (fun q => .jump (q.wr rd (BitVec.ofNat 64 (q.pc + 1))) ((q.pc : Int) + off.toInt)))

/-- JALR (R57): to rs1 + imm15, in instructions. -/
def execJalr (v : Fin 256) (rd rs1 : Fin 32) (imm : BitVec 15) (s : State) : Host.Outcome State Fault Refusal :=
  .next (issueOn s v (fun q =>
    .jump (q.wr rd (BitVec.ofNat 64 (q.pc + 1))) ((q.rd rs1 + imm15 imm).toNat : Int)))

end Sys2Proof.Machine
end

