-- ==== Sys2Proof/Machine/SeqAddr.lean ====
section
/-! DEFINITION. The sequencer commands over address registers, loop counts and hardware loops (R57, R58, R64 to R67). -/
namespace Sys2Proof.Machine

/-- An address register changed by a value formed from s + sign-extended imm16. -/
def addrOp (f : AddrReg → U64 → AddrReg) (a sr : Nat) (imm : BitVec 16) (q : SeqSt) : SeqRes :=
  .ok (q.setAreg a (f (q.areg a) (q.rd sr + imm.signExtend 64)))

/-- ASET (R57). -/
def execAset (v : Fin 256) (a : Fin 16) (sr : Fin 32) (imm : BitVec 16) (s : State) : Host.Outcome State Fault Refusal :=
  .next (issueOn s v (addrOp (fun r x => { r with base := BitVec.ofNat 48 x.toNat, off := 0 }) a sr imm))

/-- ASTR (R57). -/
def execAstr (v : Fin 256) (a : Fin 16) (sr : Fin 32) (imm : BitVec 16) (s : State) : Host.Outcome State Fault Refusal :=
  .next (issueOn s v (addrOp (fun r x => { r with stride := low32 x }) a sr imm))

/-- AWRP (R57). -/
def execAwrp (v : Fin 256) (a : Fin 16) (sr : Fin 32) (imm : BitVec 16) (s : State) : Host.Outcome State Fault Refusal :=
  .next (issueOn s v (addrOp (fun r x => { r with wrap := low32 x }) a sr imm))

/-- AOFF (R57). -/
def execAoff (v : Fin 256) (a : Fin 16) (sr : Fin 32) (imm : BitVec 16) (s : State) : Host.Outcome State Fault Refusal :=
  .next (issueOn s v (addrOp (fun r x => { r with off := low32 x }) a sr imm))

/-- ASTEP (R57, R58). -/
def execAstep (v : Fin 256) (a : Fin 16) (sr : Fin 32) (imm : BitVec 16) (s : State) : Host.Outcome State Fault Refusal :=
  .next (issueOn s v (addrOp (fun r x => r.step (intOfWord x)) a sr imm))

/-- AINC (R57, R58): s field and imm16 must be 0. -/
def execAinc (v : Fin 256) (a : Fin 16) (sr : Fin 32) (imm : BitVec 16) (s : State) : Host.Outcome State Fault Refusal :=
  .next (issueOn s v (fun q =>
    if (sr : Nat) ≠ 0 ∨ imm ≠ 0 then .exc 0x01 else .ok (q.setAreg a ((q.areg a).step (q.areg a).stride.toInt))))

/-- ARD (R57): the effective address plus imm16, modulo 2^48. -/
def execArd (v : Fin 256) (a : Fin 16) (sr : Fin 32) (imm : BitVec 16) (s : State) : Host.Outcome State Fault Refusal :=
  .next (issueOn s v (fun q => .ok (q.wr sr (((q.areg a).ea + imm.signExtend 48).setWidth 64))))

/-- LIC (R57). -/
def execLic (v : Fin 256) (c : Fin 4) (imm : BitVec 20) (s : State) : Host.Outcome State Fault Refusal :=
  .next (issueOn s v (fun q => .ok (q.setCreg c (imm.setWidth 32))))

/-- MVC (R57): imm16 must be 0. -/
def execMvc (v : Fin 256) (c : Fin 4) (sr : Fin 32) (imm : BitVec 16) (s : State) : Host.Outcome State Fault Refusal :=
  .next (issueOn s v (fun q => if imm ≠ 0 then .exc 0x01 else .ok (q.setCreg c (low32 (q.rd sr)))))

/-- RDC (R57, R66). -/
def execRdc (v : Fin 256) (c : Fin 4) (sr : Fin 32) (s : State) : Host.Outcome State Fault Refusal :=
  .next (issueOn s v (fun q => .ok (q.wr sr ((q.creg c).setWidth 64))))

/-- A loop entered with a latched count (R64, R60). The length is judged first, then the depth, then the nesting, then the count: LOOP
with length 0 while four loops are active raises 0x06 (DEDUCED, log entry 18). -/
def enterLoop (q : SeqSt) (count len : Nat) : SeqRes :=
  let last := q.pc + len
  if len = 0 then .exc 0x06
  else if q.loops.length ≥ 4 then .exc 0x05
  else if q.loops.head?.any (fun l => decide (l.last < last)) then .exc 0x06
  else if count > 16777215 then .exc 0x04
  else if count = 0 then .skip q last
  else .ok { q with loops := ⟨count, 0, q.pc + 1, last⟩ :: q.loops }

/-- LOOP (R64 to R67). The level it pushes ends beyond this instruction, so its own end is not judged here. -/
def execLoop (v : Fin 256) (c : Fin 4) (len : BitVec 12) (s : State) : Host.Outcome State Fault Refusal :=
  .next (issueOn s v (fun q => enterLoop q (q.creg c).toNat len.toNat))

/-- LIDX (R57). -/
def execLidx (v : Fin 256) (level : Fin 4) (sr : Fin 32) (s : State) : Host.Outcome State Fault Refusal :=
  .next (issueOn s v (fun q => match q.loops[(level : Nat)]? with
    | some l => .ok (q.wr sr (BitVec.ofNat 64 l.index))
    | none => .exc 0x01))

end Sys2Proof.Machine
end

