-- ==== Sys2Proof/Machine/SeqDesc.lean ====
section
/-! DEFINITION. The sequencer commands over templates, staging buffers and queues (R57, R68 to R71, R95, R99) and the KN40
address-stream mode (R79 to R82, R124, R125). -/
namespace Sys2Proof.Machine

/-- Templates the plan holds (R60): 1,024 when no plan was loaded (log entry 6). -/
def SeqSt.tmplLimit (q : SeqSt) : Nat := match q.tmplCount with | some n => min n 1024 | none => 1024

/-- TLD (R57, R70). -/
def execTld (v : Fin 256) (b : Fin 4) (idx : Fin 1024) (s : State) : Host.Outcome State Fault Refusal :=
  .next (issueOn s v (fun q =>
    if (idx : Nat) ≥ q.tmplLimit then .exc 0x08
    else .ok { q.setStg b (Map.get (α := Desc) q.tmpl idx {}) with tTpl := Map.set (α := Nat) q.tTpl b idx }))

/-- PATCH (R57, R60, R68). -/
def patchOp (b word lsb width src : Nat) (addr post : Bool) (q : SeqSt) : SeqRes :=
  let w := if width = 0 then 64 else width
  if lsb + w > 64 ∨ (post ∧ !addr) ∨ (addr ∧ src ≥ 16) then .exc 0x09
  else
    let val := if addr then (q.areg src).ea.toNat else (q.rd src).toNat
    let d := q.stg b
    let q := q.setStg b (d.setWord word (putBits (d.word word) (lsb + w - 1) lsb val))
    .ok (if post then q.setAreg src ((q.areg src).step (q.areg src).stride.toInt) else q)

/-- PATCH (R68). -/
def execPatch (v : Fin 256) (b : Fin 4) (word : Fin 8) (lsb width : BitVec 6) (src : Fin 32) (kind post : Bool) (s : State) :
    Host.Outcome State Fault Refusal :=
  .next (issueOn s v (patchOp b word lsb.toNat width.toNat src kind post))

/-- A push issued by the sequencer (R69, R76): exception 0x0A with the frame closed. -/
def pushOp (c : CoreSt) (q : SeqSt) (r : PushReq) : CoreSt × List CoreEvent :=
  if !c.seq.frameOpen then raiseSeq (c.occur 0x03) 0x0A else doPush c q r 0

/-- Is a sequencer issuing (R55, R84). -/
def CoreSt.issuing (c : CoreSt) : Bool := !c.inReset && decide (c.seq.run = .issuing)

/-- PUSH (R69, R95, R99). -/
def execPush (v : Fin 256) (b q : Fin 4) (s : State) : Host.Outcome State Fault Refusal :=
  .next (s.onCore v (fun c => if c.issuing then
      pushOp c c.seq { queue := q, desc := c.seq.stg b, stage := b, tpl := Map.get (α := Nat) c.seq.tTpl b 0 }
    else (c, [])))

/-- PUSH_STALL_END (R69, R95): a stalled PUSH issues when there is room, after `stall` cycles. -/
def execPushStallEnd (v : Fin 256) (stall : U64) (s : State) : Host.Outcome State Fault Refusal :=
  .next (s.onCore v (fun c => match c.seq.run with
    | .waiting (.pushFull r) => doPush c { c.seq with run := .issuing } r stall.toNat
    | .waiting (.pushClaims r) => doPush c { c.seq with run := .issuing } r stall.toNat
    | _ => (c, [])))

/-! ### KN40 (R79 to R82, R124, R125) -/

/-- Byte k of a template's first 32 bytes. -/
def Desc.byte (d : Desc) (k : Nat) : Nat := d.f (k / 8) (8 * (k % 8) + 7) (8 * (k % 8))
/-- KN40 address of field f. -/
def knAddr (d : Desc) (f : Nat) : Nat := ofLe ((List.range 4).map (fun i => BitVec.ofNat 8 (d.byte (4 + 4 * f + i))))
/-- KN40 extent of field f in granules; 0 means unused. -/
def knExtent (d : Desc) (f : Nat) : Nat := d.byte (20 + 2 * f) + 256 * d.byte (21 + 2 * f)
/-- The word a KN40 field goes to (R125). -/
def knWord (f : Nat) : Nat := match f with | 0 => 1 | 1 => 2 | 2 => 3 | _ => 5

/-- The smallest EXP for which 64 × 2^EXP covers g granules. -/
def expFor : Nat → Nat → Nat → Nat
  | 0, e, _ => e
  | n + 1, e, g => if 2 ^ e ≥ g then e else expFor n (e + 1) g

/-- Word 0 of the expanded descriptor and what it adds to words 1 and 4, by the table of R125; none for an operation not
listed. -/
def knOp (d : Desc) : Option (Nat × Nat × Nat) :=
  let p0 := d.byte 1
  let p1 := d.byte 2
  let p2 := d.byte 3
  let mm := fun f => some (f * 2 ^ 16 + f * 2 ^ 20 + 7 * 2 ^ 24 + 2 ^ 28 + 2 ^ 29 + 3 * 2 ^ 56, 0,
    p0 + p1 * 2 ^ 8 + p2 * 2 ^ 16 + 15 * 2 ^ 32)
  let row := p1 + 256 * p2
  match d.byte 0 with
  | 0x10 => mm 5
  | 0x11 => mm 7
  | 0x20 => some (64 + 7 * 2 ^ 16 + 7 * 2 ^ 20 + p0 * 2 ^ 24, 0, row)
  | 0x21 => some (64 + 1 + p0 % 16 * 2 ^ 16 + p0 / 16 * 2 ^ 20 + 2 ^ 34, 0, row)
  | 0x22 => some (64 + 2 + 7 * 2 ^ 16 + 8 * 2 ^ 20 + p0 * 2 ^ 24, 0, row)
  | 0x30 => some (128, 0, p0 + p1 * 2 ^ 8 + p2 * 2 ^ 16)
  | 0x31 => some (128 + 3, p2 * 2 ^ 48, p0 + p1 * 2 ^ 8)
  | 0x40 => some (192 + (p0 + 256 * p1) * 2 ^ 16, 0, knExtent d 0 - 1)
  | 0x41 => some (192 + 1 + (p0 + 256 * p1) * 2 ^ 16, 0, knExtent d 2 - 1)
  | _ => none

/-- The streams of the three map entries that are used: (field, stream). -/
def knMap (d : Desc) : List (Nat × Nat) :=
  ((List.range 3).map (fun i => d.byte (28 + i))).filterMap (fun b =>
    if b ≥ 128 then some (b / 8 % 16, b % 8) else none)

/-- The claims of the used fields, in the next free specifiers (R125); the field 0 claim of a peer read is omitted. -/
def knClaims (d : Desc) : Nat :=
  let used := (List.range 4).filter (fun f => knExtent d f ≠ 0 && !(d.byte 0 = 0x31 && f = 0))
  (used.zipIdx.map (fun p =>
    ((if p.1 = 2 then 2 else 1) + knWord p.1 * 4 + expFor 32 0 (knExtent d p.1) * 32) * 2 ^ (10 * p.2))).foldl (· + ·) 0

/-- The expanded descriptor (R81, R125): its fields and claims, with an illegal OP where the operation is not in the table (then of the
queue's engine) or a stream map entry names a field above 3. Of two map entries that name one field the first fills it
(DESIGN CHOICE, log entry 103). -/
def knExpand (d : Desc) (asBase : Nat) (queue : Nat) (streams : Nat → Nat) : Desc :=
  let m := knMap d
  let (w0, w1, w4) := (knOp d).getD (queue * 64 + 0x3F, 0, 0)
  let w0 := if m.any (fun p => decide (p.1 > 3)) then w0 / 64 * 64 + 0x3F else w0
  let addr := fun f => match m.find? (fun p => p.1 = f) with
    | some p => streams p.2
    | none => if knExtent d f = 0 then 0 else (asBase + knAddr d f) % 2 ^ 48
  { w0 := BitVec.ofNat 64 w0, w1 := BitVec.ofNat 64 (addr 0 + w1), w2 := BitVec.ofNat 64 (addr 1),
    w3 := BitVec.ofNat 64 (addr 2), w4 := BitVec.ofNat 64 w4, w5 := BitVec.ofNat 64 (addr 3),
    w7 := BitVec.ofNat 64 (knClaims d) }

/-- SPUSH (R79, R81): legal in address-stream mode; each used stream is stepped after its field is filled. A stream that two map
entries name fills both fields with one address and is stepped twice (DESIGN CHOICE, log entry 103). -/
def spushOp (c : CoreSt) (idx queue : Nat) : CoreSt × List CoreEvent :=
  let q := c.seq
  if !q.asActive then raiseSeq (c.occur 0x03) 0x01
  else
    let d := Map.get (α := Desc) q.tmpl idx {}
    let e := knExpand d (c.fld .SEQ_AS_BASE 0 47 0) queue (fun a => (q.areg a).ea.toNat)
    let q' := (knMap d).foldl (fun (q : SeqSt) (p : Nat × Nat) =>
      q.setAreg p.2 ((q.areg p.2).step (q.areg p.2).stride.toInt)) q
    pushOp c q' { queue := queue, desc := e, stage := 0, tpl := idx }

/-- SPUSH (R81). -/
def execSpush (v : Fin 256) (idx : Fin 1024) (q : Fin 4) (s : State) : Host.Outcome State Fault Refusal :=
  .next (s.onCore v (fun c => if c.issuing then spushOp c idx q else (c, [])))

/-- SDEF (R79): legal in address-stream mode, for the streams a0 to a7 (R80) (DEDUCED, log entry 19). -/
def execSdef (v : Fin 256) (a : Fin 16) (sr : Fin 32) (imm : BitVec 16) (s : State) : Host.Outcome State Fault Refusal :=
  .next (s.onCore v (fun c => seqIssue c (fun q =>
    if !q.asActive ∨ (a : Nat) ≥ 8 then .exc 0x01
    else .ok (q.setAreg a { q.areg a with
      base := BitVec.ofNat 48 (c.fld .SEQ_AS_BASE 0 47 0 + (q.rd sr).toNat)
      stride := imm.signExtend 32 * 32, wrap := 0 }))))

end Sys2Proof.Machine
end

