-- ==== Sys2Proof/Machine/SeqFrame.lean ====
section
/-! DEFINITION. The sequencer commands of waits, epoch frames and control (R57, R72 to R79, R83). -/
namespace Sys2Proof.Machine

/-- WAITDRIP form 0 (R73): waits until FRAME_OPEN returns it. -/
def execWaitdrip (v : Fin 256) (s : State) : Host.Outcome State Fault Refusal :=
  .next (issueOn s v (fun q => if q.frameOpen then .exc 0x0A else .wait q .launch))

/-- Region entries the keeper wrote take effect at the launch (R203). -/
def CoreSt.applyRegions (c : CoreSt) : CoreSt :=
  c.regionPend.foldl (fun (c : CoreSt) (p : Nat × U64) => c.setReg .CORE_REGION p.1 p.2) { c with regionPend := [] }

/-- A form-0 WAITDRIP returns at drip t (R73): the four values latched, VALID cleared, the frame opened, the epoch's counts
begun. `len` and `maxLate` are the epoch length and MAX_LATE of the variant it names. -/
def openFrameOp (c : CoreSt) (t stall len maxLate : Nat) : CoreSt × List CoreEvent :=
  let launch := c.reg .SEQ_NEXT_LAUNCH 0
  match c.seq.run with
  | .waiting .launch =>
    if c.fld .SEQ_NEXT_SEL 0 16 16 = 1 ∧ launch.toNat ≤ t then
      let cur : EpochVals := ⟨c.reg .SEQ_NEXT_EPOCH 0, launch, c.fld .SEQ_NEXT_SEL 0 2 0, c.fld .SEQ_NEXT_SEL 0 15 4⟩
      let f : Frame := { id := c.frameNo, epoch := cur.index.toNat, launch := launch.toNat, next := launch.toNat + len,
                         maxLate := maxLate }
      let c := (c.setFld .SEQ_NEXT_SEL 0 16 16 0).setFld .CORE_MX_STAT 0 39 32 0
      let c := { c.applyRegions with
        frames := c.frames ++ [f], frameNo := c.frameNo + 1, tiles := 0, noticed := [], stretchUsed := 0, stretchWin := 0 }
      seqReturn c { c.seq with run := .issuing, frameOpen := true, cur := cur } stall
    else (c, [])
  | _ => (c, [])

/-- FRAME_OPEN (R73): at drip t, after `stall` cycles of waiting. -/
def execFrameOpen (v : Fin 256) (t stall : U64) (s : State) : Host.Outcome State Fault Refusal :=
  let s := s.at' t.toNat
  .next (s.onCore v (fun c =>
    let vr := (s.quad ((v : Nat) / 64)).variants[c.fld .SEQ_NEXT_SEL 0 2 0]?
    openFrameOp c t.toNat stall.toNat ((vr.map (·.epochLen)).getD 0) ((vr.map (·.maxLate)).getD 0)))

/-- WAITDRIP form 1 (R75). -/
def execWaitdripForm1 (v : Fin 256) (sr : Fin 32) (imm : BitVec 19) (s : State) : Host.Outcome State Fault Refusal :=
  .next (issueOn s v (fun q => if q.frameOpen then .wait q (.drip (q.rd sr + imm.setWidth 64)) else .exc 0x0A))

/-- WAITDRIP_FORM_1_RETURN (R75): at a drip view t at or past the target. -/
def execWaitdripForm1Return (v : Fin 256) (t stall : U64) (s : State) : Host.Outcome State Fault Refusal :=
  .next ((s.at' t.toNat).onCore v (fun c => match c.seq.run with
    | .waiting (.drip target) =>
      if target.toNat ≤ t.toNat then seqReturn c { c.seq with run := .issuing } stall.toNat else (c, [])
    | _ => (c, [])))

/-- WAITQ (R57). -/
def execWaitq (v : Fin 256) (q : Fin 4) (count : Fin 16) (s : State) : Host.Outcome State Fault Refusal :=
  .next (s.onCore v (fun c => seqIssue c (fun x =>
    if (count : Nat) > 8 then .exc 0x01
    else if (c.queue q).ents.length ≤ count then .ok x
    else .wait x (.queue q count))))

/-- WAITQ_RETURN (R57). -/
def execWaitqReturn (v : Fin 256) (stall : U64) (s : State) : Host.Outcome State Fault Refusal :=
  .next (s.onCore v (fun c => match c.seq.run with
    | .waiting (.queue q n) =>
      if (c.queue q).ents.length ≤ n then seqReturn c { c.seq with run := .issuing } stall.toNat else (c, [])
    | _ => (c, [])))

/-- ev − s, taken as 32-bit signed, is at least 0 (R57). -/
def eventReached (ev target : BitVec 32) : Bool := !(ev - target).msb

/-- WAITEV (R57): imm16 must be 0. -/
def execWaitev (v : Fin 256) (ev : Fin 16) (sr : Fin 32) (imm : BitVec 16) (s : State) : Host.Outcome State Fault Refusal :=
  .next (issueOn s v (fun q =>
    if imm ≠ 0 then .exc 0x01
    else if eventReached (q.evc ev) (low32 (q.rd sr)) then .ok q
    else .wait q (.event ev (low32 (q.rd sr)))))

/-- WAITEV_RETURN (R78). -/
def execWaitevReturn (v : Fin 256) (stall : U64) (s : State) : Host.Outcome State Fault Refusal :=
  .next (s.onCore v (fun c => match c.seq.run with
    | .waiting (.event e target) =>
      if eventReached (c.seq.evc e) target then seqReturn c { c.seq with run := .issuing } stall.toNat else (c, [])
    | _ => (c, [])))

/-- EPOCHEND (R76): the frame closes; with no descriptor outstanding its marker is raised at once. -/
def epochEndOp (c : CoreSt) (t : Nat) : CoreSt × List CoreEvent :=
  let c := c.occur 0x03
  if !c.seq.frameOpen then raiseSeq c 0x0A
  else
    let pc := c.seq.pc
    let (c1, e1) := seqAdvance c { c.seq with frameOpen := false } pc
    match c.openFrame with
    | none => (c1, e1)
    | some f =>
      let (c2, e2) := frameStep (c1.setFrame { f with closed := true, endPc := pc }) f.id t
      (c2, e1 ++ e2)

/-- EPOCHEND (R76). -/
def execEpochend (v : Fin 256) (t : U64) (s : State) : Host.Outcome State Fault Refusal :=
  .next ((s.at' t.toNat).onCore v (fun c => if c.issuing then epochEndOp c t.toNat else (c, [])))

/-- The epoch values GETE reads (R74): the current ones while the frame is open, else the next ones, 0 while VALID is 0. -/
def geteVal (c : CoreSt) (sel : Nat) : U64 :=
  let x : EpochVals :=
    if c.seq.frameOpen then c.seq.cur
    else if c.fld .SEQ_NEXT_SEL 0 16 16 = 1 then
      ⟨c.reg .SEQ_NEXT_EPOCH 0, c.reg .SEQ_NEXT_LAUNCH 0, c.fld .SEQ_NEXT_SEL 0 2 0, c.fld .SEQ_NEXT_SEL 0 15 4⟩
    else {}
  match sel with
  | 0 => x.index | 1 => x.launch | 2 => BitVec.ofNat 64 x.variant | _ => BitVec.ofNat 64 x.slot

/-- GETE (R57, R74). -/
def execGete (v : Fin 256) (sr : Fin 32) (sel : BitVec 16) (s : State) : Host.Outcome State Fault Refusal :=
  .next (s.onCore v (fun c => seqIssue c (fun q =>
    if sel.toNat > 3 then .exc 0x01 else .ok (q.wr sr (geteVal c sel.toNat)))))

/-- EVRD (R57): imm16 must be 0. -/
def execEvrd (v : Fin 256) (ev : Fin 16) (sr : Fin 32) (imm : BitVec 16) (s : State) : Host.Outcome State Fault Refusal :=
  .next (issueOn s v (fun q => if imm ≠ 0 then .exc 0x01 else .ok (q.wr sr ((q.evc ev).setWidth 64))))

/-- ASON (R79): opcode 0x60 outside address-stream mode, with AS_ENABLE. -/
def execAson (v : Fin 256) (s : State) : Host.Outcome State Fault Refusal :=
  .next (s.onCore v (fun c => seqIssue c (fun q =>
    if c.fld .SEQ_CTRL 0 2 2 = 0 ∨ q.asActive then .exc 0x01 else .ok { q with asActive := true })))

/-- ASOFF (R79). -/
def execAsoff (v : Fin 256) (s : State) : Host.Outcome State Fault Refusal :=
  .next (issueOn s v (fun q => if q.asActive then .ok { q with asActive := false } else .exc 0x01))

/-- SLOOP (R79, R82): as LOOP in address-stream mode, with the low 16 bits of c as the count. -/
def execSloop (v : Fin 256) (c : Fin 4) (len : BitVec 12) (s : State) : Host.Outcome State Fault Refusal :=
  .next (issueOn s v (fun q => if q.asActive then enterLoop q ((q.creg c).toNat % 65536) len.toNat else .exc 0x01))

/-- RDDRIP (R57, R75): rd ← the drip view t; legal only with DIAG = 1 and outside address-stream mode
(DESIGN CHOICE, log entry 16). -/
def execRddrip (v : Fin 256) (rd : Fin 32) (t : U64) (s : State) : Host.Outcome State Fault Refusal :=
  .next ((s.at' t.toNat).onCore v (fun c => seqIssue c (fun q =>
    if c.fld .SEQ_CTRL 0 1 1 = 0 ∨ q.asActive then .exc 0x01 else .ok (q.wr rd t))))

/-- NOP (R57). -/
def execNop (v : Fin 256) (s : State) : Host.Outcome State Fault Refusal := .next (issueOn s v (fun q => .ok q))

/-- HALT (R57): legal only with DIAG = 1. -/
def execHalt (v : Fin 256) (s : State) : Host.Outcome State Fault Refusal :=
  .next (s.onCore v (fun c => if c.issuing then
      (if c.fld .SEQ_CTRL 0 1 1 = 1 then ((c.occur 0x03).stop, []) else raiseSeq (c.occur 0x03) 0x01)
    else (c, [])))

/-- SEQ_RUN_START (R83). -/
def execSeqRunStart (v : Fin 256) (s : State) : Host.Outcome State Fault Refusal := .next (s.onCoreReg v CoreSt.start)

/-- SEQ_RUN_STOP (R83). -/
def execSeqRunStop (v : Fin 256) (s : State) : Host.Outcome State Fault Refusal := .next (s.onCoreReg v CoreSt.stop)

/-- FLUSH (R120): effective only while a queue is halted or the sequencer is stopped. -/
def CoreSt.flushCmd (c : CoreSt) : CoreSt :=
  match c.seq.run with
  | .stopped => c.flush
  | .faulted => c.flush
  | _ => if c.anyHalted then c.flush else c

/-- FLUSH (R120). -/
def execFlush (v : Fin 256) (s : State) : Host.Outcome State Fault Refusal := .next (s.onCoreReg v CoreSt.flushCmd)

/-- A hardware-class sequencer exception (R63): the sequencer stops, the record is written, the core is cordoned. -/
def State.hardwareExc (s : State) (p code reason : Nat) : State :=
  let (c, evs) := raiseSeq (s.core p) code
  s.runCore p (c, evs ++ [.cordon reason false])

/-- CONTROL_STATE_ERROR (R53, R60 code 0x10, R63, R204): detected at drip t on physical core p. A single-bit error is corrected in line
and counted; a double-bit one is the exception. -/
def execControlStateError (p : Fin 288) (t : U64) (double : Bool) (s : State) : Host.Outcome State Fault Refusal :=
  let s := s.at' t.toNat
  .next (if double then s.hardwareExc p 0x10 2 else s.modCore p (fun c => { c with seqCorr := c.seqCorr + 1 }))

/-- WDOG_EPOCHS, 0 and 1 taken as 2 (R77). -/
def CoreSt.wdogEpochs (c : CoreSt) : Nat := max 2 (c.fld .SEQ_CTRL 0 15 8)

/-- Is a watchdog due on a core (R77, R119, R490): some frame's marker is awaited WDOG_EPOCHS launches later, and nothing
suppresses it. -/
def State.watchdogDue (s : State) (p : Nat) : Bool :=
  let c := s.core p
  let q := p / 72
  let refused := match c.seq.run with | .waiting (.pushRefused _) => true | .faulted => true | _ => false
  c.frames.any (fun f => decide (f.epoch + c.wdogEpochs ≤ s.epoch q)) &&
  !(c.anyHalted || refused || s.bit .QD_RECOVERY q 0 || s.bit .QD_RECOVERY q 3) && !c.inReset

/-- SEQUENCER_WATCHDOG (R77): exception 0x11 at drip t, when due. -/
def execSequencerWatchdog (v : Fin 256) (t : U64) (s : State) : Host.Outcome State Fault Refusal :=
  let s := s.at' t.toNat
  .next (match s.phys v with
    | none => s
    | some p => if s.watchdogDue p then
        (s.modCore p (fun c => c.setFld .SEQ_STATUS 0 16 16 1)).hardwareExc p 0x11 3
      else s)

/-- The launch rule that governs epoch k, with the epoch its slots are counted from (R25, R42, R271): a held notice from its ks on,
else the rule in force, else, for an epoch before a switch that has taken place, the rule then in force (R50). -/
def QuadSt.ruleFor (x : QuadSt) (k : Nat) : LaunchRule × Nat :=
  let now := if x.rule.first ≤ k then (x.rule, x.kv)
    else (x.past.find? (fun r => decide (r.1.first ≤ k))).getD (x.rule, x.kv)
  match x.notice with
  | some n => if n.ks ≤ k then ({ first := n.ks, at' := n.count, variant := n.target }, n.ks) else now
  | none => now

/-- The values the supervisor gives a core for its next epoch (R72, R25, R42): launch count, variant, epoch slot. -/
def State.nextValues (s : State) (q k : Nat) : Nat × Nat × Nat :=
  let x := s.quad q
  let (r, kv) := x.ruleFor k
  let len := max 1 (((x.variants[r.variant]?).map (·.switchOk.length)).getD 1)
  (r.launch x.variants k, r.variant, (k - kv) % len)

/-- The next-epoch registers of a core written, VALID last (R72). -/
def CoreSt.setNext (c : CoreSt) (k launch variant slot : Nat) : CoreSt :=
  ((c.setReg .SEQ_NEXT_EPOCH 0 (BitVec.ofNat 64 k)).setReg .SEQ_NEXT_LAUNCH 0 (BitVec.ofNat 64 launch)).setReg .SEQ_NEXT_SEL 0
    (BitVec.ofNat 64 (variant % 8 + slot % 4096 * 16 + 2 ^ 16))

/-- The next epoch of a core (R72): one past the epoch its frame last opened for, or on a fresh start the restart epoch, else
the first launch not yet reached at drip t. -/
def State.nextEpochOf (s : State) (q : Nat) (c : CoreSt) (t : Nat) : Nat :=
  if c.frameNo > 0 ∧ c.seq.cur.launch ≠ 0 then c.seq.cur.index.toNat + 1
  else match (s.quad q).restart with
    | some (kr, _) => kr
    | none =>
      let x := s.quad q
      let len := max 1 (((x.variants[x.rule.variant]?).map (·.epochLen)).getD 1)
      if t < x.rule.at' then x.rule.first else x.rule.first + (t - x.rule.at') / len + 1

/-- The supervisor writes the next-epoch values of a core at drip t (R72): none while VALID is set, while no plan runs, or,
during an emergency hold, for a launch at or after the hold count; none on a device out of step (R457). -/
def State.writeNext (s : State) (v t : Nat) : State :=
  let q := v / 64
  s.onCoreReg v (fun c =>
    if c.fld .SEQ_NEXT_SEL 0 16 16 = 1 ∨ !s.runs q then c
    else
      let k := s.nextEpochOf q c t
      let (launch, variant, slot) := s.nextValues q k
      if s.heldAt launch ∨ s.tbState = 4 then c
      else c.setNext k launch variant slot)

/-- NEXT_EPOCH_WRITE (R72). -/
def execNextEpochWrite (v : Fin 256) (t : U64) (s : State) : Host.Outcome State Fault Refusal :=
  .next ((s.at' t.toNat).writeNext v t.toNat)

/-- PEER_EVENT_SIGNAL (R101): the peer's counter raised, wrapping; discarded at a fenced position, counted and noticed, a signal's TAG
taken as 0 (R349; DESIGN CHOICE, log entry 128). -/
def execPeerEventSignal (v : Fin 256) (ev : Fin 16) (s : State) : Host.Outcome State Fault Refusal :=
  .next (match s.phys v with
    | none => s
    | some p => if s.fenced p then (s.bump .MSH_ROUTER_STAT p 15 0 1).noticeTag (p / 72) 0 p
      else s.modCore p (fun c => { c with seq := c.seq.setEvc ev (c.seq.evc ev + 1) }))

/-- SB_PEAK_CLR (R127). -/
def execSbPeakClr (v : Fin 256) (s : State) : Host.Outcome State Fault Refusal :=
  .next (s.onCoreReg v (fun c => c.setFld .SB_STATUS 0 14 8 c.claimsUsed))

/-- LATE_CLR (R39). -/
def execLateClr (v : Fin 256) (s : State) : Host.Outcome State Fault Refusal :=
  .next (s.onCoreReg v (fun c => c.setFld .CORE_EPOCH_STAT 0 47 0 0))

/-- SUPERVISOR_SIGNAL (R101): the tag, the virtual core id and the epoch index appended. -/
def execSupervisorSignal (v : Fin 256) (tag : BitVec 16) (s : State) : Host.Outcome State Fault Refusal :=
  let q := (v : Nat) / 64
  .next (s.modQuad q (fun x => { x with sigQ := x.sigQ ++ [(tag.toNat, (v : Nat), s.epoch q)] }))

end Sys2Proof.Machine
end

