-- ==== Sys2Proof/Machine/Serving.lean ====
section
/-! DEFINITION. The serving hub's commands (R268 to R310): the commands of a quadrant function, step starts, admission, the
batch table, variant choice and the boundary snapshot. -/
namespace Sys2Proof.Machine

/-! ### Commands (R522 to R528) -/

/-- A completion of kind 1. -/
def State.done (s : State) (q status : Nat) (ws : List U64) : State := s.answer q 1 status (cmdCid ws) (cmdTag ws) 0 0

/-- CREATE_RING (R523, R528). -/
def State.cmdCreateRing (s : State) (q : Nat) (ws : List U64) : State :=
  let i := wf ws 1 7 0
  let out : Bool := wf ws 1 8 8 = 1
  let base := (wordAt ws 2).toNat
  let pay := (wordAt ws 3).toNat
  if !cmdOk ws [0x1FFFFFFFF, 2 ^ 64 - 1, 2 ^ 64 - 1] ∨ base % 4096 ≠ 0 ∨ pay % 4096 ≠ 0 ∨ (!out ∧ pay ≠ 0) then s.done q 0x31 ws
  else if (s.ring q i).isSome then s.done q 0x32 ws
  else if !ringSizeOk (wf ws 1 32 16) then s.done q 0x33 ws
  else (s.setRing q i { output := out, irq := wf ws 1 9 9 = 1, vector := wf ws 1 15 10, size := wf ws 1 32 16, base := base,
                        payload := pay }).done q 0 ws

/-- DELETE_RING (R532): refused on an unknown or bound ring; the released count of an unused id reads 0 (R517). -/
def State.cmdDeleteRing (s : State) (q : Nat) (ws : List U64) : State :=
  let i := wf ws 1 7 0
  if !cmdOk ws [0xFF] then s.done q 0x31 ws
  else match s.ring q i with
    | none => s.done q 0x32 ws
    | some r => if r.bound.isSome then s.done q 0x32 ws
      else
        let s := s.modFunc q (fun x => { x with rings := Map.del (α := Ring) x.rings i })
        (if r.output then s else s.send (.doorbell q (1024 + 4 * i) 0)).done q 0 ws

/-- A ring id of a command or block, 0xFF meaning none. -/
def ringId (n : Nat) : Option Nat := if n = 0xFF then none else some n

/-- May a ring be bound: known, unbound and of the right kind (R292, R528). -/
def State.ringFree (s : State) (q : Nat) (out : Bool) (i : Option Nat) : Bool :=
  match i with
  | none => true
  | some k => match s.ring q k with
    | some r => r.bound.isNone && r.output == out
    | none => false

/-- The slot a command names passes the tag check (R523). -/
def State.tagged (s : State) (q : Nat) (ws : List U64) : Bool :=
  let t := (s.quad q).slot (wf ws 1 6 0)
  decide (t.state ≠ 0 ∧ t.tag = cmdTag ws) && !t.frozen

/-- BIND_RINGS (R532): only for a restored slot not yet bound. -/
def State.cmdBindRings (s : State) (q : Nat) (ws : List U64) : State :=
  let n := wf ws 1 6 0
  let i := ringId (wf ws 1 15 8)
  let o := ringId (wf ws 1 23 16)
  if !cmdOk ws [0xFFFF7F] then s.done q 0x31 ws
  else if !s.tagged q ws ∨ !((s.quad q).slot n).restored then s.done q 0x36 ws
  else if !s.ringFree q false i ∨ !s.ringFree q true o then s.done q 0x32 ws
  else (((s.bindRing q i (some n)).bindRing q o (some n)).modSlot q n
    (fun t => { t with inRing := i, outRing := o, restored := false })).done q 0 ws

/-- END and ABORT (R278): at once when no step is in flight, else after its scan. -/
def State.cmdEnd (s : State) (q reason : Nat) (ws : List U64) : State :=
  let n := wf ws 1 6 0
  let t := (s.quad q).slot n
  if !cmdOk ws [0x7F] then s.done q 0x31 ws
  else if !s.tagged q ws ∨ (t.state ≠ 1 ∧ t.state ≠ 2) then s.done q 0x36 ws
  else if t.inStep then (s.modSlot q n (fun t => { t with ending := some reason })).done q 0 ws
  else (s.done q 0 ws).drain q n reason

/-- CUT (R325, R327): at once, or pending while a step is in flight. `yields` marks a cut whose slot an ABORT of the same
snapshot ends (R332). -/
def State.cmdCut (s : State) (q : Nat) (ws : List U64) (k : Nat) (yields : Bool) : State :=
  let n := wf ws 1 6 0
  let t := (s.quad q).slot n
  let c := wf ws 2 23 0
  if !cmdOk ws [0x7F, 0xFFFFFF] then s.refuse q 5 0x31 ws
  else if !s.tagged q ws then s.refuse q 5 0x36 ws
  else if t.state ≠ 2 ∨ yields then s.cutDone q n 0x21 (cmdCid ws) (cmdTag ws)
  else if t.inStep then
    let s := match t.cut with | some (_, cid) => s.cutDone q n 0x22 cid t.tag | none => s
    s.modSlot q n (fun t => { t with cut := some (c, cmdCid ws), hold := 5 })
  else s.cutSlot q n c (cmdCid ws) k

/-- ACCT_SET (R298). -/
def State.cmdAcctSet (s : State) (q : Nat) (ws : List U64) : State :=
  let a := wf ws 1 12 0
  if !cmdOk ws [0x1FFF, 0xFFFFFFFF, 0xFFFFFFFFFF, 0xFFFFFFFF] then s.done q 0x31 ws
  else if !s.ownsAccount q a then s.done q 0x34 ws
  else ((s.setReg .BUD_CFG a (BitVec.ofNat 64 (wf ws 4 31 0 + wf ws 2 31 0 * 2 ^ 32))).setReg .BUD_CAP a
    (BitVec.ofNat 64 (wf ws 3 39 0))).done q 0 ws

/-- ACCT_CREDIT (R298). -/
def State.cmdAcctCredit (s : State) (q : Nat) (ws : List U64) : State :=
  let a := wf ws 1 12 0
  if !cmdOk ws [0x1FFF, 0xFFFFFFFFFF] then s.done q 0x31 ws
  else if !s.ownsAccount q a then s.done q 0x34 ws
  else (s.credit a (wf ws 2 39 0)).done q 0 ws

/-- VARIANT_REQ (R300). -/
def State.cmdVariantReq (s : State) (q : Nat) (ws : List U64) : State :=
  let v := wf ws 1 7 0
  if !cmdOk ws [0xFF] ∨ (v > 7 ∧ v ≠ 0xFF) then s.done q 0x31 ws
  else if !((s.quad q).master && s.runs q) then s.done q 0x37 ws
  else (s.modQuad q (fun x => { x with request := if v = 0xFF then none else some v })).done q 0 ws

/-- The sampler parameter block's ranges (R312). -/
def Sampler.ok (x : Sampler) : Bool :=
  let finite := fun (b : Nat) => decide (b / 2 ^ 23 % 256 ≠ 255)
  (decide (x.temp = 0x80000000) || decide (x.temp < 0x7F800000)) && decide (0 < x.topP ∧ x.topP ≤ 0x3F800000) &&
  (decide (x.minP < 0x3F800000) || decide (x.minP = 0x80000000)) && decide (0x800000 ≤ x.rep ∧ x.rep < 0x7F800000) &&
  finite x.pres && finite x.freq && decide (x.topK ≤ 1024) && natBits x.stop 30 18 = 0

/-- A byte field of an admission block. -/
def blk (b : List Byte) (at' n : Nat) : Nat := ofLe ((b.drop at').take n)

/-- The sampler parameter block at byte 64 of an admission block. -/
def samplerOf (b : List Byte) : Sampler :=
  { temp := blk b 64 4, topP := blk b 68 4, minP := blk b 72 4, rep := blk b 76 4, pres := blk b 80 4, freq := blk b 84 4,
    topK := blk b 88 2, stop := blk b 92 4 }

/-- Fields of an admission block that must be 0 (R524). -/
def blockClean (b : List Byte) : Bool :=
  decide (b.length = 128) && blk b 8 2 / 8192 = 0 && blk b 10 1 / 4 = 0 && blk b 11 1 / 2 = 0 && blk b 22 2 = 0 && blk b 30 2 = 0 &&
  natBits (blk b 32 4) 22 22 = 0 && blk b 35 1 = 0 && blk b 39 1 = 0 && blk b 56 8 = 0 && blk b 90 2 = 0 && blk b 96 32 = 0

/-- The admission entry of a block (R524). -/
def admEntryOf (cid tag arrival since : Nat) (b : List Byte) : AdmEntry :=
  { cid := cid, tag := tag, dclass := blk b 10 1 % 4, account := blk b 8 2 % 8192, adapter := (blk b 16 4, blk b 20 2)
    pfx := (blk b 24 4, blk b 28 2), seed := BitVec.ofNat 64 (blk b 0 8), sampler := samplerOf b, left := blk b 36 3
    promptAt := blk b 40 8, resume := if blk b 11 1 % 2 = 1 then some (blk b 48 8) else none, inRing := ringId (blk b 12 1)
    outRing := ringId (blk b 13 1)
    partner := if natBits (blk b 32 4) 23 23 = 1 then some (blk b 32 4 % 2 ^ 20, natBits (blk b 32 4) 21 20) else none
    ttl := blk b 14 2, arrival := arrival, since := since }

/-- ADMIT (R287 to R289, R292, R312): the entry takes the lowest free place of the queue. -/
def State.cmdAdmit (s : State) (q : Nat) (ws : List U64) (block : Option (List Byte)) (k : Nat) : State :=
  let x := s.quad q
  if !cmdOk ws [2 ^ 64 - 64] then s.refuse q 2 0x31 ws
  else match block with
    | none => s.refuse q 2 0x38 ws
    | some b =>
      if !s.runs q ∨ !s.bit .ADM_CTRL q 0 then s.refuse q 2 0x1B ws
      else
        let s := s.modQuad q (fun x => { x with admits := x.admits + 1 })
        if !blockClean b ∨ !(samplerOf b).ok then s.refuse q 2 0x12 ws
        else match (List.range 1024).find? (fun i => (Map.find (α := AdmEntry) x.adm i).isNone) with
          | none => (s.bump .ADM_STAT q 31 16 1).refuse q 2 0x10 ws
          | some i => s.modQuad q (fun x => { x with
              adm := Map.set (α := AdmEntry) x.adm i (admEntryOf (cmdCid ws) (cmdTag ws) (x.admits - 1) k b) })

/-- The read order of the admission queue (R288): class, then arrival. -/
def admBefore (a b : AdmEntry) : Bool := decide (a.dclass < b.dclass) || (a.dclass = b.dclass && decide (a.arrival < b.arrival))

/-- The entry a read delivers next: the first in order among those in the order. -/
def admNext : List (Nat × AdmEntry) → Option (Nat × AdmEntry)
  | [] => none
  | e :: es =>
    match admNext es with
    | none => if e.2.inOrder then some e else none
    | some b => if e.2.inOrder && admBefore e.2 b.2 then some e else some b

/-- An admission queue entry removed. -/
def State.admDrop (s : State) (q i : Nat) : State := s.modQuad q (fun x => { x with adm := Map.del (α := AdmEntry) x.adm i })

/-- CANCEL (R289). -/
def State.cmdCancel (s : State) (q : Nat) (ws : List U64) : State :=
  if !cmdOk ws [0xFFFFFFFF] then s.done q 0x31 ws
  else match admNext ((s.quad q).adm.filter (fun e => e.2.tag = wf ws 1 31 0) |>.map (fun e => (e.1, { e.2 with inOrder := true }))) with
    | none => s.done q 0x35 ws
    | some (i, e) => ((s.admDrop q i).answer q 2 0x19 e.cid e.tag 0 0).done q 0 ws

/-- Does a command of the rest of a batch abort the slot a cut names (R332). -/
def State.abortFollows (s : State) (q : Nat) (ws : List U64) (later : List (List U64)) : Bool :=
  later.any (fun a => cmdOp a = 0x13 && cmdOk a [0x7F] && wf a 1 6 0 = wf ws 1 6 0 && s.tagged q a)

/-- A command of a quadrant function applied at the launch of epoch k (R273, R523); `later` are the commands of the same
snapshot after it. Loads that end at the launch have taken effect before a RETIRE (R255) (DEDUCED, log entry 127). -/
def State.command (s : State) (q : Nat) (ws : List U64) (block : Option (List Byte)) (k : Nat) (later : List (List U64)) : State :=
  match cmdOp ws with
  | 0x01 => s.cmdCreateRing q ws
  | 0x02 => s.cmdDeleteRing q ws
  | 0x03 => s.cmdBindRings q ws
  | 0x10 => s.cmdAdmit q ws block k
  | 0x11 => s.cmdCancel q ws
  | 0x12 => s.cmdEnd q 2 ws
  | 0x13 => s.cmdEnd q 3 ws
  | 0x14 => s.cmdCut q ws k (s.abortFollows q ws later)
  | 0x18 => s.cmdAcctSet q ws
  | 0x19 => s.cmdAcctCredit q ws
  | 0x1A => s.cmdVariantReq q ws
  | 0x20 => s.cmdLoad q ws block
  | 0x21 => s.cmdUnload q ws
  | 0x22 => ((s.goLive q).sweepFailed q).cmdRetire q ws
  | 0x63 => s.cmdDump q ws
  | 0x70 => s.modKeeper (fun k => { k with loads := k.loads ++ [(q, ws)] })
  | 0x71 => s.planStart q ws s.now
  | 0x72 => s.planUnload q ws
  | _ => s.done q 0x30 ws

/-- Must a command wait for the ingest engine (R231, R263). -/
def State.mustWait (s : State) (q : Nat) (ws : List U64) : Bool := ingestOp ws && !s.ingestIdle q

/-- Fetched commands applied in ring order; load commands wait for the ingest engine in their order (R231, R273). -/
def State.applyAll (s : State) (q k : Nat) : List Fetched → Bool → State
  | [], _ => s
  | e :: es, held =>
    let ws := e.words.getD []
    if (held && ingestOp ws) || s.mustWait q ws then
      (s.modFunc q (fun x => { x with fetched := x.fetched ++ [e] })).applyAll q k es true
    else
      let s := if e.late then s.bump .HUB_STAT q 15 0 1 else s
      (s.command q ws e.block k (es.map (fun f => f.words.getD []))).applyAll q k es held

/-- The commands that apply at a snapshot or poll, taken from the function's fetched entries (R273 to R275). -/
def State.applyDue (s : State) (q k at' : Nat) : State :=
  let (ready, rest) := readyPrefix at' (s.func q).fetched
  let s := (s.modFunc q (fun x => { x with fetched := [] })).applyAll q k ready false
  s.modFunc q (fun x => { x with fetched := x.fetched ++ rest })

/-! ### Step starts (R271, R284, R285) -/

/-- Slots in a state, IN_STEP 0, by the order of R284. -/
def QuadSt.eligible (x : QuadSt) (st : Nat) : List Nat :=
  let ns := (List.range 128).filter (fun n => (x.slot n).state = st && !(x.slot n).inStep && !(x.slot n).frozen)
  let rec insert (n : Nat) : List Nat → List Nat
    | [] => [n]
    | m :: ms => if (x.slot n).order < (x.slot m).order then n :: m :: ms else m :: insert n ms
  ns.foldl (fun l n => insert n l) []

/-- The contiguous rows of the group of epoch k: first row, count (R271). -/
def groupRows (base rows period k kv : Nat) : List Nat :=
  let p := max 1 period
  rangeFrom (base + (k - kv) % p * (rows / p)) (rows / p)

/-- Decode rows of the group that starts at epoch k. -/
def QuadSt.decodeGroup (x : QuadSt) (v : Variant) (k : Nat) : List Nat := groupRows 0 v.decodeRows v.stepEpochs k x.kv
/-- Prefill rows of the group that starts at epoch k. -/
def QuadSt.prefillGroup (x : QuadSt) (v : Variant) (k : Nat) : List Nat :=
  groupRows v.decodeRows v.prefillRows v.prefillEpochs k x.kv
/-- The group's lowest free row (R271, R324). -/
def QuadSt.freeRow (x : QuadSt) (rows : List Nat) : Option Nat := rows.find? (fun r => (Map.find (α := Group) x.groups r).isNone)

/-- Are all frames of a slot's next step present (R281). -/
def SlotSt.framesReady (t : SlotSt) (p : Serving) : Bool :=
  t.inRing.isNone || (rangeFrom (t.step * p.cadenceIn) p.cadenceIn).all (fun f =>
    t.frames.contains f || (t.inClosed && decide (t.endFrame < f)))
/-- Real frames of a slot's next step (R281, R285). -/
def SlotSt.inCount (t : SlotSt) (p : Serving) : Nat :=
  if t.inRing.isNone then 0
  else ((rangeFrom (t.step * p.cadenceIn) p.cadenceIn).filter (fun f => !(t.inClosed && decide (t.endFrame < f)))).length

/-- Is a slot's next prompt chunk present at the launch L: written, its application launch reached (R685). -/
def SlotSt.chunkReady (t : SlotSt) (l : Nat) : Bool :=
  t.chunks.contains t.chunkNo && decide (Map.get (α := Nat) t.chunkDue t.chunkNo 0 ≤ l)

/-- A slot whose step's tensor is being dumped and not yet copied (R627). -/
def State.dumpHolds (s : State) (q n : Nat) : Bool :=
  match s.trace.dump with
  | some d => d.stable && d.copying && decide (d.quad = q) && decide (d.slot = some n)
  | none => false

/-- The snapshot at the launch of epoch k that scans the commit of a dumped step, or ends the dumped epoch (R627). -/
def State.dumpScan (s : State) (q k : Nat) : State :=
  match s.trace.dump with
  | some d =>
    let ran : Bool := match d.slot with | some n => decide (d.step < ((s.quad q).slot n).step) | none => decide (d.step < k)
    if d.quad = q ∧ !d.copying ∧ ran then { s with trace := { s.trace with dump := some { d with copying := true } } } else s
  | none => s

/-- The first failing test of a sequence, in the order 5, 6, 7 (a dump's, R627), 2, 3, 4, 1 of R284; none when it may start. -/
def State.holdCode (s : State) (q n l : Nat) (rows : List Nat) : Option Nat :=
  let x := s.quad q
  let t := x.slot n
  let p := x.params
  let decode : Bool := t.state = 2
  if t.cut.isSome then some 5
  else if s.mirrorState q n = 2 then some 6
  else if s.dumpHolds q n then some 7
  else if t.restored then some 2
  else if decode && !t.framesReady p then some 2
  else if !decode && !t.chunkReady l then some 2
  else if decode && (match t.outRing with | some r => decide (s.outRoom q r < p.outMax) | none => false) then some 3
  else if (x.freeRow rows).isNone then some 4
  else if decode && decide (s.balance t.account < p.inPos * (s.weights t.account).1 + p.outMax * (s.weights t.account).2) then some 1
  else none

/-- A sequence held out of this epoch's batch (R284). -/
def State.holdOut (s : State) (q n code : Nat) : State :=
  let s := s.modSlot q n (fun t => { t with hold := code, held := satAdd 65535 t.held 1 })
  match code with
  | 1 => s.bump .HUB_STAT q 31 16 1
  | 2 => s.bump .HUB_STAT q 47 32 1
  | 4 => s.bump .HUB_STAT q 63 48 1
  | _ => s

/-- A step or chunk started in a row (R284, R297, R319). -/
def State.startRow (s : State) (q n row l : Nat) : State :=
  let p := (s.quad q).params
  let t := (s.quad q).slot n
  let decode : Bool := t.state = 2
  let w := s.weights t.account
  let r := if decode then p.inPos * w.1 + p.outMax * w.2 else 0
  let npos := if decode then p.np else min p.chunk t.left
  let s := s.debit t.account r
  let s := s.modSlot q n (fun t => { t with inStep := true, row := some row, reserved := t.reserved + r, weights := w })
  s.modQuad q (fun x => { x with
    groups := Map.set (α := Group) x.groups row { slot := n, chunk := !decode, npos := npos, launch := l } })

/-- Sequences of a state started in a group's rows at launch L, or held (R284). -/
def State.startGroup (s : State) (q st l : Nat) (rows : List Nat) : State :=
  s.each ((s.quad q).eligible st) (fun s n =>
    match s.holdCode q n l rows with
    | some c => s.holdOut q n c
    | none => match (s.quad q).freeRow rows with
      | some r => s.startRow q n r l
      | none => s)

/-- HBM address of an adapter's or prefix's resident form. -/
def State.objAt (s : State) (q : Nat) (pfx : Bool) (k : Option Nat) : Nat :=
  match k with
  | some k => match s.objShard q pfx k with | some r => mfAddr r.words | none => 0
  | none => 0

/-- Word 4 of a batch-row entry: the bound prefix (R285). -/
def State.prefixWord (s : State) (q : Nat) (k : Option Nat) : Nat :=
  match k with
  | none => 0
  | some k => match s.objShard q true k with
    | none => 2 ^ 40
    | some r => if mfHome r.words = 4 then ((r.pieces.head?.map (fun p => p.2.1)).getD 0) + 2 ^ 40 + 2 ^ 41
      else mfAddr r.words + 2 ^ 40

/-- The 64-byte batch-table entry of a row that started at launch L; zeros for a row that starts nothing (R285). -/
def State.batchEntry (s : State) (q row l : Nat) : List Byte :=
  match Map.find (α := Group) (s.quad q).groups row with
  | none => List.replicate 64 0
  | some g =>
    if g.launch ≠ l then List.replicate 64 0
    else
      let p := (s.quad q).params
      let t := (s.quad q).slot g.slot
      let w0 := g.slot + 2 ^ 8 + (if g.chunk then 2 ^ 9 else t.inCount p * 2 ^ 10) + g.npos % 2 ^ 13 * 2 ^ 16
      let w2 := t.pos % 2 ^ 24 + s.prefixLen t.pfx * 2 ^ 24
      let w3 := match t.adapter with
        | some k => s.objAt q false t.adapter + s.fld .HUB_ADAPTER_SLOT k 27 20 * 2 ^ 40 + 2 ^ 48
        | none => 0
      [w0, if g.chunk then t.chunkNo else t.step, w2, w3, s.prefixWord q t.pfx, if g.chunk then 0 else t.step * p.cadenceIn, 0,
       0].flatMap (leBytes 8)

/-- The batch table written for the rows of the groups that start at L, in every core the plan names (R285). -/
def State.writeBatch (s : State) (q l : Nat) (rows : List Nat) : State :=
  s.each ((s.quad q).params.buffers.filter (fun b => decide (b.batch ≠ 0))) (fun s b =>
    s.each rows (fun s r => s.onCoreReg b.core (fun c => c.hwWrite s.now (b.batch + 64 * r) (s.batchEntry q r l))))

/-! ### Admission (R290 to R292) -/

/-- The checks of an admission but for the account's balance (R291): a status, or the slots to bind
(DEDUCED, log entry 81). -/
def State.admCheck (s : State) (q slot : Nat) (e : AdmEntry) (refused : Bool) : Nat ⊕ (Option Nat × Option Nat) :=
  let p := (s.quad q).params
  let n := s.prefixLen (s.namedSlot q true e.pfx.1 e.pfx.2)
  let noPayload : Bool := match e.outRing with
    | some o => p.outKind = 1 && (match s.ring q o with | some r => decide (r.payload = 0) | none => false)
    | none => false
  let mirror : Bool := match e.partner with
    | some (id, pq) => s.bit .QD_MIRROR q 22 && decide (id = s.fld .QD_MIRROR q 19 0 ∧ pq = s.fld .QD_MIRROR q 21 20) &&
        !s.bit .QD_RECOVERY q 0 && !refused && decide (s.mirrorState q slot ≠ 2)
    | none => !s.bit .QD_MIRROR q 22
  if !s.ownsAccount q e.account then .inl 0x13
  else if !s.ringFree q false e.inRing ∨ !s.ringFree q true e.outRing ∨ noPayload then .inl 0x16
  else if e.inRing.isSome ∧ p.inputKind = 0 then .inl 0x17
  else if n + e.left > p.kvMax then .inl 0x18
  else if n + e.left < (e.resume.getD 0) * p.np then .inl 0x12
  else match s.binding q false e.adapter.1 e.adapter.2, s.binding q true e.pfx.1 e.pfx.2 with
    | .inr st, _ => .inl st
    | _, .inr st => .inl st
    | .inl a, .inl b => if mirror then .inr (a, b) else .inl 0x1A

/-- The record of a refused binding to a retired or unknown version (R256). -/
def State.retiredRecord (s : State) (q : Nat) (e : AdmEntry) : State :=
  let bad := fun (pfx : Bool) (o : Nat × Nat) => match s.binding q pfx o.1 o.2 with | .inr st => decide (st = 0x14) | .inl _ => false
  let o := if bad false e.adapter then e.adapter else e.pfx
  s.superRecord q 0 { kind := 0x0F, source := 6, arg := o.1 + o.2 * 2 ^ 32 }

/-- An entry admitted into a slot at the launch of epoch k (R277, R291, R297, R525, R685). -/
def State.admitAt (s : State) (q slot i k due : Nat) (e : AdmEntry) (bind : Option Nat × Option Nat) : State :=
  let p := (s.quad q).params
  let n := s.prefixLen bind.2
  let old := (s.quad q).slot slot
  let t : SlotSt :=
    { state := 1, dclass := e.dclass, account := e.account, adapter := bind.1, pfx := bind.2, pfxLen := n, seed := e.seed, pos := n
      left := e.left, inRing := e.inRing, outRing := e.outRing, partner := e.partner, tag := e.tag, order := k, resume := e.resume
      promptAt := e.promptAt, promptLen := e.left, sampler := e.sampler, dseq := old.dseq }
  let t := if e.left = 0 then t.enterDecode p else t
  let s := (s.debit e.account (e.left * (s.weights e.account).1)).admDrop q i
  let s := (s.addRef false bind.1 true).addRef true bind.2 true
  let s := s.modSlot q slot (fun _ => t)
  let s := (s.bindRing q e.inRing (some slot)).bindRing q e.outRing (some slot)
  let s := if e.partner.isSome then s.sendDelta q slot 3 k [] else s.setReg .HUB_SEQ_MIRROR (q * 128 + slot) 0
  let s := (s.askChunk q slot 0 due).askChunk q slot 1 due
  s.answer q 2 0 e.cid e.tag (slot + (s.boundId false bind.1).2 * 2 ^ 16 + (s.boundId true bind.2).2 * 2 ^ 32) k

/-- The admission step (R291): at most `n` reads and `m` admissions; entries the account does not cover are put back at the
end. `no` lists queue entries whose partner refuses the mirror (R487). -/
def State.admitStep (s : State) (q k due : Nat) (no : List Nat) : Nat → Nat → State
  | 0, _ => s
  | n + 1, m =>
    match m, (List.range 128).find? (fun j => ((s.quad q).slot j).state = 0), admNext (s.quad q).adm with
    | 0, _, _ => s
    | m' + 1, some slot, some (i, e) =>
      match s.admCheck q slot e (no.contains i) with
      | .inr bind =>
        if s.balance e.account < e.left * (s.weights e.account).1 then
          (s.modQuad q (fun x => { x with adm := Map.set (α := AdmEntry) x.adm i { e with inOrder := false } })).admitStep q k due no n
            (m' + 1)
        else (s.admitAt q slot i k due e bind).admitStep q k due no n m'
      | .inl st =>
        -- check 5 stands before check 6 (R291)
        if st = 0x1A ∧ s.balance e.account < e.left * (s.weights e.account).1 then
          (s.modQuad q (fun x => { x with adm := Map.set (α := AdmEntry) x.adm i { e with inOrder := false } })).admitStep q k due no n
            (m' + 1)
        else
          let s := if st = 0x14 then s.retiredRecord q e else s
          ((s.admDrop q i).answer q 2 st e.cid e.tag 0 0).admitStep q k due no n (m' + 1)
    | _, _, _ => s

/-- Entries put back in their places (R290). -/
def State.admReturnAll (s : State) (q : Nat) (ids : List Nat) : State :=
  s.modQuad q (fun x => { x with adm := x.adm.map (fun e => if ids.contains e.1 then (e.1, { e.2 with inOrder := true }) else e) })

/-- Admissions of a snapshot, and the entries it read and could not admit put back (R290, R291). -/
def State.admissions (s : State) (q k due : Nat) (no : List Nat) : State :=
  let away := ((s.quad q).adm.filter (fun e => !e.2.inOrder)).map (·.1)
  let s := s.admitStep q k due no 64 16
  s.admReturnAll q ((((s.quad q).adm.filter (fun e => !e.2.inOrder)).map (·.1)).filter (fun i => !away.contains i))

/-- Timed-out entries removed (R289). -/
def State.expire (s : State) (q k : Nat) : State :=
  s.each ((s.quad q).adm.filter (fun e => decide (0 < e.2.ttl ∧ e.2.since + e.2.ttl ≤ k))) (fun s e =>
    ((s.admDrop q e.1).answer q 2 0x11 e.2.cid e.2.tag 0 0).bump .ADM_STAT q 47 32 1)

/-- The name of a quadrant's ADMIT_OPEN pin. -/
def admitPin (q : Nat) : String := ["ADMIT_OPEN0", "ADMIT_OPEN1", "ADMIT_OPEN2", "ADMIT_OPEN3"].getD q ""

/-- The open state replaced, and its pin driven (R293). -/
def State.setOpen (s : State) (q : Nat) (o : Bool) : State :=
  if s.bit .ADM_STAT q 11 = o then s else (s.setBit .ADM_STAT q 11 o).send (.pin (admitPin q) o)

/-- The open state judged at the end of a snapshot (R293). -/
def State.judgeOpen (s : State) (q : Nat) : State :=
  let n := (s.quad q).adm.length
  if !s.bit .ADM_CTRL q 0 then s.setOpen q false
  else if n ≥ s.fld .ADM_WMARK q 10 0 then s.setOpen q false
  else if n ≤ s.fld .ADM_WMARK q 26 16 then s.setOpen q true
  else s

/-- The status word written after any change (R293) (DEDUCED, log entry 82). -/
def State.statusWord (s : State) (q k : Nat) : State :=
  let w := (if s.bit .ADM_STAT q 11 then 1 else 0) + (s.quad q).adm.length * 2
  let a := (s.reg .ADM_STATUS_ADDR q).toNat
  if (s.quad q).status.getD 0 = w then s
  else
    let s := s.modQuad q (fun x => { x with status := some w })
    if a = 0 ∨ !s.live q then s else s.send (.hostWrite q a (leBytes 8 (w % 4096 + k * 4096)))

/-! ### Variant choice (R299 to R302) -/

/-- The load report of a quadrant (R299): AQ, AQ0, PB, DO, HR, HB. -/
def State.loadReport (s : State) (q : Nat) (v : Variant) : List Nat :=
  let x := s.quad q
  let ts := (List.range 128).map x.slot
  let dec := (ts.filter (fun t => t.state = 2)).length
  let held := fun (c : Nat) => (ts.filter (fun t => (t.state = 1 || t.state = 2) && !t.inStep && t.hold = c)).length
  [x.adm.length, (x.adm.filter (fun e => e.2.dclass = 0)).length, (ts.map (·.left)).foldl (· + ·) 0,
   if v.decodeRows = 0 then (if dec = 0 then 0 else 0xFFFFFFFF) else dec * 256 / v.decodeRows, held 4, held 1]

/-- Two reports summed. -/
def addReports (a b : List Nat) : List Nat := (List.range 6).map (fun i => a.getD i 0 + b.getD i 0)

/-- Does a policy rule's comparison hold (R301). -/
def ruleHolds (w : U64) (sums : List Nat) : Bool :=
  let m := sums.getD (bitsOf w 2 0) 0
  if bitAt w 3 then decide (m ≥ bitsOf w 35 4) else decide (m ≤ bitsOf w 35 4)

/-- Sustain counts after an evaluation, by rule (R301). -/
def sustained (old : Map Nat) (policy : List U64) (sums : List Nat) : Map Nat :=
  policy.zipIdx.map (fun x => (x.2, if ruleHolds x.1 sums then satAdd 255 (Map.get (α := Nat) old x.2 0) 1 else 0))

/-- The target the master picks (R300): a floor for a slow clock, the host's request, the first matching rule. -/
def QuadSt.pickTarget (x : QuadSt) (running : Nat) : Option Nat :=
  match x.below with
  | some mhz => (List.range x.variants.length).find? (fun i => decide ((x.variants[i]?.map (·.floor)).getD 0 ≤ mhz))
  | none => match x.request with
    | some v => some v
    | none =>
      let pol := match x.plan with | some p => p.policy | none => []
      (pol.zipIdx.find? (fun r => bitAt r.1 (44 + running) &&
        decide (Map.get (α := Nat) x.sustain r.2 0 ≥ max 1 (bitsOf r.1 43 36)))).map (fun r => bitsOf r.1 54 52)

/-- Is epoch k of the running variant marked SWITCH_OK (R22): its slot is counted from the variant's first epoch, which a hold and a new
origin leave as it is (R42, R271). -/
def QuadSt.switchOk (x : QuadSt) (k : Nat) : Bool :=
  match x.variants[x.rule.variant]? with
  | some v => v.switchOk.getD ((k - x.kv) % max 1 v.switchOk.length) false
  | none => false

/-- The switch epoch of a target (R302): the smallest index from `lo` whose predecessor is marked, within one cycle. -/
def QuadSt.switchEpoch (x : QuadSt) (lo : Nat) : Option Nat :=
  (rangeFrom lo 4097).find? (fun ks => x.switchOk (ks - 1))

/-- The master's variant choice at the launch of epoch k (R299 to R302): the reports stamped k − 2 are summed, and a switch
notice goes out on the control flow (DEDUCED, log entry 80). -/
def State.chooseVariant (s : State) (q k l : Nat) : State :=
  let x := s.quad q
  if !x.master then s
  else
    let due := (x.reports.filter (fun r => decide (r.1 + 2 = k))).map (·.2)
    let pol := match x.plan with | some p => p.policy | none => []
    let x := if due.isEmpty then x
      else { x with sustain := sustained x.sustain pol (due.foldl addReports []), reports := x.reports.filter (fun r => decide (k < r.1 + 2)) }
    let target := x.pickTarget x.rule.variant
    -- a request made at the switch count itself is the keeper's again in the next epoch (R50)
    let s := s.setQuad q { x with below := if l = x.announced then x.below else none }
    match target with
    | none => s
    | some v =>
      if v = x.rule.variant ∨ s.bit .QD_VARIANT q 7 ∨ l ≤ x.announced then s
      else match x.variants[v]? with
        | none => s
        | some tv => match x.switchEpoch (k + tv.varLead) with
          | none => s
          | some ks =>
            let count := x.rule.launch x.variants ks
            (s.modQuad q (fun x => { x with announced := count })).send (.message 6 [v, ks, count])

/-! ### The boundary snapshot (R272, R273) -/

/-- A pending switch whose count is reached takes effect (R42, R271): the rule, CURRENT, and the origin of the row groups. -/
def State.takeSwitch (s : State) (q l : Nat) : State :=
  match (s.quad q).notice with
  | none => s
  | some n =>
    if n.count ≠ l then s
    else
      let s := s.modQuad q (fun x => { x with
        rule := { first := n.ks, at' := n.count, variant := n.target }, past := (x.rule, x.kv) :: x.past, notice := none, kv := n.ks })
      let s := ((s.setFld .QD_VARIANT q 2 0 n.target).setFld .QD_VARIANT q 7 4 0).bump .QD_VARIANT q 47 16 1
      (s.setReg .QD_SWITCH_COUNT q 0).governFloor q

/-- The count from which a launch applies what the poll at launch L sees (R274): its application launch is the first at or after it, by the
launch counts then in force. -/
def appliesFrom (l : Nat) : Nat := l + 8192

/-- Does a restart keep this launch from starting steps (R493). -/
def QuadSt.stopped (x : QuadSt) (k : Nat) : Bool :=
  match x.restart with | some (kr, m) => decide (kr ≤ k + m ∧ k < kr) | none => false

/-- The fetches of input frames inside the window of R280, for each bound ring, to apply from `due` on (R274, R520). -/
def State.askFrames (s : State) (q due n : Nat) : State :=
  let t := (s.quad q).slot n
  match t.inRing with
  | none => s
  | some i => match s.ring q i with
    | none => s
    | some r =>
      let top := (t.step + 2) * (s.quad q).params.cadenceIn
      let first := r.devCount + t.gate.length + r.asked.length
      let k := min (top - (t.frame + r.asked.length)) (ahead r.hostCount first)
      let k := if ahead r.hostCount first > r.size then 0 else k
      let s := s.setRing q i { r with asked := r.asked ++ List.replicate k { due := due } }
      s.each (rangeFrom first k) (fun s e => s.send (.hostRead q (r.base + e % 2 ^ 32 % r.size * 64) 64))

/-- A stream error (R279, R527): it uses an unreserved place. -/
def State.streamError (s : State) (q ring slot status frame : Nat) : State :=
  s.offer q { kind := 8, quad := q, status := status, arg0 := ring + slot * 2 ^ 8, arg1 := frame }

/-- Does an input-ring entry hold a frame the plan takes (R270, R279). -/
def frameOk (p : Serving) (ws : List U64) : Bool :=
  let f := wf ws 0 7 0
  let n := wf ws 0 31 16
  match p.inputKind with
  | 1 => decide (1 ≤ f ∧ f ≤ 3) && decide (n = p.frameUs * pcmRate f / 1000000)
  | 2 => f = 4 && decide (n = p.inCodes)
  | _ => false

/-- The payload bytes of an entry. -/
def framePayload (ws : List U64) (payload : List Byte) : List Byte :=
  payload.take ((if wf ws 0 7 0 = 4 then 4 else 2) * wf ws 0 31 16)

/-- An input-ring entry released: the device's count passes it (R518). -/
def State.releaseEntry (s : State) (q i : Nat) : State :=
  match s.ring q i with
  | some r => s.setRing q i { r with devCount := (r.devCount + 1) % 2 ^ 32 }
  | none => s

/-- One entry of slot n's input ring applied (R274, R279, R280): the next frame, present when the gateway has written it and else its to
write, or discarded with a stream error and released at once (DEDUCED, log entry 84). -/
def State.applyFrame (s : State) (q i n : Nat) (e : RingFetch) : State :=
  let ws := e.words.getD []
  let t := (s.quad q).slot n
  let idx := (wordAt ws 1).toNat
  let s := if e.late then s.bump .HUB_STAT q 15 0 1 else s
  if !frameOk (s.quad q).params ws then (s.streamError q i n 0x41 idx).releaseEntry q i
  else if idx ≠ t.frame then (s.streamError q i n 0x40 idx).releaseEntry q i
  else
    let s := s.modSlot q n (fun t =>
      let t := { t with frame := t.frame + 1 }
      let t := if e.written then { t with frames := t.frames ++ [idx] } else { t with gate := t.gate ++ [(idx, framePayload ws e.payload)] }
      if wf ws 0 8 8 = 1 then { t with inClosed := true, endFrame := idx } else t)
    if e.written then s.releaseEntry q i else s

/-- The entries of slot n's input ring whose application launch this is, or has passed, applied in ring order (R274). -/
def State.applyFrames (s : State) (q l n : Nat) : State :=
  match ((s.quad q).slot n).inRing with
  | none => s
  | some i => match s.ring q i with
    | none => s
    | some r =>
      let ready := r.asked.takeWhile (fun e => e.words.isSome && decide (e.due ≤ l))
      (s.setRing q i { r with asked := r.asked.drop ready.length }).each ready (fun s e => s.applyFrame q i n e)

/-- The epoch the next launch of a quadrant starts. -/
def State.launchEpoch (s : State) (q : Nat) : Nat := if (s.quad q).begun then s.epoch q + 1 else (s.quad q).rule.first

/-- Does the next launch take place: a plan runs, no hold count lies at or before it (R466), and the device is not out of step
(R457). -/
def State.launches (s : State) (q : Nat) : Bool :=
  s.runs q && !s.heldAt (s.reg .QD_LAUNCH_NEXT q).toNat && decide (s.tbState ≠ 4)

/-- Step 1 to 4 of the snapshot (R273): releases and scan, outputs, status word, refills. -/
def State.snapScan (s : State) (q k l due : Nat) : State :=
  let s := s.each (List.range 128) (fun s n => (s.freeSeq q n k).takeLost q n)
  let ns := (s.quad q).scanned l
  let s := s.each ns (fun s n => s.scanSlot q n k due)
  let s := s.each (List.range 128) (fun s n => s.endNote q n)
  let s := s.each ns (fun s n => s.postOutputs q l n)
  let s := s.statusWord q k
  let p := (l - (s.quad q).origin) / 2 ^ 20
  s.each (s.accounts q) (fun s a => s.refill q p a)

/-- The poll of the snapshot (R273, R520). -/
def State.snapPoll (s : State) (q due : Nat) (p : HostPoll) : State :=
  let s := s.poll q due p
  if s.live q then s.each (List.range 128) (fun s n => s.askFrames q due n) else s

/-- The remaining steps (R273): input frames (DESIGN CHOICE, log entry 140), commands, expiry, starts, launch changes of loads and
slots (R255), admission, batch table. -/
def State.snapStart (s : State) (q k l due : Nat) (v : Variant) (no : List Nat) : State :=
  let s := (((s.each (List.range 128) (fun s n => s.applyFrames q l n)).applyDue q k l).expire q k)
  let x := s.quad q
  let dec := x.decodeGroup v k
  let pre := x.prefillGroup v k
  let s := if x.stopped k then s else (s.startGroup q 2 l dec).startGroup q 1 l pre
  let s := (((s.goLive q).sweepFailed q).sweepRetired q).admissions q k due no
  s.writeBatch q l (dec ++ pre)

/-- Epoch k launches at L (R25, R45): the index and the next launch count. -/
def State.enterEpoch (s : State) (q k : Nat) : State :=
  let s := s.modQuad q (fun x => { x with begun := true, noticed := [], keyRecs := [] })
  let s := s.setReg .QD_EPOCH_INDEX q (BitVec.ofNat 64 k)
  s.setReg .QD_LAUNCH_NEXT q (BitVec.ofNat 64 (s.nextValues q (k + 1)).1)

/-- The boundary snapshot of the next launch of a quadrant (R272, R273). -/
def State.snapshot (s : State) (q : Nat) (p : HostPoll) (no : List Nat) : State :=
  if !s.launches q then s
  else if (s.quad q).unload.isSome then
    let l := (s.reg .QD_LAUNCH_NEXT q).toNat
    (((s.at' l).unloadNow q).post q l).doorbell q
  else
    let l := (s.reg .QD_LAUNCH_NEXT q).toNat
    let k := s.launchEpoch q
    let s := (s.at' l).takeSwitch q l
    match (s.quad q).variants[(s.quad q).rule.variant]? with
    | none => s
    | some v =>
      let due := appliesFrom l
      let s := (s.snapScan q k l due).dumpScan q k
      let s := s.snapPoll q due p
      let s := s.snapStart q k l due v no
      let s := s.judgeOpen q
      let s := s.send (.message 7 ([q, k] ++ s.loadReport q v))
      let s := s.chooseVariant q k l
      let s := (s.post q l).doorbell q
      s.enterEpoch q k

/-- BOUNDARY_SNAPSHOT (R272, R273). `no` lists the admission entries whose mirror partner refuses (R487), a fact of another
device. -/
def execBoundarySnapshot (q : Fin 4) (poll : HostPoll) (no : List (Fin 1024)) (s : State) : Host.Outcome State Fault Refusal :=
  .next (s.snapshot q poll (no.map Fin.val))

/-! ### The commands as rows of their own -/

/-- A command of quadrant q's ring applied on its own, with its places (R521). -/
def State.asCommand (s : State) (q : Nat) (entry : Entry) (go : State → List U64 → State) : State :=
  s.withPlaces q (entryWords entry) (fun s => go s (entryWords entry))

/-- ADMIT (R287). -/
def execAdmitSequence (q : Fin 4) (entry : Entry) (block : Option (List Byte)) (s : State) : Host.Outcome State Fault Refusal :=
  .next (s.asCommand q entry (fun s ws => s.cmdAdmit q ws block (s.epoch q)))
/-- CANCEL (R289). -/
def execCancel (q : Fin 4) (entry : Entry) (s : State) : Host.Outcome State Fault Refusal :=
  .next (s.asCommand q entry (fun s ws => s.cmdCancel q ws))
/-- END (R278). -/
def execEndSequence (q : Fin 4) (entry : Entry) (s : State) : Host.Outcome State Fault Refusal :=
  .next (s.asCommand q entry (fun s ws => s.cmdEnd q 2 ws))
/-- ABORT (R278). -/
def execAbort (q : Fin 4) (entry : Entry) (s : State) : Host.Outcome State Fault Refusal :=
  .next (s.asCommand q entry (fun s ws => s.cmdEnd q 3 ws))
/-- CUT (R325). -/
def execCut (q : Fin 4) (entry : Entry) (s : State) : Host.Outcome State Fault Refusal :=
  .next (s.asCommand q entry (fun s ws => s.cmdCut q ws (s.epoch q) false))
/-- ACCT_SET (R298). -/
def execAcctSet (q : Fin 4) (entry : Entry) (s : State) : Host.Outcome State Fault Refusal :=
  .next (s.asCommand q entry (fun s ws => s.cmdAcctSet q ws))
/-- ACCT_CREDIT (R298). -/
def execAcctCredit (q : Fin 4) (entry : Entry) (s : State) : Host.Outcome State Fault Refusal :=
  .next (s.asCommand q entry (fun s ws => s.cmdAcctCredit q ws))
/-- VARIANT_REQ (R300). -/
def execVariantReq (q : Fin 4) (entry : Entry) (s : State) : Host.Outcome State Fault Refusal :=
  .next (s.asCommand q entry (fun s ws => s.cmdVariantReq q ws))
/-- CREATE_RING (R523). -/
def execCreateRing (q : Fin 4) (entry : Entry) (s : State) : Host.Outcome State Fault Refusal :=
  .next (s.asCommand q entry (fun s ws => s.cmdCreateRing q ws))
/-- DELETE_RING (R532). -/
def execDeleteRing (q : Fin 4) (entry : Entry) (s : State) : Host.Outcome State Fault Refusal :=
  .next (s.asCommand q entry (fun s ws => s.cmdDeleteRing q ws))
/-- BIND_RINGS (R532). -/
def execBindRings (q : Fin 4) (entry : Entry) (s : State) : Host.Outcome State Fault Refusal :=
  .next (s.asCommand q entry (fun s ws => s.cmdBindRings q ws))

/-! ### Input frames and prompt chunks (R279, R280, R685) -/

/-- The fetch of the oldest input-ring entry asked for completes: it waits for its application launch (R274, R279). -/
def State.inputFrame (s : State) (q i : Nat) (ws : List U64) (payload : List Byte) : State :=
  match s.ring q i with
  | none => s
  | some r =>
    let done := r.asked.takeWhile (fun e => e.words.isSome)
    match r.asked.drop done.length with
    | [] => s
    | e :: rest =>
      s.setRing q i { r with
        asked := done ++ { e with words := some ws, payload := payload, late := decide (e.due ≤ s.launchedAt q) } :: rest }

/-- INPUT_FRAME (R274, R279): a fetched input-ring entry, which the snapshot of its application launch applies or discards (DEDUCED, log
entry 129). -/
def execInputFrame (q : Fin 4) (ring : Fin 256) (entry : Entry) (payload : List Byte) (s : State) : Host.Outcome State Fault Refusal :=
  .next (s.inputFrame q ring (entryWords entry) payload)

/-- Bytes padded with zeros to whole code units (R280, R685). -/
def padUnits (b : List Byte) : List Byte := b ++ List.replicate ((64 - b.length % 64) % 64) 0

/-- Frame f of slot n written into its position of every reading core's input buffer (R280). -/
def State.writeFrame (s : State) (q n f : Nat) (b : List Byte) : State :=
  let p := (s.quad q).params
  let place := f % (2 * p.cadenceIn)
  s.each (p.buffers.filter (fun c => decide (c.inBuf ≠ 0))) (fun s c => s.onCoreReg c.core (fun x =>
    x.hwWrite s.now (c.inBuf + (n * 2 * p.cadenceIn + place) * p.frameRoom) (padUnits b)))

/-- The first entry of a ring the gateway may write before it is applied: fetched, unwritten, holding frame f (R280); its place and its
payload. -/
def nextFetched (p : Serving) (asked : List RingFetch) (f : Nat) : Option (Nat × List Byte) :=
  (asked.zipIdx.find? (fun x => match x.1.words with
    | some ws => !x.1.written && frameOk p ws && decide ((wordAt ws 1).toNat = f)
    | none => false)).map (fun x => (x.2, framePayload (x.1.words.getD []) x.1.payload))

/-- The gateway writes a slot's next frame into its position of every reading core's input buffer, once it lies in the window of steps STEP
and STEP + 1 (R280): the oldest applied frame, whose ring entry it releases (R518), else the next one fetched, which is present from its
application launch on. -/
def State.gatewayFrame (s : State) (q n : Nat) : State :=
  let p := (s.quad q).params
  let t := (s.quad q).slot n
  match t.gate, t.inRing with
  | (f, b) :: rest, some i =>
    if f < (t.step + 2) * p.cadenceIn then
      ((s.writeFrame q n f b).modSlot q n (fun t => { t with
        gate := rest, frames := (t.frames.filter (fun g => decide (t.step * p.cadenceIn ≤ g))) ++ [f] })).releaseEntry q i
    else s
  | [], some i =>
    match s.ring q i with
    | none => s
    | some r =>
      let f := t.frame + (r.asked.filter (·.written)).length
      match nextFetched p r.asked f with
      | none => s
      | some (j, b) =>
        if f < (t.step + 2) * p.cadenceIn then
          (s.writeFrame q n f b).setRing q i { r with asked := r.asked.zipIdx.map (fun x => if x.2 = j then { x.1 with written := true } else x.1) }
        else s
  | _, _ => s

/-- GATEWAY_FRAME_WRITE (R280). -/
def execGatewayFrameWrite (q : Fin 4) (slot : Fin 128) (s : State) : Host.Outcome State Fault Refusal :=
  .next (if s.keeper.block = some (4, q.val) then s else s.gatewayFrame q slot)

/-- A fetched prompt chunk written into the slot's prompt buffer of every reading core (R685): present from its application launch on, or,
when that has passed, from the next snapshot, and then counted late (R274; DEDUCED, log entry 129). -/
def State.promptChunk (s : State) (q n c : Nat) (data : List Byte) : State :=
  let p := (s.quad q).params
  let t := (s.quad q).slot n
  match Map.find (α := Nat) t.chunkDue c with
  | none => s
  | some due =>
    if t.chunks.contains c then s
    else
      let want := 4 * min p.chunk (t.promptLen - c * p.chunk)
      let b := data.take want
      let img := b ++ List.replicate (4 * p.chunk - b.length) 0
      let s := if due ≤ s.launchedAt q then s.bump .HUB_STAT q 15 0 1 else s
      let s := s.each (p.buffers.filter (fun x => decide (x.prompt ≠ 0))) (fun s x => s.onCoreReg x.core (fun y =>
        y.hwWrite s.now (x.prompt + (n * 2 + c % 2) * (4 * p.chunk)) img))
      s.modSlot q n (fun t => { t with chunks := t.chunks ++ [c] })

/-- PROMPT_CHUNK_WRITE (R685). -/
def execPromptChunkWrite (q : Fin 4) (slot : Fin 128) (chunk : Fin 16384) (data : List Byte) (s : State) :
    Host.Outcome State Fault Refusal := .next (s.promptChunk q slot chunk data)

/-! ### Registers of the admission queue (R290, R304) and the load report (R299) -/

/-- ADM_HEAD_READ (R290, R306): the next entry delivered and removed from the order; an empty queue has no side effect. -/
def execAdmHeadRead (q : Fin 4) (s : State) : Host.Outcome State Fault Refusal :=
  .next (match admNext (s.quad q).adm with
    | none => s.send (.readData "ADM_HEAD" (leBytes 8 0))
    | some (i, e) =>
      (s.modQuad q (fun x => { x with adm := Map.set (α := AdmEntry) x.adm i { e with inOrder := false } })).send
        (.readData "ADM_HEAD" (leBytes 8 (i + e.dclass * 2 ^ 10 + 2 ^ 12))))

/-- ADM_RETURN (R290). -/
def execAdmReturn (q : Fin 4) (val : U64) (s : State) : Host.Outcome State Fault Refusal := .next (s.admReturnAll q [bitsOf val 9 0])

/-- A write of ADM_WMARK (R304). -/
def State.writeWmark (s : State) (q : Nat) (val : U64) : State :=
  if bitsOf val 26 16 ≥ bitsOf val 10 0 then s.setBit .ADM_STAT q 12 true
  else s.setReg .ADM_WMARK q (val &&& 0x7FF07FF)

/-- ADM_WMARK_WRITE (R304). -/
def execAdmWmarkWrite (q : Fin 4) (val : U64) (s : State) : Host.Outcome State Fault Refusal := .next (s.writeWmark q val)

/-- LOAD_REPORT (R299): a report stamped k reaches the partition master of quadrant q. -/
def execLoadReport (q : Fin 4) (k : U64) (metrics : List (BitVec 32)) (s : State) : Host.Outcome State Fault Refusal :=
  .next (if (s.quad q).master then
    s.modQuad q (fun x => { x with reports := x.reports ++ [(k.toNat, (List.range 6).map (fun i => (metrics.getD i 0).toNat))] })
  else s)

/-- HOST_FETCH_COMPLETE (R274, R521): the oldest submission entry asked for arrives, with its command block when it has one
(DESIGN CHOICE, log entry 97). -/
def execHostFetchComplete (f : Fin 5) (entry : Entry) (block : Option (List Byte)) (s : State) : Host.Outcome State Fault Refusal :=
  .next (if s.live f then s.fetchDone f (entryWords entry) block else s)

end Sys2Proof.Machine
end

