-- ==== Sys2Proof/Machine/Sampler.lean ====
section
/-! DEFINITION. The sampler and the commit unit (R311 to R332): the generator, the choice of a token, draw requests and
commit groups. -/
namespace Sys2Proof.Machine

/-! ### The generator (R318) -/

/-- A left rotation of a 32-bit word. -/
def rotl (v : BitVec 32) (n : Nat) : BitVec 32 := v.rotateLeft n

/-- One round of the generator, with the key added after odd rounds. -/
def genRound (k0 k1 : BitVec 32) (x : BitVec 32 × BitVec 32 × BitVec 32 × BitVec 32) (r : Nat) :
    BitVec 32 × BitVec 32 × BitVec 32 × BitVec 32 :=
  let (x0, x1, x2, x3) := x
  let x0 := x0 + x1
  let x3 := rotl (x3 ^^^ x0) 16
  let x2 := x2 + x3
  let x1 := rotl (x1 ^^^ x2) 12
  let x0 := x0 + x1
  let x3 := rotl (x3 ^^^ x0) 8
  let x2 := x2 + x3
  let x1 := rotl (x1 ^^^ x2) 7
  if r % 2 = 1 then (x0 + k0, x1 + k1, x2 + BitVec.ofNat 32 ((r + 1) / 2), x3) else (x0, x1, x2, x3)

/-- The 64-bit value U of a seed, step and draw (R318). -/
def generator (seed : U64) (step draw : Nat) : Nat :=
  let k0 := BitVec.ofNat 32 seed.toNat
  let k1 := BitVec.ofNat 32 (seed.toNat / 2 ^ 32)
  let (x0, x1, x2, x3) := (List.range 8).foldl (genRound k0 k1)
    (BitVec.ofNat 32 step + k0, BitVec.ofNat 32 (step / 2 ^ 32) + k1, BitVec.ofNat 32 draw, 0x6B796E72)
  (x1 ^^^ x3).toNat * 2 ^ 32 + (x0 ^^^ x2).toNat

/-! ### The order of operations (R316) -/

/-- Rounding to binary32, nearest with ties to even. -/
def rn32 : RoundCtl := ⟨8, 0, false⟩
/-- A binary32 NaN. -/
def isNan32 (b : Nat) : Bool := b / 2 ^ 23 % 256 = 255 && decide (b % 2 ^ 23 ≠ 0)
/-- A binary32 value other than NaN as an integer that orders as the values do, both zeros equal. -/
def key32 (b : Nat) : Int := if b / 2 ^ 31 % 2 = 1 then -((b % 2 ^ 31 : Nat) : Int) else ((b % 2 ^ 31 : Nat) : Int)
/-- a − b, or a + b, rounded once. -/
def sub32 (a b : Nat) : Nat := (sumVals rn32 (f32Val a) (f32Val b).negate).bits

/-- PRES + c × FREQ subtracted from x with one rounding, the inner value exact. -/
def penalise (x pres freq c : Nat) : Nat :=
  match f32Val pres, f32Val freq with
  | .fin n1 m1 e1, .fin n2 m2 e2 =>
    let (v, e) := dyadicAdd n1 m1 e1 n2 (c * m2) e2
    (sumVals rn32 (f32Val x) (.fin (decide (0 < v)) v.natAbs e)).bits
  | _, _ => x

/-- z(t): a logit with its penalty and temperature (R316); a NaN is taken as −∞. -/
def scoreOf (p : Sampler) (count x : Nat) : Nat :=
  let x := if isNan32 x then 0xFF800000 else x
  let x := if count = 0 then x
    else
      let y := if 0 < key32 x then (divEmit rn32 (f32Val x) (f32Val p.rep)).bits else (mulEmit rn32 (f32Val x) (f32Val p.rep)).bits
      penalise y p.pres p.freq count
  if p.temp % 2 ^ 31 = 0 then x else (divEmit rn32 (f32Val x) (f32Val p.temp)).bits

/-- A token put into the ranking: z descending, then token ascending, cut at `k` places. Tokens come in ascending order. -/
def rankIn (k : Nat) (t z : Nat) : List (Nat × Nat) → List (Nat × Nat)
  | [] => if k = 0 then [] else [(t, z)]
  | (u, w) :: l =>
    if k = 0 then []
    else if key32 w < key32 z then ((t, z) :: (u, w) :: l).take k
    else (u, w) :: rankIn (k - 1) t z l

/-- The candidates: the first TOP_K ranked tokens above −∞ (R316). -/
def candidates (p : Sampler) (zs : List Nat) : List (Nat × Nat) :=
  let k := if p.topK = 0 then 1024 else p.topK
  zs.zipIdx.foldl (fun l x => if x.1 = 0xFF800000 then l else rankIn k x.2 x.1 l) []

/-- A non-negative binary32 value as a multiple of 2^-149. -/
def fixed32 (b : Nat) : Nat :=
  match f32Val b with
  | .fin _ m e => m * 2 ^ (e + 149).toNat
  | _ => 0

/-- e(i) of a candidate as a multiple of 2^-149 (R316). -/
def weightOf (m z : Nat) : Nat :=
  if m = 0x7F800000 then (if z = 0x7F800000 then 2 ^ 149 else 0)
  else
    let a := (mulEmit rn32 (f32Val (sub32 z m)) (f32Val 0x3FB8AA3B)).bits
    fixed32 (unaryFn rn32 0x10 (f32Val a)).bits

/-- The exact running sums C(1), C(2), ... -/
def runningSums (acc : Nat) : List Nat → List Nat
  | [] => []
  | e :: es => (acc + e) :: runningSums (acc + e) es

/-- The choice among candidates with a value U (R316). -/
def chooseToken (p : Sampler) (cand : List (Nat × Nat)) (u : Nat) : Nat :=
  let m := (cand.headD (0, 0)).2
  let es := cand.map (fun c => weightOf m c.2)
  let cs := runningSums 0 es
  let total := cs.getLastD 0
  let jp := (cs.takeWhile (fun c => decide (c * 2 ^ 149 < fixed32 p.topP * total))).length + 1
  let jm := (es.takeWhile (fun e => decide (fixed32 p.minP ≤ e))).length
  let j := min jp jm
  let cj := cs.getD (j - 1) 0
  let i := (cs.takeWhile (fun c => decide (c * 2 ^ 64 ≤ u * cj))).length
  (cand.getD i (0, 0)).1

/-- What a draw yields: the id, whether a NaN was met, whether no candidate was left. -/
structure Drawn where
  id    : Nat
  nan   : Bool
  empty : Bool
  deriving DecidableEq, Repr

/-- The result of a draw (R316): logits as binary32 bits, counts by token. -/
def drawToken (p : Sampler) (counts : Map Nat) (logits : List Nat) (u : Nat) : Drawn :=
  let nan := logits.any isNan32
  let zs := logits.zipIdx.map (fun x => scoreOf p (Map.get (α := Nat) counts x.2 0) x.1)
  let cand := candidates p zs
  match cand with
  | [] => ⟨0, nan, true⟩
  | c :: _ => ⟨if p.temp % 2 ^ 31 = 0 then c.1 else chooseToken p cand u, nan, false⟩

/-! ### Signals (R313, R319) -/

/-- A signal-table entry (R313). -/
structure SigEntry where
  kind   : Nat
  row    : Nat
  index  : Nat
  bf16   : Bool
  lcore  : Nat
  rcore  : Nat
  rev    : Nat
  vlen   : Nat
  logits : Nat
  result : Nat
  deriving DecidableEq, Repr

/-- The fields of a signal-table entry (R313). -/
def sigEntryOf (ws : List U64) : SigEntry :=
  { kind := wf ws 0 1 0, row := wf ws 0 9 2, index := wf ws 0 18 10, bf16 := wf ws 0 19 19 = 1, lcore := wf ws 0 27 20
    rcore := wf ws 0 35 28, rev := wf ws 0 39 36, vlen := wf ws 0 57 40 + 1, logits := wf ws 1 47 0, result := wf ws 2 47 0 }

/-- An entry of the quadrant's signal table. -/
def QuadSt.signal (x : QuadSt) (tag : Nat) : Option SigEntry :=
  match x.plan with
  | some p => (p.signals[tag]?).map sigEntryOf
  | none => none

/-- A SIG 3 signal discarded (R319): SIG_ERR, and a record of kind 0x02, DETAIL 7, SOURCE 6 (DEDUCED, log entry 88). -/
def State.dropSignal (s : State) (q v : Nat) : State :=
  (s.setBit .HUB_COMMIT_STAT q 48 true).superRecord q v { kind := 0x02, source := 6, detail := 7 }

/-- Step writes of a group (R311). -/
def Group.writeCount (g : Group) (p : Serving) : Nat := if g.chunk then p.writesPre else p.writesDec
/-- Draws of a group (R311). -/
def Group.drawCount (g : Group) (p : Serving) : Nat := if g.chunk then 0 else p.draws

/-- A group of a row replaced. -/
def State.setGroup (s : State) (q row : Nat) (g : Group) : State :=
  s.modQuad q (fun x => { x with groups := Map.set (α := Group) x.groups row g })

/-- A step-write signal from virtual core v (R319) (DEDUCED, log entry 93). -/
def State.stepWrite (s : State) (q v : Nat) (e : SigEntry) : State :=
  match Map.find (α := Group) (s.quad q).groups e.row with
  | none => s.dropSignal q v
  | some g =>
    if g.writeCount (s.quad q).params ≤ e.index ∨ g.writes.contains e.index then s.dropSignal q v
    else s.setGroup q e.row { g with writes := g.writes ++ [e.index] }

/-- COMMIT_SIGNAL (R319): a SIG 3 completion of virtual core v whose entry is a step write. -/
def execCommitSignal (v : Fin 256) (tag : BitVec 16) (s : State) : Host.Outcome State Fault Refusal :=
  let q := (v : Nat) / 64
  .next (match (s.quad q).signal tag.toNat with
    | some e => if e.kind = 0 then s.stepWrite q v e else s
    | none => s)

/-- A draw request from virtual core v (R314, R319). -/
def State.drawRequest (s : State) (q v tag : Nat) (e : SigEntry) : State :=
  match Map.find (α := Group) (s.quad q).groups e.row with
  | none => s.dropSignal q v
  | some g =>
    if g.drawCount (s.quad q).params ≤ e.index ∨ g.draws.contains e.index then s.dropSignal q v
    else (s.setGroup q e.row { g with draws := g.draws ++ [e.index] }).modQuad q (fun x => { x with drawQ := x.drawQ ++ [tag] })

/-- DRAW_REQUEST (R314). -/
def execDrawRequest (v : Fin 256) (tag : BitVec 16) (s : State) : Host.Outcome State Fault Refusal :=
  let q := (v : Nat) / 64
  .next (match (s.quad q).signal tag.toNat with
    | some e => if e.kind = 1 then s.drawRequest q v tag.toNat e else s
    | none => s)

/-! ### Draws (R314 to R317) -/

/-- Is the core behind a virtual core id fenced, or not there (R323, R349). -/
def State.vFenced (s : State) (v : Nat) : Bool := match s.phys v with | none => true | some p => s.fenced p

/-- The logits of a row read from its core, as binary32 bits, or none on a memory error (R313, R323). -/
def State.readLogits (s : State) (e : SigEntry) : State × Option (List Nat) :=
  match s.phys e.lcore with
  | none => (s, none)
  | some p =>
    let w := if e.bf16 then 2 else 4
    let (c, b) := (s.core p).hwRead s.now e.logits (e.vlen * w)
    (s.setCore p c, b.map (fun bs => (chunks w bs).map (fun x => if e.bf16 then ofLe x * 65536 else ofLe x)))

/-- The sampler takes the next request in order of arrival (R314): one whose group is gone is dropped, one whose core is fenced
or whose row cannot be read aborts the group (R323). -/
def State.serveDraw (s : State) (q : Nat) : State :=
  let x := s.quad q
  match x.serving, x.drawQ with
  | none, tag :: rest =>
    let s := s.modQuad q (fun x => { x with drawQ := rest })
    match x.signal tag with
    | none => s
    | some e =>
      match Map.find (α := Group) x.groups e.row with
      | none => s
      | some g =>
        if !g.draws.contains e.index then s
        else if s.vFenced e.lcore || s.vFenced e.rcore then s.abortGroup q e.row
        else match s.readLogits e with
          | (s, none) => s.abortGroup q e.row
          | (s, some ls) =>
            let t := (s.quad q).slot g.slot
            let counts := if (s.quad q).params.outKind = 1 then [] else t.counts
            let r := drawToken t.sampler counts ls (generator t.seed t.step e.index)
            let s := if r.nan then s.setBit .SMP_STAT q 32 true else s
            let s := if r.empty then s.setBit .SMP_STAT q 33 true else s
            s.modQuad q (fun x => { x with serving := some (tag, some r.id) })
  | _, _ => s

/-- SAMPLER_DRAW (R314, R316). -/
def execSamplerDraw (q : Fin 4) (s : State) : Host.Outcome State Fault Refusal := .next (s.serveDraw q)

/-- The draw in service completes (R315): the id at RESULT, REV raised on RCORE, the draw a member of its group; a write that
meets a memory error aborts the group (R323). -/
def State.finishDraw (s : State) (q : Nat) : State :=
  match (s.quad q).serving with
  | none => s
  | some (tag, id) =>
    let s := s.modQuad q (fun x => { x with serving := none })
    match (s.quad q).signal tag, id with
    | some e, some id =>
      match Map.find (α := Group) (s.quad q).groups e.row, s.phys e.rcore with
      | some g, some p =>
        if !g.draws.contains e.index then s
        else if s.vFenced e.lcore || s.vFenced e.rcore then s.abortGroup q e.row
        else
          let r := (⟨s.core p, s.now, none, [], []⟩ : Run).poke e.result (leBytes 4 id)
          let s := s.setCore p r.c
          if r.fault.isSome then s.abortGroup q e.row
          else
            let s := s.modCore p (fun c => { c with seq := c.seq.setEvc e.rev (c.seq.evc e.rev + 1) })
            (s.setGroup q e.row { g with results := Map.set (α := Nat) g.results e.index id }).bump .SMP_STAT q 31 0 1
      | _, _ => s
    | _, _ => s

/-- DRAW_COMPLETE (R315). -/
def execDrawComplete (q : Fin 4) (s : State) : Host.Outcome State Fault Refusal := .next (s.finishDraw q)

/-! ### Commit (R321, R322) -/

/-- A token counted and logged (R322); the flag tells that it went uncounted. -/
def SlotSt.countToken (t : SlotSt) (step tok : Nat) : SlotSt × Bool :=
  let n := Map.get (α := Nat) t.counts tok 0
  if n = 0 ∧ t.counts.length ≥ 4096 then ({ t with full := true }, true)
  else
    let log := t.log ++ [(tok, step)]
    let (log, evict) := if log.length > 4096 then (log.drop 1, (log.headD (0, 0)).2 + 1) else (log, t.evict)
    ({ t with counts := Map.set (α := Nat) t.counts tok (n + 1), log := log, evict := evict }, false)

/-- What a commit's entries come to (R321): entries staged, tokens counted, the stop mark, uncounted tokens. -/
structure Tally where
  slot    : SlotSt
  outputs : List (List Nat) := []
  tokens  : List Nat := []
  stop    : Bool := false
  missed  : Bool := false
  deriving DecidableEq, Repr

/-- One output entry of a step, its codes in order (R321). -/
def Tally.entry (y : Tally) (p : Serving) (step : Nat) (codes : List Nat) : Tally :=
  let c := codes.headD 0
  if y.stop then y
  else if p.stopIds.contains c ∨ (natBits y.slot.sampler.stop 31 31 = 1 ∧ natBits y.slot.sampler.stop 17 0 = c) then { y with stop := true }
  else if p.skipId = some c then y
  else
    let y := { y with outputs := y.outputs ++ [codes] }
    if p.outKind = 1 then y
    else
      let (t, miss) := y.slot.countToken step c
      if miss then { y with slot := t, missed := true } else { y with slot := t, tokens := y.tokens ++ [c] }

/-- Are all members of a group received (R319). -/
def Group.complete (g : Group) (p : Serving) : Bool :=
  decide (g.writes.length = g.writeCount p) && decide (g.results.length = g.drawCount p)

/-- A complete group applied at drip t (R321): its entries staged and counted, POS and STEP or PREFILL_LEFT advanced, the delta
sent to the mirror partner. -/
def State.applyGroup (s : State) (q row t : Nat) (g : Group) : State :=
  let p := (s.quad q).params
  let sl := (s.quad q).slot g.slot
  let codes := (List.range (g.drawCount p)).map (fun d => Map.get (α := Nat) g.results d 0)
  let y := (chunks p.codes codes).foldl (fun (y : Tally) c => y.entry p sl.step c) { slot := sl }
  let a : Applied := { at' := t, step := sl.step, outputs := y.outputs, emitted := y.outputs.length, stop := y.stop, chunk := g.chunk }
  let sl' := { y.slot with pos := y.slot.pos + g.npos, applied := some a }
  let sl' := if g.chunk then { sl' with left := sl'.left - g.npos } else { sl' with step := sl'.step + 1 }
  let s := s.modQuad q (fun x => { x.setSlot g.slot sl' with groups := Map.del (α := Group) x.groups row })
  let s := s.bump .HUB_COMMIT_STAT q 31 0 1
  let s := if y.missed then s.setBit .SMP_STAT q 34 true else s
  s.sendDelta q g.slot (if g.chunk then 1 else 0) (s.epoch q) y.tokens

/-- COMMIT_APPLY (R321). -/
def execCommitApply (q : Fin 4) (row : Fin 256) (t : U64) (s : State) : Host.Outcome State Fault Refusal :=
  let s := s.at' t.toNat
  .next (match Map.find (α := Group) (s.quad q).groups row with
    | some g => if g.complete (s.quad q).params then s.applyGroup q row t.toNat g else s
    | none => s)

end Sys2Proof.Machine
end

