-- ==== Sys2Proof/Machine/RecoveryOps.lean ====
section
/-! DEFINITION. Recovery's shared operations (R482 to R503): the spare map taking effect, banks armed, mirror entries, restored slots and
rehearsals. -/
namespace Sys2Proof.Machine

/-! ### The new map taking effect (R491, R493, R659) -/

/-- One code unit copied from another core. -/
def CoreSt.takeUnit (c old : CoreSt) (u : Nat) : CoreSt :=
  { c with sram := c.sram.writeN (u * 64) (old.unitBytes u) }.setUnit u (old.unit u)

/-- The flow-coded plan regions of a core, types 2, 3 and 5, copied from its position's old core (R491). -/
def CoreSt.takeFlow (c old : CoreSt) : CoreSt :=
  (List.range 16).foldl (fun (c : CoreSt) i =>
    let ty := c.regType i
    if ty = 2 ∨ ty = 3 ∨ ty = 5 then (rangeFrom (c.regBase i / 64) (c.regLen i / 64)).foldl (fun c u => c.takeUnit old u) c else c) c

/-- Does a position hold sequence state: a region of type 2. -/
def Plan.holdsState (p : Plan) (v : Nat) : Bool :=
  ((Map.get (α := List U64) p.regions v []).take 16).any (fun w => bitsOf w 30 28 = 2)

/-- A quadrant's recorded spare map in effect, its moved positions written into their new cores (R491, R493): code, tables and settings;
flow regions from the old core, or the mirrored ranges copied for a lost one; crystal pieces from their backing copies. Their
routers stay fenced until L(kr). Sequences whose state lay in a lost position and have no mirror are lost (R497) (DEDUCED, log entry 68). -/
def State.applyRemap (s : State) (q : Nat) : State :=
  let l := (s.quad q).moved
  match (s.quad q).plan with
  | none => s
  | some p =>
    let olds := l.map (fun m => (m, s.core m.old))
    let s := s.each (List.range 8) (fun s r => if s.outMask q r = s.rowOut q r then s else s.mapRow q r (s.rowOut q r))
    let s := ((s.each l (fun s m => s.fence m.new true)).emptyNew l).movePositions p l
    let s := s.each olds (fun s (x : Moved × CoreSt) =>
      if x.1.lost then s.each x.1.fill (fun s f => s.modCore x.1.new (fun c => c.hwWrite s.now f.1 f.2))
      else s.modCore x.1.new (fun c => c.takeFlow x.2))
    let s := s.each l (fun s m => s.each ((s.quad q).shards.filter (fun r => r.live && mfCrystal r.words)) (fun s r =>
      s.each (r.pieces.zipIdx.filter (fun x => x.1.1 = m.v)) (fun s x => (s.recrystallise q r x.2 x.1 true).1)))
    let s := if l.any (fun m => m.lost && p.holdsState m.v) then
        s.each ((List.range 128).filter (fun n => let k := s.mirrorState q n; decide (k = 0 ∨ k = 3))) (fun s n => s.loseSlot q n)
      else s
    s.modQuad q (fun x => { x with moved := [] })

/-- Prepared banks of a quadrant's mesh and ports armed for a launch count (R352, R397, R493). -/
def State.armPrepared (s : State) (q l : Nat) : State :=
  let s := if (s.quad q).prepared then s.armMesh q (BitVec.ofNat 64 l) else s
  s.each ((List.range 12).filter (fun p => portQuad p = q && (s.port p).prepared)) (fun s p => s.armLink p (BitVec.ofNat 64 l))

/-- Every core of a quadrant stopped and flushed, its open groups aborted (R493, R494). -/
def State.stopQuad (s : State) (q : Nat) : State :=
  (s.each (physCores q) (fun s i => s.modCore i (fun c => c.stop.flush))).abortForRecovery q

/-- The cores of a quadrant that hold a program started (R83, R493, R648) (DEDUCED, log entry 67). -/
def State.startQuad (s : State) (q : Nat) : State :=
  let code := match (s.quad q).plan with | some p => p.code | none => []
  s.each (s.virtCores q) (fun s v =>
    if (Map.get (α := List (BitVec 32)) code v []).isEmpty then s else s.onCoreReg v CoreSt.start)

/-! ### Mirror entries (R484, R485) -/

/-- A delta record's fields (R484). -/
structure Delta where
  slot  : Nat
  kind  : Nat
  quad  : Nat
  id    : Nat
  step  : Nat
  pos   : Nat
  left  : Nat
  epoch : Nat
  frame : Nat
  d0    : Nat
  dseq  : Nat
  tokens : List Nat
  block : List Byte
  deriving DecidableEq, Repr

/-- A record read from its bytes. -/
def deltaOf (b : List Byte) : Delta :=
  let w := fun (i : Nat) => word64 b i
  let n := natBits (w 2) 52 48
  { slot := natBits (w 0) 6 0, kind := natBits (w 0) 10 8, quad := natBits (w 0) 17 16, id := natBits (w 0) 51 32, step := w 1
    pos := natBits (w 2) 23 0, left := natBits (w 2) 47 24, epoch := w 3, frame := w 4, d0 := w 5 % 2 ^ 32, dseq := w 6 % 2 ^ 32
    tokens := (List.range n).map (fun i => w (8 + i) % 2 ^ 18), block := (b.drop 64).take 64 }

/-- The acknowledgement of a record (R484, R485): KIND 7 with its SLOT and DSEQ, for the primary it came from; its other words are 0. -/
def Delta.ackWords (d : Delta) : List Nat := [d.slot + 7 * 2 ^ 8 + d.quad * 2 ^ 16 + d.id * 2 ^ 32, 0, 0, 0, 0, 0, d.dseq, 0]

/-- The mirror entry after a record (R485): its fields, and its tables as R322 or a cut (R326) leave them. -/
def MirrorEntry.take (e : MirrorEntry) (d : Delta) : MirrorEntry :=
  let t : SlotSt := { counts := e.counts, log := e.log, evict := e.evict, full := e.full }
  let t := if d.kind = 2 then
      { t with counts := (t.log.filter (fun r => decide (d.step ≤ r.2))).foldl (fun c r => uncount c r.1) t.counts
               log := t.log.filter (fun r => decide (r.2 < d.step)) }
    else d.tokens.foldl (fun (t : SlotSt) k => (t.countToken (d.step - 1) k).1) t
  { e with dseq := d.dseq, step := d.step, pos := d.pos, left := d.left, epoch := d.epoch, frame := d.frame, d0 := d.d0
           counts := t.counts, log := t.log, evict := t.evict, full := t.full }

/-- QD_MIRROR.HELD counts the entries. -/
def State.noteHeld (s : State) (q : Nat) : State := s.setFld .QD_MIRROR q 39 32 (s.quad q).mirrors.length

/-- The adapter or prefix slot of a quadrant that holds a version named by an admission block. -/
def State.ownVersion (s : State) (q : Nat) (pfx : Bool) (id version : Nat) : Option Nat :=
  if id = 0 then none else (s.slotsOf q pfx id).find? (fun k => s.slotVersion pfx k = version)

/-- The LIVE adapter or prefix slot of a quadrant that holds a version a start record names (R257). -/
def State.liveVersion (s : State) (q : Nat) (pfx : Bool) (id version : Nat) : Option Nat :=
  (s.ownVersion q pfx id version).filter (fun k => s.slotState pfx k = 2)

/-- A mirror entry's references to the adapter and prefix it holds taken or given back (R257). -/
def State.mirrorRefs (s : State) (e : MirrorEntry) (up : Bool) : State := (s.addRef false e.adapter up).addRef true e.pfx up

/-- A delta record at the partner quadrant q (R485): applied in order and acknowledged, else discarded with a gap report. -/
def State.mirrorDelta (s : State) (q : Nat) (b : List Byte) : State :=
  let d := deltaOf b
  let old := Map.find (α := MirrorEntry) (s.quad q).mirrors d.slot
  let due := match old with | some e => (e.dseq + 1) % 2 ^ 32 | none => 0
  let ack := fun (s : State) => (s.noteHeld q).send (.message 16 d.ackWords)
  if d.kind = 5 ∨ d.kind = 6 ∨ d.kind = 7 then s
  else if d.dseq ≠ due ∨ (d.kind = 3) ≠ old.isNone then s.send (.message 17 [d.slot, d.id, d.quad])
  else if d.kind = 4 then
    let s := match old with | some e => s.mirrorRefs e false | none => s
    ack (s.modQuad q (fun x => { x with mirrors := Map.del (α := MirrorEntry) x.mirrors d.slot }))
  else
    let e := match old with | some e => e | none => ({ dseq := 0, block := d.block } : MirrorEntry)
    let e := if d.kind = 3 then
        { e.take { d with tokens := [] } with
          block := d.block
          adapter := s.liveVersion q false (ofLe ((d.block.drop 16).take 4)) (ofLe ((d.block.drop 20).take 2))
          pfx := s.liveVersion q true (ofLe ((d.block.drop 24).take 4)) (ofLe ((d.block.drop 28).take 2)) }
      else e.take d
    let s := if d.kind = 3 then s.mirrorRefs e true else s
    ack (s.modQuad q (fun x => { x with mirrors := Map.set (α := MirrorEntry) x.mirrors d.slot e }))

/-- An acknowledgement at the primary (R486) (DEDUCED, log entry 73). -/
def State.mirrorAck (s : State) (q n dseq : Nat) : State :=
  let i := q * 128 + n
  let s := s.setFld .HUB_SEQ_MIRROR i 63 40 dseq
  if s.fld .HUB_SEQ_MIRROR i 39 16 = dseq % 2 ^ 24 ∧ s.mirrorState q n = 2 then
    s.setFld .HUB_SEQ_MIRROR i 1 0 (if ((s.quad q).slot n).state = 0 then 0 else 1)
  else s

/-! ### Restored slots (R496) -/

/-- A slot as its mirror entry gives it: held until its rings are bound (DEDUCED, log entry 72). -/
def State.slotOfCopy (s : State) (q : Nat) (old : SlotSt) (c : MirrorCopy) : SlotSt :=
  let b := c.block
  let a := s.ownVersion q false (blk' b 16 4) (blk' b 20 2)
  let p := s.ownVersion q true (blk' b 24 4) (blk' b 28 2)
  { state := if c.left = 0 then 2 else 1, tag := blk' b 8 4, account := blk' b 12 2 % 8192, dclass := blk' b 14 1 % 4, adapter := a, pfx := p
    pfxLen := s.prefixLen p, seed := BitVec.ofNat 64 (blk' b 0 8), pos := c.pos, left := c.left, step := c.step, frame := c.frame
    d0 := c.d0, counts := c.counts.foldl (fun m x => Map.set (α := Nat) m x.1 x.2) [], log := c.log, evict := c.evict, full := c.full
    chunkNo := 0, promptLen := c.left, order := s.epoch q, restored := true, dseq := old.dseq
    sampler := { temp := blk' b 32 4, topP := blk' b 36 4, minP := blk' b 40 4, rep := blk' b 44 4, pres := blk' b 48 4, freq := blk' b 52 4,
                 topK := blk' b 56 2, stop := blk' b 60 4 }
    partner := if s.bit .QD_MIRROR q 22 then some (s.fld .QD_MIRROR q 19 0, s.fld .QD_MIRROR q 21 20) else none }
where
  /-- A field of the block. -/
  blk' (b : List Byte) (at' n : Nat) : Nat := ofLe ((b.drop at').take n)

/-- A slot restored from its copy, with its completion; an incomplete copy loses it (R496, R497). -/
def State.restoreSlot (s : State) (q : Nat) (c : MirrorCopy) (rehearse : Bool) : State :=
  let n : Nat := c.slot
  let t := s.slotOfCopy q ((s.quad q).slot n) c
  let s := (s.addRef false t.adapter true).addRef true t.pfx true
  let s := s.modSlot q n (fun _ => t)
  if c.whole then s.slotNote q 4 n t.tag t.posWord t.frame rehearse else s.loseSlot q n

/-! ### Rehearsal (R500 to R502) -/

/-- The entry of the schedule due next: of the entries scheduled and neither done nor skipped, the one with the lowest epoch index. -/
def State.nextEntry (s : State) : Nat :=
  let es := (List.range 64).filter (fun i => s.bit .KPR_REH_ENTRY i 3 && !s.bit .KPR_REH_ENTRY i 4 && !s.bit .KPR_REH_ENTRY i 5)
  match (es.map (fun i => (s.reg .KPR_REH_AT i).toNat)).min? with
  | some m => (es.find? (fun i => (s.reg .KPR_REH_AT i).toNat = m)).getD 0
  | none => 0

/-- TARGET of an entry. -/
def State.rehTarget (s : State) (i : Nat) : Nat := s.fld .KPR_REH_ENTRY i 14 6
/-- ARG of an entry. -/
def State.rehArg (s : State) (i : Nat) : Nat := s.fld .KPR_REH_ENTRY i 63 16

/-- The quadrant of an entry's target (R501, R510): a port's, a core's, or the quadrant itself. -/
def State.rehQuad (s : State) (i : Nat) : Nat :=
  match s.fld .KPR_REH_ENTRY i 2 0 with
  | 0 | 1 => portQuad (s.rehTarget i % 12)
  | 5 => s.rehTarget i % 4
  | _ => s.rehTarget i % 288 / 72

/-- Is an entry due (R500): the schedule runs, it is neither done nor skipped, and its quadrant stands at its epoch index. -/
def State.rehDue (s : State) (i : Nat) : Bool :=
  let q := s.rehQuad i
  s.bit .KPR_REH_CTRL 0 0 && s.bit .KPR_REH_ENTRY i 3 && decide (s.fld .KPR_REH_ENTRY i 2 0 < 6) &&
    !s.bit .KPR_REH_ENTRY i 4 && !s.bit .KPR_REH_ENTRY i 5 && s.runs q && decide (s.reg .KPR_REH_AT i = s.reg .QD_EPOCH_INDEX q)

/-- Entry i injected at its launch (R500), entries of one index in ascending order: nothing when it is not due or a lower one still is; skipped
when a recovery is pending, a hold is in force or `skip` holds; else the fault, DONE and the counts. -/
def State.rehearsal (s : State) (i kind : Nat) (skip : Bool) (act : State → State) : State :=
  if !s.rehDue i || decide (s.fld .KPR_REH_ENTRY i 2 0 ≠ kind) || (List.range i).any (fun j => s.rehDue j && decide (s.reg .KPR_REH_AT j = s.reg .KPR_REH_AT i)) then s
  else
    let s := if s.bit .QD_RECOVERY (s.rehQuad i) 0 ∨ s.bit .TB_SNAP_STAT 0 7 ∨ skip then
        (s.setBit .KPR_REH_ENTRY i 5 true).bump .KPR_REH_CTRL 0 47 32 1
      else ((act s).setBit .KPR_REH_ENTRY i 4 true).bump .KPR_REH_CTRL 0 31 16 1
    s.setFld .KPR_REH_CTRL 0 15 8 s.nextEntry

/-! ### Restart points (R492) -/

/-- Is epoch k marked SWITCH_OK in the variant that runs it, a pending switch counted (R492). -/
def QuadSt.okAt (x : QuadSt) (k : Nat) : Bool :=
  match x.notice with
  | some n => if n.ks ≤ k then { x with rule := { first := n.ks, at' := n.count, variant := n.target }, kv := n.ks }.switchOk k
    else x.switchOk k
  | none => x.switchOk k

/-- The epoch length of the variant that runs epoch k. -/
def QuadSt.lenAt (x : QuadSt) (k : Nat) : Nat :=
  let v := match x.notice with | some n => if n.ks ≤ k then n.target else x.rule.variant | none => x.rule.variant
  ((x.variants[v]?).map (·.epochLen)).getD 1

/-- The stop epoch kr − m and the stop count m (R492), j the running epoch. -/
def QuadSt.restartPoint (x : QuadSt) (j : Nat) : Option (Nat × Nat) :=
  let lo := match x.notice with | some n => max (j + 1) n.ks | none => j + 1
  ((rangeFrom lo 8192).find? (fun k => x.okAt k)).map (fun k => (k, max 1 (ceilDiv 16448 (x.lenAt k))))

end Sys2Proof.Machine
end

