-- ==== Sys2Proof/Machine/Recovery.lean ====
section
/-! DEFINITION. The recovery commands (R475 to R505): cordons and releases, the partition master's reports, restart points, standby
restores, mirror records, weight changes and rehearsals. -/
namespace Sys2Proof.Machine

/-! ### Cordons and releases (R475, R505, R508) -/

/-- A command of KPR_CORDON_CMD: ignored with REJ while a cordon or release is in progress (R508). -/
def State.cordonCmd (s : State) (go : State → State) : State :=
  if s.bit .KPR_CORDON_STAT 0 17 then s.setBit .KPR_CORDON_STAT 0 18 true else go s

/-- CORDON_CORE (R475): by command, reason 6. -/
def execCordonCore (p : Fin 288) (s : State) : Host.Outcome State Fault Refusal :=
  .next (s.cordonCmd (fun s => s.cordonCore p 6 false))

/-- CORDON_PORT (R475, R477): the keeper's cordon of a port in DOWN is for its link declared down; others are by command (DEDUCED, log
entry 143). -/
def execCordonPort (port : Fin 12) (t : U64) (s : State) : Host.Outcome State Fault Refusal :=
  .next ((s.at' t.toNat).cordonCmd (fun s => s.cordonPort port (if s.linkState port = 7 then 7 else 6) t.toNat false))

/-- CORDON_QUADRANT (R475). -/
def execCordonQuadrant (q : Fin 4) (s : State) : Host.Outcome State Fault Refusal :=
  .next (s.cordonCmd (fun s => s.cordonQuadrant q 6 false))

/-- FAILED of a physical core. -/
def State.failed (s : State) (p : Nat) : Bool := (s.rowFailed (p / 72) (p % 72 / 9)).testBit (p % 9)

/-- A core's release begun: its self-test runs (R505). -/
def State.releaseCore (s : State) (p : Nat) : State :=
  if !s.failed p then s.setBit .KPR_CORDON_STAT 0 18 true
  else (s.setBit .KPR_CORDON_STAT 0 17 true).modKeeper (fun k => { k with testing := [p] })

/-- RELEASE_CORE (R505). -/
def execReleaseCore (p : Fin 288) (s : State) : Host.Outcome State Fault Refusal :=
  .next (s.cordonCmd (fun s => s.releaseCore p))

/-- The self-test of a core under release ends (R505): a pass clears FAILED and is recorded with reason 11
(DEDUCED, log entry 71). -/
def State.selfTested (s : State) (p : Nat) (pass : Bool) : State :=
  if !s.keeper.testing.contains p then s
  else
    let s := (s.setBit .KPR_CORDON_STAT 0 17 false).modKeeper (fun k => { k with testing := [] })
    if pass then
      ((s.setFld .KPR_SPARE_ROW (p / 9) 17 9 (maskSet (s.rowFailed (p / 72) (p % 72 / 9)) (p % 9) false)).saveSpare (p / 9)).noteCordon (some (p / 72)) 0 p 11 true false
    else s

/-- CORE_SELF_TEST_DONE (R505). -/
def execCoreSelfTestDone (p : Fin 288) (pass : Bool) (s : State) : Host.Outcome State Fault Refusal := .next (s.selfTested p pass)

/-- A port's release (R505): it is enabled again. -/
def State.releasePort (s : State) (port : Nat) : State :=
  if !(s.port port).cordoned then s.setBit .KPR_CORDON_STAT 0 18 true
  else ((s.portOn port).modPort port (fun x => { x with cordoned := false })).noteCordon none 1 port 11 true false

/-- RELEASE_PORT (R505). -/
def execReleasePort (port : Fin 12) (s : State) : Host.Outcome State Fault Refusal :=
  .next (s.cordonCmd (fun s => s.releasePort port))

/-- A quadrant's release (R505), accepted while no partition uses it. -/
def State.releaseQuadrant (s : State) (q : Nat) : State :=
  if !s.bit .KPR_QUAD_STAT q 1 ∨ (s.quad q).plan.isSome then s.setBit .KPR_CORDON_STAT 0 18 true
  else (((s.setBit .KPR_QUAD_STAT q 1 false).freeFrozen q).modQuad q (fun x => { x with idled := false })).noteCordon (some q) 2 q 11 true false

/-- RELEASE_QUADRANT (R505). -/
def execReleaseQuadrant (q : Fin 4) (s : State) : Host.Outcome State Fault Refusal :=
  .next (s.cordonCmd (fun s => s.releaseQuadrant q))

/-! ### The partition master's reports (R490 to R492) -/

/-- The restart point chosen once every repair is ready: the notice on the control flow and QD_RESTART_AT (R492). -/
def State.chooseRestart (s : State) (q : Nat) : State :=
  let x := s.quad q
  if x.repairs.isEmpty ∨ x.repairs.any (fun r => !r.2) then s
  else match x.restartPoint (s.epoch q) with
    | none => s
    | some (k, m) =>
      ((s.modQuad q (fun x => { x with repairs := [] })).setReg .QD_RESTART_AT q (BitVec.ofNat 64 (s.nextValues q (k + m)).1)).send
        (.message 15 [q, k + m, m])

/-- A report on the report flow at the partition master's quadrant q: 0 a recovery event, 1 a plan fault, 2 repair ready (R119, R490,
R491). `src` is a global ID and, above it, a quadrant. -/
def State.eventReport (s : State) (q src event : Nat) : State :=
  if !((s.quad q).master && s.runs q) then s
  else match event with
    | 0 => (s.modQuad q (fun x => { x with repairs := (x.repairs.filter (fun r => r.1 ≠ src)) ++ [(src, false)] })).send (.message 13 [q])
    | 1 => s.send (.message 14 [q])
    | _ => (s.modQuad q (fun x => { x with repairs := x.repairs.map (fun r => if r.1 = src then (src, true) else r) })).chooseRestart q

/-- RECOVERY_EVENT_REPORT (R490). -/
def execRecoveryEventReport (q : Fin 4) (src : BitVec 22) (event : Fin 3) (s : State) : Host.Outcome State Fault Refusal :=
  .next (s.eventReport q src.toNat event)

/-- A recovery-pending notice on the control flow (R490). -/
def State.pendingNotice (s : State) (q : Nat) : State :=
  if !s.runs q ∨ s.bit .QD_RECOVERY q 0 then s else ((s.setBit .QD_RECOVERY q 0 true).modQuad q (fun x => { x with rehearsed := false })).notice (some q) 0x04 0 0

/-- RECOVERY_PENDING_NOTICE (R490). -/
def execRecoveryPendingNotice (q : Fin 4) (s : State) : Host.Outcome State Fault Refusal := .next (s.pendingNotice q)

/-! ### Restart points (R491 to R493) -/

/-- The copy of a moved position's flow regions done (R491): `fill` is what its mirrored ranges hold at the partner; when the partner failed
before the copy was whole, its mirrored sequences are lost (R497). -/
def State.flowCopied (s : State) (q v : Nat) (fill : List (Nat × List Byte)) (whole : Bool) : State :=
  if !(s.quad q).moved.any (fun m => m.v = v && m.flow) then s
  else
    let s := s.modQuad q (fun x => { x with moved := x.moved.map (fun m => if m.v = v then { m with flow := false, fill := fill } else m) })
    let s := if whole then s
      else s.each ((List.range 128).filter (fun n => decide (s.mirrorState q n ≠ 0))) (fun s n => s.loseSlot q n)
    s.repairReady q

/-- FLOW_COPY_DONE (R491). -/
def execFlowCopyDone (v : Fin 256) (fill : List RangeCopy) (whole : Bool) (s : State) : Host.Outcome State Fault Refusal :=
  .next (s.flowCopied (v / 64) v (fill.map (fun f => (f.addr.toNat, f.data))) whole)

/-- A restart notice (R492): held when the stop epoch has not been launched, else the device lacks it and raises the hold. -/
def State.restartNotice (s : State) (q kr m : Nat) : State :=
  if !s.runs q then s
  else if kr < s.launchEpoch q + m then s.raiseHold
  else
    let l := (s.nextValues q kr).1
    let s := (s.modQuad q (fun x => { x with restart := some (kr, m) })).setBit .QD_RECOVERY q 1 true
    (s.setReg .QD_RESTART_AT q (BitVec.ofNat 64 l)).notice (some q) 0x04 1 l (s.quad q).rehearsed

/-- RESTART_NOTICE (R492). -/
def execRestartNotice (q : Fin 4) (kr : U64) (m : BitVec 16) (s : State) : Host.Outcome State Fault Refusal :=
  .next (s.restartNotice q kr.toNat m.toNat)

/-- The stop at L(kr − m), after that launch's snapshot (R493). -/
def State.restartStop (s : State) (q : Nat) : State :=
  match (s.quad q).restart with
  | none => s
  | some (kr, m) =>
    if !s.runs q ∨ !s.bit .QD_RECOVERY q 1 ∨ s.epoch q + m ≠ kr then s
    else
      let s := ((s.stopQuad q).applyRemap q).armPrepared q (s.reg .QD_RESTART_AT q).toNat
      s.startQuad q

/-- RESTART_STOP (R493). -/
def execRestartStop (q : Fin 4) (s : State) : Host.Outcome State Fault Refusal := .next (s.restartStop q)

/-- The launch of kr (R493): banks swap, moved positions are no longer fenced, the recovery ends unless new work has come. -/
def State.restartLaunch (s : State) (q t : Nat) : State :=
  let l := (s.reg .QD_RESTART_AT q).toNat
  match (s.quad q).restart with
  | none => s
  | some _ =>
    if !s.bit .QD_RECOVERY q 1 ∨ t < l then s
    else
      let s := (s.at' t).swapMesh q t
      let s := s.each ((List.range 12).filter (fun p => portQuad p = q)) (fun s p => s.swapLink p t)
      let s := s.each (List.range 8) (fun s r => s.unfenceRow q r)
      let more : Bool := !(s.quad q).moved.isEmpty || !(s.quad q).recrys.isEmpty
      let s := (s.setBit .QD_RECOVERY q 0 more).setBit .QD_RECOVERY q 1 false
      let s := (s.setReg .QD_RESTART_AT q 0).modQuad q (fun x => { x with restart := none })
      (s.governFloor q).notice (some q) 0x04 3 l (s.quad q).rehearsed

/-- RESTART_LAUNCH (R493). -/
def execRestartLaunch (q : Fin 4) (t : U64) (s : State) : Host.Outcome State Fault Refusal := .next (s.restartLaunch q t.toNat)

/-! ### Hold and replace (R494 to R497) -/

/-- The failed role taken by a standby quadrant (R494): its image's sections, this device standing at its block position; it joins the
partition's hold and waits for the new origin, its next epoch k under variant v, which runs since the switch epoch kv (R271; DEDUCED,
log entry 69). -/
def State.takeFailed (s : State) (q role v k kv : Nat) : State :=
  match (s.quad q).plan with
  | none => s
  | some old =>
    let pos := ((old.roles[role]?).map (·.pos)).getD 0
    let p := { planOf old.image role q (setNth old.placement pos s.globalId) with standby := false, loadFn := old.loadFn, reportAt := old.reportAt }
    match s.relocate q p.reloc 0 p with
    | .inr _ => s
    | .inl p => match p.meshTable (fun r => s.rowOut q r) with
      | none => s
      | some t =>
        let s := ((s.setBit .KPR_QUAD_STAT q 2 false).takeRole q p t)
        let s := (s.setReg .QD_VARIANT q (BitVec.ofNat 64 (v % 8 + 8 + 256))).setReg .QD_EPOCH_INDEX q (BitVec.ofNat 64 (k - 1))
        s.modQuad q (fun x => { x with rule := { first := k, at' := 0, variant := v }, kv := kv, begun := false })

/-- A standby's restore and mirror fill complete (R494 to R497): ranges and mirror entries copied from the partner, a completion for each
restored slot. On a quadrant whose mirror partner was the failed role, its mirrors begin anew at the partner's substitute. -/
def State.restoreDone (s : State) (q role v k kv : Nat) (slots : List MirrorCopy) (fill : List RangeCopy) (device quad : Nat) : State :=
  if s.bit .KPR_QUAD_STAT q 2 then
    let s := s.takeFailed q role v k kv
    let s := s.each fill (fun s f => s.onCoreReg f.core (fun c => c.hwWrite s.now f.addr.toNat f.data))
    s.each slots (fun s c => s.restoreSlot q c false)
  else if s.runs q ∧ s.bit .QD_MIRROR q 23 then
    let s := ((s.setBit .QD_MIRROR q 23 false).setFld .QD_MIRROR q 19 0 device).setFld .QD_MIRROR q 21 20 quad
    s.each ((List.range 128).filter (fun n => let t := (s.quad q).slot n
        decide (t.state ≠ 0) && t.partner.isSome)) (fun s n =>
      (s.modSlot q n (fun t => { t with partner := some (device, quad) })).sendDelta q n 3 (s.epoch q) [])
  else s

/-- STANDBY_RESTORE_DONE (R494): the failed role, the variant and epoch index the partition resumes with, the switch epoch since which
that variant runs, the copies, and the substitute's device and quadrant. -/
def execStandbyRestoreDone (q : Fin 4) (role : BitVec 32) (v : Fin 8) (k kv : U64) (slots : List MirrorCopy) (fill : List RangeCopy)
    (device : BitVec 20) (quad : Fin 4) (s : State) : Host.Outcome State Fault Refusal :=
  .next (s.restoreDone q role.toNat v k.toNat kv.toNat slots fill device.toNat quad)

/-! ### Mirror records (R485 to R488) -/

/-- MIRROR_DELTA (R485). -/
def execMirrorDelta (q : Fin 4) (record : List Byte) (s : State) : Host.Outcome State Fault Refusal := .next (s.mirrorDelta q record)

/-- MIRROR_ACK (R486). -/
def execMirrorAck (q : Fin 4) (slot : Fin 128) (dseq : BitVec 32) (s : State) : Host.Outcome State Fault Refusal :=
  .next (s.mirrorAck q slot dseq.toNat)

/-- MIRROR_GAP_REPORT (R488). -/
def execMirrorGapReport (q : Fin 4) (slot : Fin 128) (s : State) : Host.Outcome State Fault Refusal := .next (s.mirrorLost q [slot] false)

/-! ### Weight changes (R503) -/

/-- A weight change notice (R503): held when epoch kw − 1 has not been launched, else the hold is raised. -/
def State.weightNotice (s : State) (q kw : Nat) : State :=
  if !s.runs q then s
  else if kw < s.launchEpoch q + 1 then s.raiseHold
  else s.modQuad q (fun x => { x with weight := some kw })

/-- WEIGHT_CHANGE_NOTICE (R503). -/
def execWeightChangeNotice (q : Fin 4) (kw : U64) (s : State) : Host.Outcome State Fault Refusal := .next (s.weightNotice q kw.toNat)

/-- At L(kw − 1) the loader-written base words follow the live generation; at L(kw) groups that started before it are aborted (R503). -/
def State.weightChange (s : State) (q t : Nat) : State :=
  match (s.quad q).weight with
  | none => s
  | some kw =>
    let l := (s.nextValues q kw).1
    let s := s.at' t
    if t < l then (if kw ≤ s.epoch q + 1 then s.rebase q else s)
    else
      let old := ((s.quad q).groups.filter (fun g => decide (g.2.launch < l))).map (·.1)
      (s.each old (fun s r => s.abortGroup q r)).modQuad q (fun x => { x with weight := none })

/-- WEIGHT_CHANGE (R503). -/
def execWeightChange (q : Fin 4) (t : U64) (s : State) : Host.Outcome State Fault Refusal := .next (s.weightChange q t.toNat)

/-! ### Rehearsals (R500 to R502) -/

/-- LINK_UNIT_CORRUPTION (R501): the port inverts the CRC of its next ARG sequenced units. -/
def execLinkUnitCorruption (i : Fin 64) (s : State) : Host.Outcome State Fault Refusal :=
  let port := s.rehTarget i % 12
  .next (s.rehearsal i 0 false (fun s => s.modPort port (fun x => { x with corrupt := min 1024 (s.rehArg i), rehearse := true })))

/-- FORCED_RETRAIN (R501). -/
def execForcedRetrain (i : Fin 64) (t : U64) (s : State) : Host.Outcome State Fault Refusal :=
  let port := s.rehTarget i % 12
  .next ((s.at' t.toNat).rehearsal i 1 false (fun s => s.retrain port 5 t.toNat false))

/-- RESIDUE_INJECTION (R155, R501). -/
def execResidueInjection (i : Fin 64) (s : State) : Host.Outcome State Fault Refusal :=
  let p := s.rehTarget i % 288
  .next (s.rehearsal i 2 false (fun s => s.modCore p (fun c => { c with injectResidue := true })))

/-- The stored symbol at byte 0 of a code unit inverted (R501); its correction is rehearsed, not counted (R502). -/
def CoreSt.spoil (c : CoreSt) (a : Nat) : CoreSt :=
  let u := a / 64
  { c with
    sram := c.sram.write (64 * u) (~~~ c.sram.read (64 * u))
    rehearsed := if c.rehearsed.contains u then c.rehearsed else c.rehearsed ++ [u] }

/-- CRYSTAL_SYMBOL_ERROR (R501). -/
def execCrystalSymbolError (i : Fin 64) (s : State) : Host.Outcome State Fault Refusal :=
  let p := s.rehTarget i % 288
  .next (s.rehearsal i 3 false (fun s => s.modCore p (fun c => c.spoil (s.rehArg i))))

/-- REHEARSAL_CORDON (R501): a cordon without FAILED. Its reason code is not given: a free value
(DESIGN CHOICE, log entry 70). -/
def execRehearsalCordon (i : Fin 64) (s : State) : Host.Outcome State Fault Refusal :=
  let p := s.rehTarget i % 288
  let q := p / 72
  let r := p % 72 / 9
  .next (s.rehearsal i 4 (nearestSpare (s.rowOut q r) (s.rowFailed q r) (p % 9)).isNone (fun s =>
    let (w, s) := s.fresh
    s.cordonCore p (w.toNat % 16) true))

/-- A slot's hub state discarded and restored from its partner (R496, R501); rows it held are free. -/
def State.promote (s : State) (q : Nat) (c : MirrorCopy) : State :=
  let t := (s.quad q).slot c.slot
  let s := match t.row with | some r => s.abortGroup q r | none => s
  let s := if 0 < t.reserved then s.trueUp q c.slot 0 else s
  let s := (s.bindRing q t.inRing none).bindRing q t.outRing none
  let s := (s.addRef false t.adapter false).addRef true t.pfx false
  s.restoreSlot q c true

/-- MIRROR_PROMOTION (R501): the slot of ARG, from the copy its partner holds; skipped while its mirror is not in step. -/
def execMirrorPromotion (i : Fin 64) (copy : MirrorCopy) (s : State) : Host.Outcome State Fault Refusal :=
  let q := s.rehTarget i % 4
  let n := s.rehArg i % 128
  .next (s.rehearsal i 5 (decide (s.mirrorState q n ≠ 1)) (fun s => s.promote q { copy with slot := Fin.ofNat 128 n }))

end Sys2Proof.Machine
end

