-- ==== Sys2Proof/Machine/Time.lean ====
section
/-! DEFINITION. The timebase and snap-barrier commands (R448 to R466), and the variant switch commands (R41 to R44). -/
namespace Sys2Proof.Machine

/-! ### Two-way time transfer (R453 to R455) -/

/-- TIME_MARK_SEND (R453): a mark falls due at an ACTIVE port, or the first one after EXCHANGE is entered; `t` and `frac` are when the
header of the first group that starts at or after that time is formed. It goes in that group, or in a later one that no other
symbol claims (R467). -/
def State.markSend (s : State) (port t frac : Nat) : State :=
  let p := s.portSt port
  let st := s.fld .LNK_STATE port 2 0
  if (st = 5 ∨ (st = 4 ∧ p.lastOut.isNone)) ∧ p.markAt.isNone then
    ((s.at' t).symbol port 4 p.markNo).modPort port (fun p => { p with
      markAt := some (5 * (t * 64 + frac)), markNo := (p.markNo + 1) % 64 })
  else s

/-- TIME_MARK_SEND (R453). -/
def execTimeMarkSend (port : Fin 12) (t : U64) (frac : Fin 64) (s : State) : Host.Outcome State Fault Refusal :=
  .next (s.markSend port t.toNat frac)

/-- TIME_MARK_RECEIVE (R453): the arrival of the partner's mark, less the receive figure. -/
def execTimeMarkReceive (port : Fin 12) (mark : Fin 64) (t : U64) (frac : Fin 64) (s : State) : Host.Outcome State Fault Refusal :=
  let a := t.toNat * 64 + frac - s.portCal port true
  let st := s.fld .LNK_STATE port 2 0
  .next (if 4 ≤ st ∧ st ≤ 6 then (s.at' t.toNat).modPort port (fun p => { p with
    marksIn := Map.set (α := Nat) p.marksIn mark a, lastIn := some mark.val }) else s)

/-- The stratum a device advertises (R451, R457, R458): 127 when standalone, FREE or in the hold. -/
def State.advertised (s : State) : Nat :=
  if s.bit .TB_CFG 0 0 ∨ s.tbState = 0 ∨ s.time.hold.isSome then 127 else s.fld .TB_STAT 0 14 8

/-- The TIME message of a port (R454). -/
def State.timeMessage (s : State) (port : Nat) : List Byte :=
  let p := s.portSt port
  let tx := p.lastOut.getD 0
  let d := Map.get (α := Nat) p.marksOut tx 0
  let a := match p.lastIn with | some m => Map.get (α := Nat) p.marksIn m 0 | none => 0
  leBytes 1 3 ++ leBytes 1 tx ++ leBytes 1 (p.lastIn.getD 0xFF) ++
  leBytes 1 (s.tbState + (if s.isGm then 8 else 0) + (if s.tbParent = port then 16 else 0)) ++ leBytes 1 s.advertised ++
  leBytes 3 (s.fld .TB_GM 0 27 20) ++ leBytes 8 (d / 64) ++ leBytes 8 (d % 64) ++ leBytes 8 (a / 64) ++ leBytes 4 (a % 64) ++
  leBytes 4 (s.fld .TB_GM 0 19 0 + (if s.bit .TB_GM 0 28 then 2 ^ 23 else 0)) ++ leBytes 4 (s.fld .TB_STAT 0 47 32) ++
  List.replicate 84 0

/-- TIME_MESSAGE_SEND (R454): once for a mark, from 20 to 200 µs after its departure. -/
def State.messageSend (s : State) (port t : Nat) : State :=
  let p := s.portSt port
  match p.lastOut with
  | none => s
  | some m =>
    let d := Map.get (α := Nat) p.marksOut m 0
    if p.told ∨ t * 64 < d + 20000 * 64 ∨ d + 200000 * 64 < t * 64 then s
    else
      let s := (s.at' t).noteBound t
      (s.control port (s.timeMessage port)).modPort port (fun p => { p with told := true })

/-- TIME_MESSAGE_SEND (R454). -/
def execTimeMessageSend (port : Fin 12) (t : U64) (s : State) : Host.Outcome State Fault Refusal := .next (s.messageSend port t.toNat)

/-- The four times of an exchange, in sixty-fourths of a drip (R455), when it is valid: t1 and t4 of this device, t2 and t3 of the
message. -/
def PortSt.exchange (p : PortSt) (b : List Byte) : Option (Int × Int × Int × Int) :=
  let f := fun (o n : Nat) => ofLe ((b.drop o).take n)
  let tx := f 1 1 % 64
  match p.lastOut, Map.find (α := Nat) p.marksIn tx with
  | some m, some t4 =>
    if f 2 1 ≠ m then none
    else some ((Map.get (α := Nat) p.marksOut m 0 : Nat), ((f 24 8 * 64 + f 32 1 % 64 : Nat) : Int), ((f 8 8 * 64 + f 16 1 % 64 : Nat) : Int), (t4 : Nat))
  | _, _ => none

/-- What a message says of its sender taken (R454, R470): its grandmaster's key and its stratum. -/
def State.hearPeer (s : State) (port t : Nat) (b : List Byte) : State :=
  let f := fun (o n : Nat) => ofLe ((b.drop o).take n)
  let id := f 36 3
  let s := (s.setFld .TB_PORT_TIME port 38 32 (f 4 1)).setFld .TB_PORT_TIME port 41 39 (f 3 1 % 8)
  let s := s.modPort port (fun p => { p with
    peerKey := if id.testBit 23 then some (gmKey (f 5 1) (id % 2 ^ 20)) else none, peerStratum := f 4 1 % 128 })
  if s.keyPorts.contains port then s.modTime (fun x => { x with keySeen := t }) else s

/-- Does the parent's message lose the parent (R458): stratum 127, or a worse grandmaster key than the one followed. -/
def State.parentFails (s : State) (port : Nat) : Bool :=
  let key := s.fld .TB_GM 0 27 0
  decide ((s.portSt port).peerStratum = 127) || match (s.portSt port).peerKey with
    | some k => decide (key < k)
    | none => true

/-- An invalid exchange: skipped, counted, and 16 running with the parent lose it (R455, R458). -/
def State.skipExchange (s : State) (port t : Nat) : State :=
  let s := s.bump .TB_PORT_TIME port 58 43 1
  if s.tbParent ≠ port then s
  else
    let s := s.modTime (fun x => { x with skips := x.skips + 1 })
    if 16 ≤ s.time.skips then s.loseParent t else s

/-- A valid exchange: delay and offset (R455); during EXCHANGE the port's round trip. The offset in sixty-fourths of a drip is rounded up
or down by a free bit when it is not whole. -/
def State.takeExchange (s : State) (port t : Nat) (x : Int × Int × Int × Int) : State :=
  let (t1, t2, t3, t4) := x
  let d2 := (t2 - t1) + (t4 - t3)
  let th2 := (t2 - t1) - (t4 - t3)
  let d := ((d2 + 127) / 128).toNat
  let (w, s) := s.fresh
  let off := th2 / 2 + (if th2 % 2 ≠ 0 ∧ bitAt w 0 then 1 else 0)
  let s := (s.setFld .TB_PORT_TIME port 31 0 (BitVec.ofInt 32 off).toNat).modPort port (fun p => { p with delay := some d })
  let s := if s.fld .LNK_STATE port 2 0 = 4 then s.setRtt port d else s
  if s.tbParent = port ∧ !s.isGm ∧ !s.bit .TB_CFG 0 0 then s.servo th2 t else s

/-- TIME_MESSAGE (R451 to R458). -/
def State.hearTime (s : State) (port t : Nat) (b : List Byte) : State :=
  let st := s.fld .LNK_STATE port 2 0
  if st < 4 ∨ st = 7 ∨ b.headD 0 ≠ 3 then s
  else
    let x := (s.portSt port).exchange b
    let s := (s.at' t).hearPeer port t b
    let s := if s.tbParent = port ∧ s.parentFails port then s.loseParent t else s
    let s := s.electTime t
    match x with
    | some x => s.takeExchange port t x
    | none => s.skipExchange port t

/-- TIME_MESSAGE (R455). -/
def execTimeMessage (port : Fin 12) (payload : List Byte) (t : U64) (s : State) : Host.Outcome State Fault Refusal :=
  .next (s.hearTime port t.toNat payload)

/-- STRATUM_HOLD_EXPIRY (R458). -/
def execStratumHoldExpiry (t : U64) (s : State) : Host.Outcome State Fault Refusal :=
  .next (match s.time.hold with
    | some e => if e ≤ t.toNat then ((s.at' t.toNat).modTime (fun x => { x with hold := none })).electTime t.toNat else s
    | none => s)

/-- GM_ELECTION_TIMEOUT (R451): a candidate that has heard no key for three exchange periods becomes grandmaster. -/
def execGmElectionTimeout (t : U64) (s : State) : Host.Outcome State Fault Refusal :=
  .next (if s.candidate && s.keyPorts.isEmpty && !s.isGm && decide (s.tbParent = 15) && decide (s.time.keySeen + 3000000 ≤ t.toNat) then
    (s.at' t.toNat).becomeGm t.toNat else s)

/-- HOLDOVER_LIMIT (R457): the bound passes 14.5 drips. -/
def execHoldoverLimit (t : U64) (s : State) : Host.Outcome State Fault Refusal :=
  .next (if s.tbState = 3 then
    (match s.bound t.toNat with
      | some b => if 928000 < b then (s.at' t.toNat).tbEnter 4 t.toNat else (s.at' t.toNat).noteBound t.toNat
      | none => s)
  else s)

/-- PARENT_RETRAIN_TIMEOUT (R458). -/
def execParentRetrainTimeout (t : U64) (s : State) : Host.Outcome State Fault Refusal :=
  .next (match s.time.retrain with
    | some (_, since) => if since + 100000000 < t.toNat then (s.at' t.toNat).loseParent t.toNat else s
    | none => s)

/-! ### The keeper barrier (R464) -/

/-- May the keeper arrive (R648): every role loaded and not yet started is ready: manifests live, its ports ACTIVE, the timebase LOCKED. A
standby never arrives (DEDUCED, log entry 77). -/
def State.readyToArrive (s : State) : Bool :=
  (List.range 4).all (fun q => match (s.quad q).plan with
    | none => true
    | some p => s.runs q || (!p.standby && decide (s.manifestsNeeded q p = 0) && decide (s.tbState = 2) &&
        (portsUsed (imageSects p.image) p.role).all (fun pt => decide (s.linkState pt = 5))))

/-- The member's round-trip reports of the ports its roles use (R645). -/
def State.reportRtts (s : State) : State :=
  let ports := ((List.range 4).flatMap (fun q => match (s.quad q).plan with
    | some p => portsUsed (imageSects p.image) p.role
    | none => [])).eraseDups
  s.each ports (fun s pt =>
    let rtt := s.fld .LNK_RTT pt 15 0
    let s := s.send (.message 18 [s.globalId, pt, rtt, s.slotScale pt])
    s.modKeeper (fun k => { k with rtts := Map.set (α := Nat) k.rtts (s.globalId * 16 + pt) (rtt * 64 + s.slotScale pt) }))

/-- What ends a start before its release: DIAG set in a core (R83), or the link part of check 5 (R645). -/
def State.startBad (s : State) (q : Nat) (p : Plan) : Option (Nat × LoadFail) :=
  (s.diagOf q).or (s.linkFail p s.keeper.rtts none)

/-- The tests before a release (R83, R645): nothing to test, a pass, or the end of the start with the failure's status. -/
def State.startCheck (s : State) : State × Bool :=
  match s.keeper.start with
  | none => (s, true)
  | some x => match (s.quad x.quad).plan with
    | none => (s, true)
    | some p => match s.startBad x.quad p with
      | none => (s, true)
      | some (role, f) => ((s.endStart (f.words role) f.status).discardBarrier, false)

/-- Once this device has arrived and ARRIVE has come on every child port: ARRIVE to the parent, or RELEASE at the root (R464). -/
def State.barrierStep (s : State) : State :=
  let ports := maskPorts (s.fld .TB_SNAP_CFG 0 27 16)
  if !s.bit .TB_SNAP_STAT 0 6 ∨ !(ports.all s.time.arrived.contains) ∨ s.time.release.isSome then s
  else
    let up := s.fld .TB_SNAP_CFG 0 15 12
    if up = 15 then
      let (s, ok) := s.startCheck
      if ok then s.originate 1 (fun s n => s.modTime (fun x => { x with release := some n })) else s
    else s.snapSymbol up 0 (s.fld .TB_SNAP_STAT 0 5 0)

/-- ARRIVE (R464); a keeper that has granted an update window holds its barriers (R573). -/
def State.arrive (s : State) (t : Nat) : State :=
  let s' := s.at' t
  if s.bit .TB_SNAP_STAT 0 6 ∨ !s.readyToArrive ∨ t < s.keeper.window' then s'
  else (s'.reportRtts.setBit .TB_SNAP_STAT 0 6 true).barrierStep

/-- ARRIVE (R464). -/
def execArrive (t : U64) (s : State) : Host.Outcome State Fault Refusal := .next (s.arrive t.toNat)

/-- ARRIVE_SYMBOL (R464): recorded when it names the present barrier and comes on a child port. -/
def execArriveSymbol (port : Fin 12) (code : Fin 64) (t : U64) (s : State) : Host.Outcome State Fault Refusal :=
  let s' := s.at' t.toNat
  .next (if s.fld .TB_SNAP_STAT 0 5 0 = code ∧ s.bit .TB_SNAP_CFG 0 (16 + port) ∧ !s.time.arrived.contains port.val then
    (s'.modTime (fun x => { x with arrived := x.arrived ++ [port.val] })).barrierStep
  else s')

/-- RELEASE_SYMBOL (R462, R463). -/
def execReleaseSymbol (port : Fin 12) (code : Fin 64) (t : U64) (s : State) : Host.Outcome State Fault Refusal :=
  .next ((s.at' t.toNat).takeSnap port 1 code t.toNat (fun s n => s.modTime (fun x => { x with release := some n }))
    (fun s => s.send (.message 12 [1])))

/-- A start whose EPOCH0 was dropped or cancelled by a hold ends with 0x7E, naming the master (R648). -/
def State.judgeStart (s : State) : State :=
  match s.keeper.start with
  | some x => if x.released && s.time.epoch0.isNone then s.failStart (s.globalId + x.quad * 2 ^ 20) else s
  | none => s

/-- RELEASE_FIRE (R464, R648): the master's keeper then originates EPOCH0 for a pending start. -/
def State.releaseFire (s : State) (t : Nat) : State :=
  match s.time.release with
  | none => s
  | some n =>
    if t < n then s
    else
      let s := ((s.at' t).discardBarrier.setReg .TB_SNAP_FIRE 0 (BitVec.ofNat 64 n)).modTime (fun x => { x with release := none })
      let s := s.send (.message 9 [n])
      match s.keeper.start with
      | some x => ((s.modKeeper (fun k => { k with start := some { x with released := true } })).originate 2 State.epoch0At).judgeStart
      | none => s

/-- RELEASE_FIRE (R464). -/
def execReleaseFire (t : U64) (s : State) : Host.Outcome State Fault Refusal := .next (s.releaseFire t.toNat)

/-! ### Epoch zero (R24, R465, R648) -/

/-- EPOCH0 (R465). -/
def execEpoch0 (t : U64) (s : State) : Host.Outcome State Fault Refusal := .next (((s.at' t.toNat).originate 2 State.epoch0At).judgeStart)

/-- EPOCH0_SYMBOL (R465): late, it is reported, and the plan's quadrants are load-late (R24). -/
def execEpoch0Symbol (port : Fin 12) (code : Fin 64) (t : U64) (s : State) : Host.Outcome State Fault Refusal :=
  .next ((s.at' t.toNat).takeSnap port 2 code t.toNat State.epoch0At
    (fun s => (s.send (.message 12 [2])).loadLate s.originQuads (countOf code t.toNat)))

/-- A quadrant takes the plan origin (R24, R25, R296, R648): a role not yet started begins at epoch 0 under variant 0, a held one goes on at
its next epoch. -/
def State.takeOrigin (s : State) (q l : Nat) : State :=
  let resume : Bool := s.runs q
  let rule : LaunchRule := if resume then { first := s.launchEpoch q, at' := l, variant := (s.quad q).rule.variant } else { first := 0, at' := l, variant := 0 }
  let s := s.modQuad q (fun x => { x with rule := rule, past := [], origin := l, periods := [], begun := false, restart := none })
  let s := s.setReg .QD_LAUNCH_NEXT q (BitVec.ofNat 64 l)
  let s := if resume then s.setBit .QD_VARIANT q 8 false else (s.setReg .QD_VARIANT q 8).setReg .QD_EPOCH_INDEX q 0
  let s := (s.armPrepared q l).startQuad q
  let s := s.governFloor q
  if resume then ((s.setBit .QD_RECOVERY q 0 false).setBit .QD_RECOVERY q 2 false).notice (some q) 0x04 3 l else s

/-- Does a loaded role take part in an origin: held, or loaded with its manifests live (R24, R457). -/
def State.takesPart (s : State) (q : Nat) : Bool :=
  match (s.quad q).plan with
  | none => false
  | some p => !p.standby && decide (s.tbState ≠ 4) &&
      (if s.runs q then s.bit .QD_VARIANT q 8 else decide (s.manifestsNeeded q p = 0))

/-- EPOCH0 fires at its event count (R465, R466, R648) (DEDUCED, log entry 94). -/
def State.epoch0Fire (s : State) (t : Nat) : State :=
  match s.time.epoch0 with
  | none => s
  | some n =>
    if t < n then s
    else
      let l := n + 1048576
      let go := (List.range 4).filter s.takesPart
      let late := s.originQuads.filter (fun q => !go.contains q)
      let s := ((s.at' t).setReg .TB_EPOCH0 0 (BitVec.ofNat 64 l)).setBit .TB_SNAP_STAT 0 8 false
      let s := s.modTime (fun x => { x with epoch0 := none })
      let s := if s.bit .TB_SNAP_STAT 0 7 ∧ (s.reg .TB_HOLD_AT 0).toNat < n then
          ((s.setBit .TB_SNAP_STAT 0 7 false).setReg .TB_HOLD_AT 0 0).modTime (fun x => { x with holdNow := false, holdFired := false })
        else s
      let s := if late.isEmpty then s else s.loadLate late l
      let s := s.each go (fun s q => s.takeOrigin q l)
      let amps := maxL (go.map (fun q => match (s.quad q).plan with
        | some p => p.amps.getD (s.quad q).rule.variant 0
        | none => 0))
      let s := { s with power := { s.power with target := 1600 * amps } }
      match s.keeper.start with
      | some x => if x.released then s.endStart [BitVec.ofNat 64 (0xFFFF * 2 ^ 16 + s.startRole % 2 ^ 24 * 2 ^ 40), 0, 0, 0, 0, 0, 0, 0] 0 else s
      | none => s

/-- EPOCH0_FIRE (R465). -/
def execEpoch0Fire (t : U64) (s : State) : Host.Outcome State Fault Refusal := .next (s.epoch0Fire t.toNat)

/-- LOAD_LATE_MESSAGE (R24): kept by the master's keeper; a start still pending ends with 0x7E, naming the member (R648). -/
def execLoadLateMessage (id : BitVec 20) (mask : BitVec 4) (drip : U64) (s : State) : Host.Outcome State Fault Refusal :=
  let s' := s.modTime (fun x => { x with loadLate := x.loadLate ++ [(id.toNat, mask.toNat, drip.toNat)] })
  let q := ((List.range 4).find? (fun q => mask.toNat.testBit q)).getD 0
  .next (match s.keeper.start with
    | some x => if x.released then s'.failStart (id.toNat + q * 2 ^ 20) else s'
    | none => s')

/-! ### The emergency hold (R43, R466, R494) -/

/-- HOLD (R466). -/
def execHold (t : U64) (s : State) : Host.Outcome State Fault Refusal := .next ((s.at' t.toNat).raiseHold.judgeStart)

/-- HOLD_SYMBOL (R466). -/
def execHoldSymbol (port : Fin 12) (code : Fin 64) (t : U64) (s : State) : Host.Outcome State Fault Refusal :=
  .next (((s.at' t.toNat).takeSnap port 3 code t.toNat (fun s n => (s.modTime (fun x => { x with holdFired := false })).holdAt n)
    (fun s => s.send (.message 12 [3]))).judgeStart)

/-- At the hold count (R492, R494): sequencers stop, queues flush, open groups abort, a prepared spare map takes effect; a quadrant with a
recovery pending or cordoned is being replaced (DEDUCED, log entry 74). -/
def State.holdFire (s : State) (t : Nat) : State :=
  let h := (s.reg .TB_HOLD_AT 0).toNat
  if !s.bit .TB_SNAP_STAT 0 7 ∨ t < h ∨ s.time.holdFired then s
  else
    let s := (s.at' t).modTime (fun x => { x with holdFired := true })
    (s.each ((List.range 4).filter s.runs) (fun s q =>
      let s := (s.stopQuad q).applyRemap q
      let s := if s.bit .QD_RECOVERY q 0 ∨ s.bit .KPR_QUAD_STAT q 1 then s.setBit .QD_RECOVERY q 2 true else s
      s.notice (some q) 0x04 2 h)).judgeStart

/-- HOLD_FIRE (R494). -/
def execHoldFire (t : U64) (s : State) : Host.Outcome State Fault Refusal := .next (s.holdFire t.toNat)

/-! ### Variant switches (R41, R42, R44) -/

/-- A variant notice taken at drip t (R41 to R44): pending from now; one that comes after L(ks − 1), or after its S, raises the hold. -/
def State.variantNotice (s : State) (q v ks count t : Nat) : State :=
  if !s.runs q ∨ (s.quad q).notice.isSome then s
  else if count ≤ t ∨ ((s.quad q).begun ∧ ks ≤ s.epoch q + 1) then (s.setBit .QD_VARIANT q 9 true).raiseHold
  else
    let s := s.modQuad q (fun x => { x with notice := some { target := v, ks := ks, count := count } })
    let s := (s.setFld .QD_VARIANT q 6 4 v).setBit .QD_VARIANT q 7 true
    (s.setReg .QD_SWITCH_COUNT q (BitVec.ofNat 64 count)).notice (some q) 0x08 v count

/-- VARIANT_NOTICE (R41). -/
def execVariantNotice (q : Fin 4) (v : Fin 8) (ks count t : U64) (s : State) : Host.Outcome State Fault Refusal :=
  .next ((s.at' t.toNat).variantNotice q v ks.toNat count.toNat t.toNat)

/-- The confirmation at L(ks − 1) (R42, R43, R444): a higher floor is written ahead; without the notice the hold is raised. -/
def State.switchConfirm (s : State) (q ks : Nat) : State :=
  if !s.runs q then s
  else match (s.quad q).notice with
    | some n =>
      if n.ks = ks then
        (match (s.quad q).variants[n.target]?, s.variant q with
          | some w, some v => if v.floor < w.floor then s.writeFloor q w.floor else s
          | _, _ => s)
      else (s.setBit .QD_VARIANT q 9 true).raiseHold
    | none => (s.setBit .QD_VARIANT q 9 true).raiseHold

/-- SWITCH_CONFIRM (R42). -/
def execSwitchConfirm (q : Fin 4) (ks t : U64) (s : State) : Host.Outcome State Fault Refusal :=
  .next ((s.at' t.toNat).switchConfirm q ks.toNat)

/-- VARIANT_SWITCH (R42): at S, the next launch. -/
def execVariantSwitch (q : Fin 4) (s : State) : Host.Outcome State Fault Refusal :=
  .next (s.takeSwitch q (s.reg .QD_LAUNCH_NEXT q).toNat)

end Sys2Proof.Machine
end

