-- ==== Sys2Proof/Machine/ResetOps.lean ====
section
/-! DEFINITION. Resets (R548 to R564): what each scope clears and keeps, RST_CAUSE, resets held behind a flash operation, and the
ROM's part of bring-up (R556 to R558, R565 to R568). -/
namespace Sys2Proof.Machine

/-! ### Register files under a reset -/

/-- The register and index of a storage key. -/
def regAt (k : Nat) : Option (Reg × Nat) := (Reg.all[k / 1048576]?).map (fun r => (r, k % 1048576))

/-- The stored registers without those a test names: they read as at reset. -/
def RegFile.clear (f : RegFile) (drop : Reg → Nat → Bool) : RegFile :=
  f.filter (fun e => match regAt e.1 with
    | some (r, i) => !drop r i
    | none => true)

/-- The quadrant that instance i of a quadrant register belongs to (R655). -/
def quadOf (r : Reg) (i : Nat) : Nat :=
  if r = .MSH_SLOT then i / 1280 % 288 / 72 else i / max 1 r.info.count

/-- The port that instance i of a link register belongs to. -/
def portOf (r : Reg) (i : Nat) : Option Nat :=
  match r with
  | .LNK_CTRL | .LNK_STATE | .LNK_RTT | .LNK_ERR_CFG | .LNK_SWAP_AT | .LNK_PEER | .LNK_PEER_FACTORY => some i
  | .LNK_COUNT => some (i / 16)
  | .LNK_FAB_COUNT => some (i / 8)
  | .LNK_PKEY => some (i / 64)
  | .LNK_TX_TAG => some (i / 1024)
  | .LNK_RX_FLOW => some (i / 65536)
  | .LNK_TX_SLOT | .LNK_RX_SLOT => some (i / 2048 % 12)
  | _ => none

/-- A function's own registers. -/
def pageOf (r : Reg) (f i : Nat) : Bool := r.info.space = .page && (if r = .HIF_RING then i / 256 = f else i = f)

/-- Stored registers cleared by a test. -/
def State.clearRegs (s : State) (drop : Reg → Nat → Bool) : State := { s with regs := s.regs.clear drop }

/-! ### Scopes -/

/-- A function's rings, queues, MSI-X table and HIF_ registers reset (R535). -/
def State.resetFunc (s : State) (f : Nat) : State :=
  let s := if f = 4 then { s with trace := { s.trace with tel := none } }.setBit .TEL_STAT 0 0 false else s
  { s.clearRegs (fun r i => pageOf r f i) with funcs := Map.del (α := FuncSt) s.funcs f }

/-- A core under a quadrant or device warm reset (R562): as a core reset, with its registers at their reset values but for the
crystal entries of its region table; a failed core stays held in reset. -/
def CoreSt.warmReset (c : CoreSt) : CoreSt :=
  let keep := fun (i : Nat) => c.regType i = 1
  { sram := c.sram, units := c.units, rehearsed := c.rehearsed, inReset := c.inReset, fenced := c.fenced
    regs := c.regs.clear (fun r i => !(r = .CORE_REGION && keep i)) }

/-- The load in progress of a quadrant ended by a reset with status 0x0D, its completion written before the rings go (R258, R262). -/
def State.abortLoad (s : State) (q : Nat) : State :=
  match (s.quad q).load with
  | none => s
  | some l =>
    let s := (s.modQuad q (fun x => { x with refetch := [] })).endLoad q l 0x0D 0
    (s.post q s.now).sendVectors q

/-- The reference counts of a quadrant's adapter and prefix slots, from the sequence table that survives its reset (R258). -/
def State.recountRefs (s : State) (q : Nat) : State :=
  s.each [false, true] (fun s pfx => s.each (s.ownSlots q pfx) (fun s k =>
    s.setFld (slotReg pfx) k 47 32 ((s.quad q).slots.filter (fun (e : Nat × SlotSt) =>
      decide (e.2.state ≠ 0) && (if pfx then e.2.pfx else e.2.adapter) = some k)).length))

/-- Slots that are LOADING become FREE (R258) (DEDUCED, log entry 45). -/
def State.dropLoading (s : State) (q : Nat) : State :=
  s.each [false, true] (fun s pfx => s.each (s.ownSlots q pfx) (fun s k => if s.slotState pfx k = 1 then s.freeSlot pfx k else s))

/-- The logic of a quadrant reset, its supervisor and its three ports with it (R548, R562, R564); its function apart. -/
def State.resetQuadLogic (s : State) (q : Nat) : State :=
  let t := s.now
  let ports := (List.range 12).filter (fun p => portQuad p = q)
  let s := ((((s.abortLoad q).dropLoading q).recountRefs q).setOpen q false).each (physCores q) State.cutSlowOut
  let s := s.each ports (fun s p => s.portOff p t)
  let s := { s with ports := s.ports.filter (fun (e : Nat × PortSt) => portQuad e.1 ≠ q)
                    mesh := s.mesh.filter (fun (e : Nat × List MeshFlit) => e.1 / 15 / 72 ≠ q)
                    meshRoute := s.meshRoute.filter (fun (e : Nat × Nat) => e.1 / 15 / 72 ≠ q)
                    meshOwner := s.meshOwner.filter (fun (e : Nat × Nat) => e.1 / 10 / 72 ≠ q) }
  let s := s.clearRegs (fun r i =>
    (r.info.space = .quad && quadOf r i = q && !(r = .ING_SLOT_RANGE || r = .BUD_RANGE)) ||
    (match portOf r i with | some p => decide (portQuad p = q) | none => false))
  let s := { s with cores := s.cores.map (fun (e : Nat × CoreSt) => if e.1 / 72 = q then (e.1, e.2.warmReset) else e) }
  let s := s.each ((s.cores.filter (fun (e : Nat × CoreSt) => e.1 / 72 = q && e.2.fenced)).map (·.1)) (fun s p => s.setBit .MSH_ROUTER_STAT p 48 true)
  let s := { s with trace := { s.trace with mems := Map.del (α := TraceMem) s.trace.mems q } }.setBit .ECHO_STAT 0 (2 + q) false
  let x := s.quad q
  (s.setReg .KPR_SETUP_TAG 0 0).setQuad q
    { hbm := x.hbm, hbmBad := x.hbmBad, idled := x.idled, asleep := x.asleep, heldReset := x.heldReset, mustCheck := true
      slots := (x.slots.filter (fun (e : Nat × SlotSt) => decide (e.2.state ≠ 0))).map (fun (e : Nat × SlotSt) => (e.1, { e.2 with frozen := true }))
      shards := x.shards.filter (fun r => r.live || r.slot.isNone)
      retired := x.retired.map (fun r => (r.1, 0xFFFF, r.2.2.1, r.2.2.2)) }

/-- A quadrant reset (R535, R548): a quadrant that runs a plan is cordoned first (R475, R549). -/
def State.resetQuad (s : State) (q : Nat) : State :=
  let s := if s.runs q then s.cordonQuadrant q 9 false else s
  ((s.resetQuadLogic q).resetFunc q).writeCaps

/-- A quadrant reset by a source (R549). -/
def State.quadrantReset (s : State) (code detail : Nat) (qs : List Nat) : State :=
  if qs.isEmpty then s
  else (s.noteReset code 2 detail false false).each qs State.resetQuad

/-- Quadrants of a mask. -/
def maskQuads (m : Nat) : List Nat := (List.range 4).filter (fun q => m.testBit q)

/-- Registers that a device warm reset keeps (R548, R562): the timebase region, RST_CAUSE, KPR_BOOT's code and override, the fuse
count, the tenant accounts, adapter and prefix slots, and the domains' and the trip's own records
(DEDUCED, log entry 41). -/
def warmKeeps (r : Reg) : Bool :=
  [Reg.TB_COUNT, .TB_CFG, .TB_STAT, .TB_GM, .TB_OFFSET, .TB_SNAP_CFG, .TB_SNAP_CTRL, .TB_SNAP_STAT, .TB_SNAP_FIRE, .TB_EPOCH0,
   .TB_HOLD_AT, .TB_PORT_CAL, .TB_PORT_TIME, .RST_CAUSE, .KPR_BOOT, .KPR_FW_STAT, .KPR_IDENT, .KPR_FACTORY_ID, .KPR_SPARE_ROW,
   .HUB_ADAPTER_SLOT, .HUB_ADAPTER_ID, .HUB_PREFIX_SLOT, .HUB_PREFIX_ID, .BUD_CFG, .BUD_BAL, .BUD_CAP, .PWR_DOMAIN_STAT,
   .PWR_THERM_STAT, .PWR_TEMP, .PWR_IN_STAT].contains r

/-- Registers that a device cold reset keeps (R548, R574, R611); PWR_DOMAIN_STAT keeps STARTS only, KPR_BOOT its override, and
KPR_FW_STAT the fuse count. -/
def coldKeeps (r : Reg) : Bool :=
  [Reg.RST_CAUSE, .KPR_BOOT, .KPR_FW_STAT, .KPR_IDENT, .KPR_FACTORY_ID, .KPR_SPARE_ROW, .PWR_DOMAIN_STAT, .PWR_THERM_STAT].contains r

/-- KPR_BOOT and KPR_FW_STAT but for what survives: CFG_CODE and OVERRIDE, SVN_FUSE. -/
def State.bootFields (s : State) : State :=
  let s := s.setReg .KPR_BOOT 0 (putBits (putBits 0 3 0 (s.fld .KPR_BOOT 0 3 0)) 9 8 (s.fld .KPR_BOOT 0 9 8))
  s.setReg .KPR_FW_STAT 0 (putBits 0 21 16 (s.fld .KPR_FW_STAT 0 21 16))

/-- The keeper's own state through a reset: flash, the pin, the nonce, alert causes and a flash operation's image survive; alert
enables and the dynamic address do not (DEDUCED, log entry 39). -/
def KeeperSt.afterReset (k : KeeperSt) (warm : Bool) : KeeperSt :=
  { flash := k.flash, cfgUv := k.cfgUv, powered := k.powered, nonce := k.nonce, warm := warm, t0 := warm
    side := { causes := k.side.causes, low := k.side.low } }

/-! ### Firmware images (R565, R566) -/

/-- A little-endian field of an image header. -/
def imgField (img : List Byte) (at' n : Nat) : Nat := ofLe ((img.drop at').take n)
/-- GEN. -/
def imgGen (img : List Byte) : Nat := imgField img 6 2
/-- VERSION. -/
def imgVersion (img : List Byte) : Nat := imgField img 8 4
/-- SVN. -/
def imgSvn (img : List Byte) : Nat := imgField img 12 1
/-- The header and body of an image, without what follows them. -/
def imgWhole (img : List Byte) : List Byte := img.take (256 + imgField img 16 4)

/-- What R566 says of an image of a kind (1 keeper, 2 supervisor): 0, or the status that refuses it (R571). -/
def imageStatus (svnFuse kind : Nat) (img : List Byte) : Nat :=
  let len := imgField img 16 4
  let top := if kind = 1 then 0x400000 else 0x200000
  let key := (img.drop 32).take 96
  let sig := (img.drop 128).take 96
  let idx := imgField img 5 1
  if img.take 4 ≠ [0x4B, 0x4E, 0x46, 0x57] ∨ imgField img 4 1 ≠ kind ∨ top < 256 + len ∨ img.length < 256 + len then 0x50
  else if 3 < idx ∨ (Config.fusedKeyHash idx).toNat ≠ sha384 key ∨ Config.keyRevoked idx then 0x50
  else if !ecdsaOk key sig (sha384 (img.take 128 ++ (img.drop 256).take len)) then 0x50
  else if imgSvn img < svnFuse then 0x51
  else 0

/-- SVN_FUSE. -/
def State.svnFuse (s : State) : Nat := s.fld .KPR_FW_STAT 0 21 16
/-- A valid image of a kind. -/
def State.imageValid (s : State) (kind : Nat) (img : List Byte) : Bool := imageStatus s.svnFuse kind img = 0

/-- Does a supervisor image pair with a keeper image (R568). -/
def pairs (keeper sup : List Byte) : Bool :=
  let table := (keeper.drop (256 + imgField keeper 20 4))
  let n := ofLe (table.take 4)
  let v := imgVersion sup
  decide (imgGen sup = imgGen keeper) && decide (1 ≤ n ∧ n ≤ 64) &&
  (List.range n).any (fun i => decide (imgField table (4 + 8 * i) 4 ≤ v ∧ v ≤ imgField table (8 + 8 * i) 4))

/-- The image in a bank's slot of a kind (0 keeper, 1 supervisor). -/
def FlashSt.image (f : FlashSt) (kind bank : Nat) : List Byte := Map.get (α := List Byte) f.images (kind * 2 + bank) []
/-- A slot written. -/
def FlashSt.setImage (f : FlashSt) (kind bank : Nat) (b : List Byte) : FlashSt :=
  { f with images := Map.set (α := List Byte) f.images (kind * 2 + bank) b }

/-- A record whose next copy was erased and not programmed: the previous copy is left (R546). -/
def Copies.spoil {α : Type} (c : Copies α) : Copies α :=
  match c.c0, c.c1 with
  | some a, some b => if a.1 < b.1 then { c with c0 := none } else { c with c1 := none }
  | some _, none => c
  | none, _ => { c with c0 := none }

/-- A program or erase broken off by a held reset, or that failed: the slot or the record's other copy is not valid (R552). -/
def FlashSt.breakOff (f : FlashSt) (o : FlashOp) : FlashSt :=
  match o with
  | .image kind bank _ _ _ => f.setImage kind bank []
  | .record _ _ _ => { f with boot := f.boot.spoil }

/-! ### The ROM (R556, R557, R567) -/

/-- The code of a pin voltage in µV (R556). -/
def cfgCode (uv : Nat) : Nat := if uv ≤ 50000 then 0 else if uv > 1450000 then 15 else (uv + 49999) / 100000
/-- KPR_BOOT.SOURCE of a code (R557): 0 flash A, 1 flash B, 2 host-loaded, 3 network. -/
def bootSource (code : Nat) : Nat :=
  if code = 0 ∨ code = 11 ∨ code = 12 then 2
  else if code = 13 ∨ code = 14 then 3
  else if code = 4 ∨ code = 5 ∨ code = 6 ∨ code = 10 then 1
  else 0
/-- Clock mode standalone (R557). -/
def bootStandalone (code : Nat) : Bool := decide (7 ≤ code ∧ code ≤ 11)
/-- PCIe links of the arrangement a code selects (R514, R557). -/
def pcieLinks (code : Nat) : Nat :=
  if code = 2 ∨ code = 5 ∨ code = 8 then 2 else if code = 3 ∨ code = 6 ∨ code = 9 ∨ code = 12 ∨ code = 14 then 4 else 1
/-- Functions on a link of an arrangement (R514); 4 is the management function. -/
def linkFuncs (links i : Nat) : List Nat :=
  match links, i with
  | 1, 0 => [0, 1, 2, 3, 4]
  | 2, 0 => [0, 1, 4]
  | 2, 1 => [2, 3]
  | 4, 0 => [0, 4]
  | 4, 1 => [1]
  | 4, 2 => [2]
  | 4, 3 => [3]
  | _, _ => []

/-- The keeper changed by a function, and the flash changed. -/
def State.modFlash (s : State) (f : FlashSt → FlashSt) : State := s.modKeeper (fun k => { k with flash := f k.flash })

/-- STAGE (R576). -/
def State.stage (s : State) : Nat := s.fld .KPR_BOOT 0 12 10
/-- STAGE replaced. -/
def State.setStage (s : State) (n : Nat) : State := s.setFld .KPR_BOOT 0 12 10 n

/-- The first valid keeper image in an order of banks. -/
def State.findKeeper (s : State) (banks : List Nat) : Option (Nat × List Byte) :=
  (banks.find? (fun b => s.imageValid 1 (s.keeper.flash.image 0 b))).map (fun b => (b, imgWhole (s.keeper.flash.image 0 b)))

/-- The ROM at the start of a bring-up (R556, R557, R567): the pin code at a cold reset, and the keeper image of the flash. -/
def State.romBoot (s : State) : State :=
  let warm := s.keeper.warm
  let code := if warm then s.fld .KPR_BOOT 0 3 0 else cfgCode s.keeper.cfgUv
  let s := (s.setFld .KPR_BOOT 0 3 0 code).setFld .KPR_BOOT 0 5 4 (bootSource code)
  let s := if warm then s else s.setBit .TB_CFG 0 0 (bootStandalone code)
  if bootSource code ≥ 2 then s
  else
    let ovf := s.fld .KPR_BOOT 0 9 8
    let first := if !warm ∧ ovf ≠ 0 then ovf - 1
      else match s.keeper.flash.boot.use with
        | some b => b.keeper
        | none => bootSource code
    let s := if warm then s else s.setFld .KPR_BOOT 0 9 8 0
    match s.findKeeper [first, 1 - first] with
    | some (b, img) => (s.setFld .KPR_BOOT 0 6 6 b).modKeeper (fun k => { k with image := some img })
    | none => s.setStage 1

/-- The spare map taken from its valid copy, in effect at once (R478, R546): failed columns are held in reset. -/
def State.loadSpare (s : State) : State :=
  let rows := s.keeper.flash.spare.use.getD []
  let s := s.each (List.range 32) (fun s i => s.setReg .KPR_SPARE_ROW i (Map.get (α := U64) rows i 0x100))
  let s := { s with outEff := (List.range 32).map (fun i => (i, s.fld .KPR_SPARE_ROW i 8 0)) }
  let s := s.each (List.range 4) (fun s q =>
    s.setBit .KPR_QUAD_STAT q 0 ((List.range 8).any (fun r => decide (popcount 9 (s.rowOut q r) ≥ 2))))
  s.each (List.range 288) (fun s p =>
    if (s.rowFailed (p / 72) (p % 72 / 9)).testBit (p % 9) then
      (s.modCore p (fun c => { c with inReset := true, fenced := true })).setBit .MSH_ROUTER_STAT p 48 true
    else s)

/-- RWL registers take the values of the installation data (R661). -/
def State.loadInstall (s : State) : State :=
  match s.keeper.flash.install.use with
  | none => s
  | some x => s.each x.rwl (fun s e =>
      match regAt e.1 with
      | none => s
      | some (r, i) =>
        let m := BitVec.ofNat 64 r.info.rwl
        let m := if r = .TB_CFG then m &&& ~~~1 else m
        s.setReg r i ((s.reg r i &&& ~~~m) ||| (e.2 &&& m)))

/-- Safe service with a reason (R569): STAGE follows when bring-up ends (DEDUCED, log entry 42). -/
def State.safe (s : State) (reason : Nat) : State :=
  let s := (s.setBit .KPR_FW_STAT 0 22 true).setFld .KPR_FW_STAT 0 25 23 reason
  (s.each (List.range 4) (fun s q => s.setOpen q false)).modKeeper (fun k => { k with side := { k.side with causes := k.side.causes ||| 4 } })

/-- ALERT_N or an in-band interrupt follows the enabled alert causes (R538, R539, R680). -/
def State.alertPin (s : State) : State :=
  let x := s.keeper.side
  let on : Bool := x.causes &&& x.enables ≠ 0
  let inBand : Bool := x.addr.isSome && x.ibi
  if inBand then
    let s := if x.low then (s.modKeeper (fun k => { k with side := { k.side with low := false } })).send (.pin "ALERT_N" true) else s
    if on then s.send (.message 19 [x.causes &&& x.enables]) else s
  else if on = x.low then s
  else (s.modKeeper (fun k => { k with side := { k.side with low := on } })).send (.pin "ALERT_N" (!on))

/-- An alert cause set (R539). -/
def State.alert (s : State) (k : Nat) : State :=
  if s.keeper.side.causes.testBit k then s
  else (s.modKeeper (fun x => { x with side := { x.side with causes := x.side.causes ||| 2 ^ k } })).alertPin

/-- Keeper firmware starts, at the later of steps 3 and 5 of R558: installation data, spare map, setup lock; STAGE 2. -/
def State.startKeeper (s : State) : State :=
  match s.keeper.image with
  | none => s
  | some img =>
    if !s.keeper.t0 ∨ s.stage ≥ 2 then s
    else
      let s := (s.setFld .KPR_FW_STAT 0 15 0 (imgGen img)).setFld .KPR_FW_VER 0 31 0 (imgVersion img)
      let f := s.keeper.flash
      let s := ((s.loadInstall).loadSpare.setBit .KPR_LOCK 0 0 true).setStage 2
      let s := if f.install.use.isNone then s.safe 3 else if f.spare.use.isNone then s.safe 4 else s
      s.alertPin

/-- PCIe links whose PERST# has risen train once the host interface runs (R558, R559, R681). -/
def State.trainLinks (s : State) : State :=
  s.each (s.keeper.links.filter (fun e => e.1 < pcieLinks (s.fld .KPR_BOOT 0 3 0))) (fun s e =>
    s.setReg .HIF_LINK_STAT e.1 (BitVec.ofNat 64 e.2))

/-! ### Device resets -/

/-- STATE of a power domain replaced (R609). -/
def State.setDomain (s : State) (d st : Nat) : State := s.setFld .PWR_DOMAIN_STAT d 1 0 st
/-- A domain starts (R558, R592, R609). -/
def State.domainOn (s : State) (d : Nat) : State := (s.setDomain d 2).bump .PWR_DOMAIN_STAT d 31 16 1
/-- A domain's turn in a warm bring-up (R561, R593): a powered one goes on, one at retention leaves it, one that a fault had turned off
starts. -/
def State.domainWarm (s : State) (d : Nat) : State :=
  match s.fld .PWR_DOMAIN_STAT d 1 0 with
  | 0 => s.domainOn d
  | 3 => s.setDomain d 2
  | _ => s

/-- A device cold reset (R548, R562), up to the ROM's search for an image. -/
def State.coldReset (s : State) : State :=
  let s := (s.each (List.range 4) (fun s q => s.setOpen q false)).bootFields
  let links := s.keeper.links
  let s : State :=
    { regs := s.regs.clear (fun r _ => !coldKeeps r), outEff := s.outEff, keeper := s.keeper.afterReset false
      power := { tripped := s.power.tripped }, out := s.out, free := s.free, pending := s.pending }
  let s := s.each (List.range 40) (fun s d =>
    s.setReg .PWR_DOMAIN_STAT d (putBits 0 31 16 (s.fld .PWR_DOMAIN_STAT d 31 16)))
  (s.modKeeper (fun k => { k with links := links })).romBoot

/-- A device warm reset (R548, R561, R562): the domains stay powered, and bring-up runs again from the ROM. -/
def State.warmReset (s : State) : State :=
  let s := ((s.each (List.range 4) State.resetQuadLogic).each (List.range 4) (fun s q =>
    s.modQuad q (fun x => { x with idled := false, asleep := false, heldReset := false }))).bootFields
  let links := s.keeper.links
  let s : State :=
    { regs := s.regs.clear (fun r _ => !warmKeeps r), cores := s.cores, quads := s.quads, outEff := s.outEff, time := s.time
      keeper := s.keeper.afterReset true, power := { tripped := s.power.tripped }, out := s.out, free := s.free
      pending := s.pending, tap := s.tap }
  (((s.modKeeper (fun k => { k with links := links })).domainWarm 34).romBoot.startKeeper).trainLinks

/-- A reset that its sources have named takes place (R548, R552). -/
def State.applyReset (s : State) (r : ResetReq) (many held : Bool) : State :=
  match r.scope with
  | 0 => (s.noteReset r.code 0 r.detail many held).coldReset
  | 1 => (s.noteReset r.code 1 r.detail many held).warmReset
  | _ => (s.noteReset r.code 2 r.detail many held).each (maskQuads r.mask) State.resetQuad

/-- A device reset of which the keeper is part: held while a flash program or erase runs, with the wider of two held resets kept
(R552, R555) (DEDUCED, log entry 40). -/
def State.deviceReset (s : State) (r : ResetReq) : State :=
  match s.keeper.flashOp, s.keeper.held with
  | none, _ => s.applyReset r false false
  | some _, none => s.modKeeper (fun k => { k with held := some r })
  | some _, some h => s.modKeeper (fun k => { k with held := some (if r.scope < h.scope then r else h), heldMany := true })

end Sys2Proof.Machine
end

