-- ==== Sys2Proof/Machine/Power.lean ====
section
/-! DEFINITION. The commands of power delivery, cooling and low-power states (R440, R563, R589 to R604, R610, R679, R681). -/
namespace Sys2Proof.Machine

/-! ### Domains (R591, R609) -/

/-- The storage ports' links up, once their domain runs (R267, R593) (DESIGN CHOICE, log entry 123). -/
def State.storageUp (s : State) : State :=
  if s.fld .PWR_DOMAIN_STAT 38 1 0 = 2 ∧ !s.power.lost.contains 38 then s.each [0, 1] (fun s p => s.setBit .ING_PORT_STAT p 0 true) else s
/-- The storage ports' links down. -/
def State.storageDown (s : State) : State := s.each [0, 1] (fun s p => s.setBit .ING_PORT_STAT p 0 false)
/-- Every domain but the always-on one turned off. -/
def State.domainsOff (s : State) : State := s.each ((List.range 40).filter (fun d => d ≠ 32)) (fun s d => s.setDomain d 0)

/-- The device without its auxiliary supply (R679, R681): only flash, fuses and what the board drives remain. -/
def State.powerDown (s : State) : State :=
  let s := s.each (List.range 4) (fun s q => s.setOpen q false)
  let fuse := s.svnFuse
  let k := s.keeper
  let flash := match k.flashOp with | some o => k.flash.breakOff o | none => k.flash
  let s : State := { keeper := { flash := flash, cfgUv := k.cfgUv, links := k.links, powered := false }, out := s.out, free := s.free
                     pending := s.pending }
  s.setFld .KPR_FW_STAT 0 21 16 fuse

/-- A loss of the timebase PLL's lock, or a parity error of timebase state (R440, R549). -/
def State.lockLoss (s : State) (t : Nat) : State :=
  let (w, s) := ((s.at' t).tbEnter 4 t).fresh
  s.deviceReset { code := 7, scope := 0, detail := w.toNat % 256 }

/-- TIMEBASE_LOCK_LOSS (R440). -/
def execTimebaseLockLoss (t : U64) (s : State) : Host.Outcome State Fault Refusal := .next (s.lockLoss t.toNat)

/-- SLOT_TABLE_PARITY_ERROR (R353, R549): the quadrant is reset; the critical-state kind is a free value. -/
def execSlotTableParityError (q : Fin 4) (s : State) : Host.Outcome State Fault Refusal :=
  let (w, s) := s.fresh
  .next (s.quadrantReset 7 (w.toNat % 256) [q])

/-! ### Inputs (R587 to R590, R679, R681) -/

/-- VIN48 outside its monitor's limits, in units of 10 mV (R589, R608). -/
def State.vin (s : State) (v : Nat) : State :=
  let s := s.setFld .PWR_IN_STAT 0 15 0 v
  let s := if v < 3900 then (s.setBit .PWR_IN_STAT 0 32 true).alert 3 else s
  if v > 6100 then (s.setBit .PWR_IN_STAT 0 33 true).alert 3 else s

/-- VIN_OUT_OF_RANGE (R589): the monitor reads v, in units of 10 mV. -/
def execVinOutOfRange (v : BitVec 16) (s : State) : Host.Outcome State Fault Refusal := .next (s.vin v.toNat)

/-- VIN_SHUTDOWN (R589): v below 38 V for 50 µs or above 62 V for 10 µs. No source code of R549 names it: CODE is a free value
(DESIGN CHOICE, log entry 33). -/
def execVinShutdown (v : BitVec 16) (s : State) : Host.Outcome State Fault Refusal :=
  .next (
    if 3800 ≤ v.toNat ∧ v.toNat ≤ 6200 then s.vin v.toNat
    else
      let (w, s) := ((s.vin v.toNat).domainsOff).fresh
      s.deviceReset { code := w.toNat % 16, scope := 0 })

/-- VAUX_LOSS (R679, R681). -/
def execVauxLoss (s : State) : Host.Outcome State Fault Refusal := .next s.powerDown

/-- REFERENCE_LOSS (R681): while the PLL takes the reference it loses lock; a device that follows a parent goes on without it, and
its storage ports lose their links. -/
def execReferenceLoss (t : U64) (s : State) : Host.Outcome State Fault Refusal :=
  .next (
    if s.tbState = 0 ∨ s.isGm ∨ s.bit .TB_CFG 0 0 ∨ s.tbState = 3 then s.lockLoss t.toNat
    else ((s.at' t.toNat).modTime (fun x => { x with refLost := true })).storageDown)

/-- A quadrant held in reset by a power fault of one of its domains, and cordoned with reason 9 (R593); what the domain's
memories held is lost. -/
def State.faultQuad (s : State) (q k : Nat) : State :=
  let s := ((s.cordonQuadrant q 9 false).resetQuadLogic q).resetFunc q
  let lose := fun (p : Nat) (c : CoreSt) =>
    if k = 1 then { c with sram := c.sram.filter (fun (e : Nat × Byte) => e.1 < 0x8000000)
                           units := c.units.filter (fun (e : Nat × UnitMeta) => e.1 < 0x200000) }
    else if 4 ≤ k ∧ p % 72 / 18 = k - 4 then { c with sram := [], units := [] }
    else c
  let s := { s with cores := s.cores.map (fun (e : Nat × CoreSt) => if e.1 / 72 = q then (e.1, lose e.1 e.2) else e) }
  s.modQuad q (fun x => { x with heldReset := true, hbm := if k = 0 then [] else x.hbm, hbmBad := if k = 0 then [] else x.hbmBad })

/-- DOMAIN_FAULT (R593). For the always-on domain and for the reason of safe service the spec names nothing: the device is left
without power, and the reason is a free value (DESIGN CHOICE, log entry 35). -/
def execDomainFault (d : Fin 40) (t : U64) (s : State) : Host.Outcome State Fault Refusal :=
  let s := (((s.at' t.toNat).setBit .PWR_DOMAIN_STAT d 2 true).setDomain d 0).alert 4
  .next (
    if d.val < 32 then s.faultQuad (d.val / 8) (d.val % 8)
    else match d.val with
      | 32 => s.powerDown
      | 33 => s.lockLoss t.toNat
      | 34 =>
        let (w, s) := s.fresh
        ((s.safe (w.toNat % 8)).setStage 5).alertPin
      | 38 =>
        let s := (s.modPower (fun x => { x with lost := 38 :: x.lost })).storageDown
        s.each (List.range 4) (fun s q => match (s.quad q).load with
          | some l => if mfStaged l.words then s else s.endLoad q l 0x07 0
          | none => s)
      | 39 => { s.modPower (fun x => { x with lost := 39 :: x.lost }) with trace := { s.trace with mems := [] } }
      | g => s.each (rangeFrom ((g - 35) * 4) 4) (fun s p => s.portOff p t.toNat))

/-! ### The current governor and the power ceiling (R594 to R598) -/

/-- SLEW in units of 1/6,400 A per µs; 0 and values above 9 taken as 9 (R606). -/
def State.slew (s : State) : Nat :=
  let n := s.fld .PWR_GOV_CFG 0 15 8
  64 * (if n = 0 ∨ n > 9 then 9 else n)

/-- GOVERNOR_SAMPLE (R594, R596, R597, R607): the device's own demand in units of 1/6,400 A and the phases' currents in units of
1/64 A. -/
def execGovernorSample (demand : BitVec 24) (phases : List (BitVec 16)) (s : State) : Host.Outcome State Fault Refusal :=
  let d := demand.toNat
  let last := s.power.current
  let begun : Bool := (List.range 4).any (fun q => s.runs q && (s.quad q).begun)
  let aim := if begun then 0 else s.power.target
  let i := if s.bit .PWR_GOV_CFG 0 0 then max (max d (last - s.slew)) (min aim (last + s.slew)) else d
  let ovf : Bool := last + s.slew < d
  let b := i - d
  let calm := if ovf then 0 else s.power.calm + 1
  let rise : Bool := calm = 100
  let s := s.modPower (fun x => { x with
    current := i, ballast := b, target := aim, calm := if rise then 0 else calm
    back := if ovf then min 40 (x.back + 1) else if rise then x.back - 1 else x.back })
  let s := ((s.setFld .PWR_GOV_STAT 0 15 0 (min 0xFFFF (i / 100))).setFld .PWR_GOV_STAT 0 31 16 (min 0xFFFF (b / 100)))
  let s := if b = 0 then s else s.bump .PWR_GOV_STAT 0 63 40 1
  let s := if ovf then s.setBit .PWR_GOV_STAT 0 38 true else s
  let s := s.each ((phases.take 8).zipIdx) (fun s x => s.setFld .PWR_PHASE_I x.2 15 0 x.1.toNat)
  .next (if ovf ∨ rise then s.powerCap else s)

/-- The ceiling in W (R608). -/
def State.ceiling (s : State) : Nat := min 1350 (max 400 (s.fld .PWR_CEIL 0 10 0))

/-- CEILING_COMPARE (R598): the millisecond's average input power in W and the input voltage in units of 10 mV. -/
def execCeilingCompare (watts v : BitVec 16) (s : State) : Host.Outcome State Fault Refusal :=
  let w := watts.toNat
  let c := s.ceiling
  let s := (s.setFld .PWR_IN_STAT 0 31 16 w).vin v.toNat
  .next (
    if w > c then ((s.modPower (fun x => { x with ceil := min 40 (x.ceil + 1), below := 0 })).setBit .PWR_GOV_STAT 0 39 true).powerCap
    else if 100 * w < 95 * c then
      if s.power.below + 1 < 10 then s.modPower (fun x => { x with below := x.below + 1 })
      else (s.modPower (fun x => { x with ceil := x.ceil - 1, below := 0 })).powerCap
    else s.modPower (fun x => { x with below := 0 }))

/-! ### Temperature (R599 to R604, R610, R611) -/

/-- A trip (R603): every domain but the always-on one off, the latch set, and a device cold reset with code 6. -/
def State.trip (s : State) (n : Nat) : State :=
  let s := ((s.domainsOff.setFld .PWR_THERM_STAT 0 5 0 n).setBit .PWR_THERM_STAT 0 6 true).bump .PWR_THERM_STAT 0 31 16 1
  ((s.modPower (fun x => { x with tripped := true, hot := [] })).alert 1).deviceReset { code := 6, scope := 0 }

/-- SENSOR_READING (R599, R603, R604): a signed reading in units of 1/256 °C, or a failed self-check
(DESIGN CHOICE, log entry 50). -/
def execSensorReading (n : Fin 64) (temp : BitVec 16) (valid : Bool) (s : State) : Host.Outcome State Fault Refusal :=
  let x := temp.toInt
  if !valid then
    let s := (s.setBit .PWR_TEMP n 32 false).modPower (fun p => { p with
      hot := p.hot.filter (· ≠ n.val), invalid := if p.invalid.contains n.val then p.invalid else n.val :: p.invalid })
    .next ((s.alert 0).writeCaps)
  else
    let was : Bool := s.power.invalid.contains n.val
    let peak := sext 16 (s.fld .PWR_TEMP n 31 16)
    let s := ((s.setFld .PWR_TEMP n 15 0 temp.toNat).setBit .PWR_TEMP n 32 true).setFld .PWR_TEMP n 31 16
      (if peak < x then temp.toNat else s.fld .PWR_TEMP n 31 16)
    let at' : Bool := match s.throttleAt n with | some l => decide (l ≤ x) | none => false
    let s := (s.setBit .PWR_TEMP n 33 at').modPower (fun p => { p with invalid := p.invalid.filter (· ≠ n.val) })
    let s := if at' ∧ sensorClass n = .optical then s.alert 0 else s
    let s := if was then s.writeCaps else s
    .next (
      if x < tripAt n then s.modPower (fun p => { p with hot := p.hot.filter (· ≠ n.val) })
      else if s.power.hot.contains n.val then s.trip n
      else s.modPower (fun p => { p with hot := n.val :: p.hot }))

/-- THERMAL_CAP_STEP (R601): the step of a scope's cap that its hottest sensor, relative to its limit, calls for. -/
def execThermalCapStep (k : Fin 21) (s : State) : Host.Outcome State Fault Refusal :=
  let ns := (scopeSensors k).filter (fun n => s.bit .PWR_TEMP n 32)
  let ovf := fun (margin : Int) => ns.any (fun n => match s.throttleAt n with | some l => decide (l - margin ≤ s.temp n) | none => false)
  let c := Map.get (α := Nat) s.power.caps k 40
  .next (
    if ns.isEmpty then s
    else if ovf 0 then
      if c = 0 then s
      else (((s.modPower (fun x => { x with caps := Map.set (α := Nat) x.caps k (c - 1) })).bump .PWR_THERM_STAT 0 47 32 1).alert 0).writeCaps
    else if ovf (3 * 256) then s
    else if c = 40 then s
    else (s.modPower (fun x => { x with caps := Map.set (α := Nat) x.caps k (c + 1) })).writeCaps)

/-- TRIP_LATCH_CLEAR (R603): the always-on diodes have read below 80 °C for 10 s. -/
def execTripLatchClear (s : State) : Host.Outcome State Fault Refusal :=
  let cool : Bool := [60, 61, 62, 63].all (fun n => s.bit .PWR_TEMP n 32 && decide (s.temp n < 80 * 256))
  .next (if s.power.tripped && cool then s.modPower (fun x => { x with tripped := false }) else s)

/-- TEMP_PEAK_CLR (R610). -/
def execTempPeakClr (n : Fin 64) (s : State) : Host.Outcome State Fault Refusal :=
  .next (s.setFld .PWR_TEMP n 31 16 (s.fld .PWR_TEMP n 15 0))

/-! ### Low power (R563, R577) -/

/-- A core whose logic loses power while its arrays are kept (R562, R563). -/
def CoreSt.sleepReset (c : CoreSt) : CoreSt :=
  let c := c.reset
  (c.setReg .CLK_CORE_CTRL 0 (BitVec.ofNat 64 Reg.CLK_CORE_CTRL.info.reset)).setReg .CLK_CORE_STAT 0
    (BitVec.ofNat 64 Reg.CLK_CORE_STAT.info.reset)

/-- The domains of a quadrant that sleep turns down: stacked SRAM, serving hub, row-pairs. -/
def sleepDomains (q : Nat) : List Nat := [8 * q + 1, 8 * q + 3, 8 * q + 4, 8 * q + 5, 8 * q + 6, 8 * q + 7]

/-- A quadrant put to sleep, or the entry refused (R563) (DEDUCED, log entry 47). -/
def State.sleepQuad (s : State) (q : Nat) : State :=
  if (s.quad q).asleep then s
  else if s.runs q ∨ s.bit .ING_STAT q 0 then s.setBit .PWR_LP_STAT 0 5 true
  else
    let s := { s with cores := s.cores.map (fun (e : Nat × CoreSt) => if e.1 / 72 = q then (e.1, e.2.sleepReset) else e) }
    let s := (s.each (sleepDomains q) (fun s d => s.setDomain d 3)).modQuad q (fun x => { x with asleep := true })
    (((s.setOpen q false).setBit .PWR_LP_CTRL 0 q true).setBit .PWR_LP_STAT 0 q true).writeCaps

/-- A quadrant woken: its crystal contents are rechecked before a plan is accepted (R562, R563). -/
def State.wakeQuad (s : State) (q : Nat) : State :=
  if !(s.quad q).asleep ∨ s.bit .PWR_LP_STAT 0 4 then s
  else
    let s := (s.each (sleepDomains q) (fun s d => s.setDomain d 2)).modQuad q (fun x => { x with asleep := false, mustCheck := true })
    (s.setBit .PWR_LP_CTRL 0 q false).setBit .PWR_LP_STAT 0 q false

/-- QUADRANT_SLEEP (R563). -/
def execQuadrantSleep (q : Fin 4) (s : State) : Host.Outcome State Fault Refusal := .next (s.sleepQuad q)
/-- QUADRANT_WAKE (R563). -/
def execQuadrantWake (q : Fin 4) (s : State) : Host.Outcome State Fault Refusal := .next (s.wakeQuad q)

/-- The domains deep idle turns off: row-pairs and stacked SRAM, optical groups, storage and echo ports. -/
def deepDomains : List Nat :=
  (List.range 4).flatMap (fun q => [8 * q + 1, 8 * q + 4, 8 * q + 5, 8 * q + 6, 8 * q + 7]) ++ [35, 36, 37, 38, 39]

/-- Deep idle entered, or refused (R562, R563): memories of the cores lost, ports OFF with their ENABLE kept for the exit. -/
def State.deepEnter (s : State) : State :=
  if s.bit .PWR_LP_STAT 0 4 then s
  else if !(List.range 4).all (fun q => (s.quad q).asleep) then s.setBit .PWR_LP_STAT 0 5 true
  else
    let s := s.each (List.range 12) (fun s p =>
      let on := s.bit .LNK_CTRL p 0
      (s.portOff p s.now).setBit .LNK_CTRL p 0 on)
    let s := { s with
      cores := s.cores.map (fun (e : Nat × CoreSt) => (e.1, { e.2.warmReset with sram := [], units := [] }))
      trace := { s.trace with mems := [] } }
    let s := (s.each deepDomains (fun s d => s.setDomain d 0)).storageDown
    (s.setBit .PWR_LP_CTRL 0 4 true).setBit .PWR_LP_STAT 0 4 true

/-- Deep idle left (R563): the domains start, every live crystal shard is refilled from its backing copy, and enabled ports train from
DETECT. A quadrant whose SLEEP bit is still set goes on sleeping. -/
def State.deepExit (s : State) : State :=
  if !s.bit .PWR_LP_STAT 0 4 then s
  else
    let s := s.each deepDomains (fun s d => (s.setDomain d (if d < 32 then 3 else 2)).bump .PWR_DOMAIN_STAT d 31 16 1)
    let s := ((s.setBit .PWR_LP_CTRL 0 4 false).setBit .PWR_LP_STAT 0 4 false).storageUp
    let s := s.each (List.range 4) (fun s q =>
      s.each ((s.quad q).shards.filter (fun r => r.live && mfCrystal r.words)) (fun s r =>
        s.each r.pieces.zipIdx (fun s x => (s.recrystallise q r x.2 x.1 true).1)))
    s.each ((List.range 12).filter (fun p => s.bit .LNK_CTRL p 0)) State.portOn

/-- DEEP_IDLE_ENTER (R563). -/
def execDeepIdleEnter (s : State) : Host.Outcome State Fault Refusal := .next s.deepEnter
/-- DEEP_IDLE_EXIT (R563). -/
def execDeepIdleExit (s : State) : Host.Outcome State Fault Refusal := .next s.deepExit

end Sys2Proof.Machine
end

