-- ==== Sys2Proof/Machine/Reset.lean ====
section
/-! DEFINITION. The commands of resets and of bring-up (R534, R535, R540, R548 to R561, R565 to R568). -/
namespace Sys2Proof.Machine

/-! ### Bring-up (R556 to R561, R567, R568) -/

/-- POWER_ON (R549, R556, R558): the auxiliary input becomes valid with the pin at a voltage in µV. Power-on clears RST_CAUSE, the
boot override and the nonce. -/
def execPowerOn (uv : BitVec 24) (s : State) : Host.Outcome State Fault Refusal :=
  let s := s.powerDown
  .next ((s.modKeeper (fun k => { k with powered := true, cfgUv := uv.toNat })).romBoot)

/-- T0_REACHED (R558): nothing starts while the trip latch is set (R603). -/
def execT0Reached (s : State) : Host.Outcome State Fault Refusal :=
  .next (
    if !s.keeper.powered ∨ s.keeper.t0 ∨ s.power.tripped then s
    else
      let s := ((s.modKeeper (fun k => { k with t0 := true })).domainOn 33).domainOn 34
      s.trainLinks.startKeeper)

/-- The order in which the other 37 domains start (R558). -/
def domainOrder : List Nat := List.range 32 ++ [35, 36, 37, 38, 39]

/-- DOMAIN_START (R213, R558, R592): the next domain of the order, once the keeper runs. At a warm reset the powered
domains keep their memories' contents (R561). -/
def execDomainStart (d : Fin 40) (s : State) : Host.Outcome State Fault Refusal :=
  .next (
    if s.stage ≠ 2 ∨ domainOrder[s.keeper.started]? ≠ some d.val then s
    else
      let s := if s.keeper.warm then s.domainWarm d
        else
          let s := s.domainOn d
          if d.val < 32 ∧ 4 ≤ d.val % 8 then
            { s with cores := s.cores.map (fun (e : Nat × CoreSt) =>
                if e.1 / 72 = d.val / 8 ∧ e.1 % 72 / 18 = d.val % 8 - 4 then (e.1, { e.2 with sram := [], units := [] }) else e) }
          else s
      let s := if d.val = 38 then s.storageUp else s
      let s := s.modKeeper (fun k => { k with started := k.started + 1 })
      if s.keeper.started = 37 then s.setStage 3 else s)

/-- The supervisor image that pairs, from the bank of the boot record and then the other (R568). -/
def State.findSup (s : State) (keeper : List Byte) : Option (Nat × List Byte) :=
  let first := match s.keeper.flash.boot.use with
    | some b => b.sup
    | none => bootSource (s.fld .KPR_BOOT 0 3 0) % 2
  ([first, 1 - first].find? (fun b => let i := s.keeper.flash.image 1 b; s.imageValid 2 i && pairs keeper i)).map
    (fun b => (b, imgWhole (s.keeper.flash.image 1 b)))

/-- HBM_TRAINED (R558, R568, R569): the supervisor image is verified and paired, and STAGE reads READY, or safe service begins. -/
def execHbmTrained (s : State) : Host.Outcome State Fault Refusal :=
  .next (
    match s.keeper.image with
    | none => s
    | some k =>
      if s.stage ≠ 3 then s
      else match s.findSup k with
        | some (b, i) =>
          let s := (s.setFld .KPR_BOOT 0 7 7 b).setFld .KPR_FW_VER 0 63 32 (imgVersion i)
          let s := s.modKeeper (fun x => { x with supImage := some i })
          s.setStage (if s.bit .KPR_FW_STAT 0 22 then 5 else 4)
        | none =>
          let some' : Bool := [0, 1].any (fun b => s.imageValid 2 (s.keeper.flash.image 1 b))
          let s := if s.bit .KPR_FW_STAT 0 22 then s else s.safe (if some' then 1 else 2)
          (s.setStage 5).alertPin)

/-- Does the ROM wait for an image (R567). -/
def State.romWaits (s : State) : Bool := s.keeper.powered && s.keeper.image.isNone && decide (s.stage ≤ 1)

/-- An image brought to the waiting ROM: run when valid, else ROM recovery (R567). -/
def State.bringImage (s : State) (img : List Byte) : State :=
  if s.imageValid 1 img then (s.modKeeper (fun k => { k with image := some (imgWhole img) })).startKeeper
  else s.setStage 1

/-- HOST_LOADED_IMAGE_WRITE (R567): one aligned 8-byte write into the 4 MiB window, kept while the ROM waits. -/
def execHostLoadedImageWrite (i : Fin 524288) (val : U64) (s : State) : Host.Outcome State Fault Refusal :=
  .next (if s.romWaits then s.modKeeper (fun k => { k with window := k.window.writeN (8 * i.val) (leBytes 8 val.toNat) }) else s)

/-- LOAD_GO (R567, R576). -/
def State.loadGo (s : State) : State :=
  if s.romWaits && s.keeper.t0 then
    let len := 256 + ofLe (s.keeper.window.readN 16 4)
    s.bringImage (s.keeper.window.readN 0 (min len 0x400000))
  else s

/-- LOAD_GO (R567, R576). -/
def execLoadGo (s : State) : Host.Outcome State Fault Refusal := .next s.loadGo

/-- NETWORK_BOOT_RETRY (R567): storage target 15 is read on port 0 and then on port 1; what each read brought is an operand. -/
def execNetworkBootRetry (port0 port1 : Option (List Byte)) (s : State) : Host.Outcome State Fault Refusal :=
  .next (
    if !s.romWaits ∨ s.fld .KPR_BOOT 0 5 4 ≠ 3 ∨ !s.keeper.t0 then s
    else
      let s := s.sendRead 0 15 (s.openPair 15) 0 0 0x400000
      match port0 with
      | some b => s.bringImage b
      | none =>
        let s := s.sendRead 1 15 (s.openPair 15) 0 0 0x400000
        match port1 with
        | some b => s.bringImage b
        | none => s.setStage 1)

/-! ### Device and quadrant resets (R549 to R553, R575) -/

/-- SYS_RST_N (R551): a low pulse of some nanoseconds; between 1 µs and 2 µs it is either ignored or acted on
(DESIGN CHOICE, log entry 48). -/
def execSysRstN (ns : BitVec 32) (s : State) : Host.Outcome State Fault Refusal :=
  let go : ResetReq := { code := 2, scope := 0 }
  .next (
    if ns.toNat < 1000 then s
    else if 2000 ≤ ns.toNat then s.deviceReset go
    else
      let (w, s) := s.fresh
      if bitAt w 0 then s.deviceReset go else s)

/-- KEEPER_WATCHDOG (R549): suspended while the keeper restarts for a live update (R555). -/
def execKeeperWatchdog (s : State) : Host.Outcome State Fault Refusal :=
  .next (if s.restarting then s else s.deviceReset { code := 5, scope := 1 })

/-- DEVICE_COLD_RESET (R575). -/
def execDeviceColdReset (s : State) : Host.Outcome State Fault Refusal := .next (s.deviceReset { code := 8, scope := 0 })
/-- DEVICE_WARM_RESET (R575). -/
def execDeviceWarmReset (s : State) : Host.Outcome State Fault Refusal := .next (s.deviceReset { code := 8, scope := 1 })
/-- QUADRANT_RESET (R575). -/
def execQuadrantReset (mask : BitVec 4) (s : State) : Host.Outcome State Fault Refusal :=
  .next (s.quadrantReset 8 mask.toNat (maskQuads mask.toNat))

/-- REMOTE_RESET (R553): acted on when every condition holds; any other message is discarded with a notice, whose code and
arguments the spec does not give: they are free values (DESIGN CHOICE, log entry 34). -/
def execRemoteReset (msg : List Byte) (t : U64) (s : State) : Host.Outcome State Fault Refusal :=
  let s := s.at' t.toNat
  let at' := fun (a n : Nat) => ofLe ((msg.drop a).take n)
  let nonce := at' 8 8
  let key := match s.keeper.flash.install.use with | some x => x.resetKey | none => []
  let fresh' : Bool := match s.keeper.nonce with | some n => decide (n < nonce) | none => true
  let scope := at' 4 1
  let near : Bool := decide (nonce ≤ s.now + 2 ^ 30 ∧ s.now ≤ nonce + 2 ^ 30)
  .next (
    if msg.length = 128 ∧ (scope = 1 ∨ scope = 2) ∧ ecdsaOk key (msg.drop 32) (sha384 (msg.take 32)) ∧ at' 0 4 % 2 ^ 20 = s.globalId ∧
        s.tbState = 2 ∧ near ∧ fresh' then
      let s := s.modKeeper (fun k => { k with nonce := some nonce })
      if scope = 1 then s.deviceReset { code := 10, scope := 1 }
      else s.quadrantReset 10 (at' 5 1 % 16) (maskQuads (at' 5 1))
    else
      let (a, s) := s.fresh
      let (b, s) := s.fresh
      let (c, s) := s.fresh
      s.notice none (a.toNat % 256) b.toNat c.toNat)

/-! ### Block resets (R554, R575) -/

/-- The quadrant of a block reset that a running plan refuses, for blocks 0, 4 and 6. -/
def blockQuad (b i : Nat) : Option Nat :=
  if b = 0 then some (i / 72) else if b = 4 ∨ b = 6 then some i else none
/-- Units of a block. -/
def blockUnits (b : Nat) : Nat := [288, 12, 2, 4, 4, 1, 4].getD b 0

/-- A block reset asked for (R554): refused while one runs, for a unit that does not exist, and on a running quadrant. -/
def State.blockStart (s : State) (b i timeout : Nat) : State :=
  let no : Bool := match blockQuad b i with | some q => s.runs q | none => false
  if s.keeper.block.isSome ∨ blockUnits b ≤ i ∨ no then s.setBit .RST_BLOCK 0 16 true
  else
    let s := ((s.setFld .RST_BLOCK 0 3 0 b).setFld .RST_BLOCK 0 12 4 i).setFld .RST_BLOCK 0 47 32 timeout
    let s := (s.setBit .RST_BLOCK 0 14 true).modKeeper (fun k => { k with block := some (b, i) })
    match b with
    | 0 => s.modCore i CoreSt.stop
    | 1 => s.portOff i s.now
    | 5 => s.setFld .ECHO_STAT 0 5 2 0xF
    | _ => s

/-- Is a block idle (R554). -/
def State.blockIdle (s : State) (b i : Nat) : Bool :=
  match b with
  | 0 =>
    let c := s.core i
    (match c.seq.run with | .stopped | .faulted => true | _ => false) && c.queues.all (fun q => q.2.ents.isEmpty)
  | 1 => decide (s.linkState i = 0)
  | 2 => (List.range 4).all (fun q => match (s.quad q).load with
      | some l => decide (l.port ≠ i) || l.outst.isEmpty
      | none => true)
  | 3 => !s.bit .ING_STAT i 0
  | _ => true

/-- The block reset and released (R554, R562): its registers, queues and counters only. -/
def State.blockDo (s : State) (b i : Nat) (forced : Bool) : State :=
  let s := s.noteReset 8 (if b = 0 then 3 else 4) 0 false false
  let s := if forced then s.setBit .RST_BLOCK 0 15 true else s
  let s := (s.setBit .RST_BLOCK 0 14 false).modKeeper (fun k => { k with block := none })
  match b with
  | 0 => (s.cutSlowOut i).modCore i CoreSt.reset
  | 1 => { s.clearRegs (fun r n => decide (portOf r n = some i)) with ports := Map.del (α := PortSt) s.ports i }
  | 2 =>
    let up := s.bit .ING_PORT_STAT i 0
    (s.clearRegs (fun r n => (r = .ING_PORT_IP && n / 2 = i) || ((r = .ING_PORT_VLAN || r = .ING_PORT_STAT) && n = i))).setBit .ING_PORT_STAT i 0 up
  | 3 =>
    let s := match (s.quad i).load with
      | some l => s.endLoad i l 0x0D 0
      | none => s
    (s.modQuad i (fun x => { x with recheck := none, recheckDue := false, recheckAt := none })).clearRegs (fun r n =>
      (r = .ING_CTRL || r = .ING_RECHECK || r = .ING_STAT || r = .ING_STAGE) && n = i)
  | 4 => s.modQuad i (fun x => { x with slots := x.slots.map (fun (e : Nat × SlotSt) => (e.1, { e.2 with gate := [] })) })
  | 5 => { s.clearRegs (fun r _ => r = .ECHO_CTRL || r = .ECHO_TRIG || r = .ECHO_STAT || r = .ECHO_TRIG_AT || r = .ECHO_DROP) with
           trace := { s.trace with mems := [], frameNo := 0, turn := 3 } }
  | _ => s.clearRegs (fun r n =>
      (r = .QD_HBM_RD_WIN || r = .QD_HBM_WR_WIN || r = .QD_HBM_STAT || r = .QD_HBM_ERR) && n = i || r = .QD_HBM_SLOT && n / 512 = i)

/-- BLOCK_RESET (R554, R575). -/
def execBlockReset (block : BitVec 4) (index : BitVec 9) (timeout : BitVec 16) (s : State) : Host.Outcome State Fault Refusal :=
  .next (s.blockStart block.toNat index.toNat timeout.toNat)

/-- BLOCK_IDLE (R554). -/
def execBlockIdle (s : State) : Host.Outcome State Fault Refusal :=
  .next (match s.keeper.block with
    | some (b, i) => if s.blockIdle b i then s.blockDo b i false else s
    | none => s)

/-- BLOCK_RESET_TIMEOUT (R554): forced unless the block is idle by then. -/
def execBlockResetTimeout (s : State) : Host.Outcome State Fault Refusal :=
  .next (match s.keeper.block with
    | some (b, i) => s.blockDo b i (!s.blockIdle b i)
    | none => s)

/-! ### The host interface's resets and enables (R534, R535, R540, R549, R559) -/

/-- HIF_CTRL written (R540): ENABLE cleared under a running plan is ignored; ENABLE set needs valid ring sizes. The command rings
begin at count 0 (R517). -/
def State.writeHifCtrl (s : State) (f : Nat) (val : U64) : State :=
  let was := s.bit .HIF_CTRL f 0
  let on := bitAt val 0
  if was ∧ !on ∧ f < 4 ∧ s.runs f then s.setBit .HIF_STAT f 2 true
  else
    let s := s.setFld .HIF_CTRL f 7 1 (bitsOf val 7 1)
    if was = on then s
    else if on then
      if ringSizeOk (s.sqSize f) && ringSizeOk (s.cqSize f) then
        let s := (s.setBit .HIF_CTRL f 0 true).setBit .HIF_STAT f 0 true
        s.modFunc f (fun x => { x with sqCount := 0, cqCount := 0, cqHost := 0, queue := [], reserved := 0, fetched := [] })
      else s.setBit .HIF_STAT f 2 true
    else
      ((s.setBit .HIF_CTRL f 0 false).setBit .HIF_STAT f 0 false).modFunc f (fun x => { x with queue := [], reserved := 0, fetched := [] })

/-- FUNCTION_ENABLE (R540). -/
def execFunctionEnable (f : Fin 5) (s : State) : Host.Outcome State Fault Refusal :=
  .next (s.writeHifCtrl f (s.reg .HIF_CTRL f ||| 1))
/-- FUNCTION_DISABLE (R540). -/
def execFunctionDisable (f : Fin 5) (s : State) : Host.Outcome State Fault Refusal :=
  .next (s.writeHifCtrl f (s.reg .HIF_CTRL f &&& ~~~1))

/-- HOST_REQUEST_ERROR (R534). -/
def execHostRequestError (f : Fin 5) (s : State) : Host.Outcome State Fault Refusal := .next (s.setBit .HIF_STAT f 1 true)

/-- FUNCTION_LEVEL_RESET (R535, R549). -/
def execFunctionLevelReset (f : Fin 5) (s : State) : Host.Outcome State Fault Refusal :=
  .next (if f.val = 4 then s.resetFunc 4 else s.quadrantReset 4 (2 ^ f.val) [f.val])

/-- PERST (R535, R549, R555): PERST#, a hot reset or link down on link i. During the device's own bring-up only the functions are reset
(DEDUCED, log entry 49). -/
def execPerst (link : Fin 4) (s : State) : Host.Outcome State Fault Refusal :=
  let fs := linkFuncs (pcieLinks (s.fld .KPR_BOOT 0 3 0)) link
  let s := (s.setReg .HIF_LINK_STAT link 0).modKeeper (fun k => { k with links := Map.del (α := Nat) k.links link })
  let s := if fs.contains 4 then s.resetFunc 4 else s
  let qs := fs.filter (fun f => decide (f < 4))
  .next (if s.stage < 3 then s.each qs State.resetFunc else s.quadrantReset 3 link qs)

/-- PERST_RELEASE (R513, R559, R681): the rate code, width in lanes and FLIT that training reaches; a link trains once the host
interface domain runs. -/
def execPerstRelease (link : Fin 4) (rate : Fin 7) (width : Fin 17) (flit : Bool) (s : State) : Host.Outcome State Fault Refusal :=
  let v := 1 + rate.val * 2 + width.val * 16 + (if flit then 512 else 0)
  let s := s.modKeeper (fun k => { k with links := Map.set (α := Nat) k.links link v })
  .next (if s.keeper.t0 ∧ link.val < pcieLinks (s.fld .KPR_BOOT 0 3 0) then s.setReg .HIF_LINK_STAT link (BitVec.ofNat 64 v) else s)

end Sys2Proof.Machine
end

