-- ==== Sys2Proof/Machine/Firmware.lean ====
section
/-! DEFINITION. Firmware commands and updates in service (R546, R552, R565 to R573). -/
namespace Sys2Proof.Machine

/-! ### Flash operations (R546, R552, R571) -/

/-- The bank a kind was booted from (0 keeper, 1 supervisor): KEEPER_BANK and SUP_BANK (R576). -/
def State.bootBank (s : State) (kind : Nat) : Nat := s.fld .KPR_BOOT 0 (6 + kind) (6 + kind)
/-- The staged image of a kind, in the bank not booted. -/
def State.staged (s : State) (kind : Nat) : List Byte := s.keeper.flash.image kind (1 - s.bootBank kind)
/-- STAGED_K and STAGED_S. -/
def State.isStaged (s : State) (kind : Nat) : Bool := s.bit .KPR_FW_STAT 0 (26 + kind)

/-- The end of a live update's command: LIVE_BUSY reads 0. -/
def State.endLive (s : State) : State := (s.setBit .KPR_FW_STAT 0 28 false).modKeeper (fun k => { k with live := none })

/-- A live keeper update remains after the supervisors have changed (R573). -/
def State.keeperNext (s : State) : Bool :=
  match s.keeper.live with | some x => x.keeper && !x.sup | none => false

/-- A flash operation that ended with its data in place, or failed (R571). A live update of both kinds goes on with the keeper. -/
def State.flashEnd (s : State) (o : FlashOp) (ok : Bool) : State :=
  let s := s.modKeeper (fun k => { k with flashOp := none })
  let s := if ok then s else s.modFlash (fun f => f.breakOff o)
  match o with
  | .image kind bank bytes cid tag =>
    if ok then ((s.modFlash (fun f => f.setImage kind bank bytes)).setBit .KPR_FW_STAT 0 (26 + kind) true).answer 4 1 0 cid tag 0 0
    else s.answer 4 1 0x55 cid tag 0 0
  | .record r cid tag =>
    let s := if ok then s.modFlash (fun f => { f with boot := f.boot.put r }) else s
    if ok && s.keeperNext then s
    else (s.endLive).answer 4 1 (if ok then 0 else 0x55) cid tag 0 0

/-- FLASH_OPERATION_DONE (R552, R571): the operation ends, well or not; a reset held behind it breaks it off and takes effect. -/
def execFlashOperationDone (ok : Bool) (s : State) : Host.Outcome State Fault Refusal :=
  .next (match s.keeper.flashOp, s.keeper.held with
    | none, _ => s
    | some o, none => s.flashEnd o ok
    | some o, some r =>
      let many := s.keeper.heldMany
      ((s.modFlash (fun f => f.breakOff o)).modKeeper (fun k => { k with flashOp := none, held := none, heldMany := false })).applyReset
        r many true)

/-! ### FW_STAGE, FW_ACTIVATE and FW_COMMIT (R570, R571) -/

/-- A management command's completion with a status (R571, R631). -/
def State.doneM (s : State) (status : Nat) (ws : List U64) : State := s.answer 4 1 status (cmdCid ws) (cmdTag ws) 0 0

/-- FW_STAGE with the image as host memory holds it (R571) (DEDUCED, log entry 51). -/
def State.fwStage (s : State) (ws : List U64) (image : Option (List Byte)) : State :=
  if !cmdOk ws [2 ^ 64 - 4096, 2 ^ 32 - 1] then s.doneM 0x31 ws
  else match image with
    | none => s.doneM 0x50 ws
    | some b =>
      let img := b.take (wf ws 2 31 0)
      let kind := imgField img 4 1
      let st := if kind = 1 ∨ kind = 2 then imageStatus s.svnFuse kind img else 0x50
      if st ≠ 0 then s.doneM st ws
      else
        let k := kind - 1
        (s.setBit .KPR_FW_STAT 0 (26 + k) false).modKeeper (fun x =>
          { x with flashOp := some (.image k (1 - s.bootBank k) (imgWhole img) (cmdCid ws) (cmdTag ws)) })

/-- FW_STAGE (R571): taken once no other flash operation runs. -/
def execFwStage (entry : Entry) (image : Option (List Byte)) (s : State) : Host.Outcome State Fault Refusal :=
  .next (if s.keeper.flashOp.isSome ∨ s.restarting then s
    else s.asLoad 4 (entryWords entry) (fun s => s.fwStage (entryWords entry) image))

/-- The keeper image a set of named kinds leaves: the staged one, or the running one. -/
def State.nextKeeper (s : State) (named : Bool) : List Byte := if named then s.staged 0 else s.keeper.image.getD []
/-- The supervisor image likewise; with none running, the one its bank holds. -/
def State.nextSup (s : State) (named : Bool) : List Byte :=
  if named then s.staged 1 else s.keeper.supImage.getD (s.keeper.flash.image 1 (s.bootBank 1))

/-- Is a live update refused (R572): a repair or replacement, a switch or restart pending, or a running variant with E below 8,192 drips. -/
def State.liveBlocked (s : State) : Bool :=
  (List.range 4).any (fun q =>
    s.bit .QD_RECOVERY q 0 || s.bit .QD_RECOVERY q 2 || s.bit .QD_VARIANT q 7 || (s.quad q).notice.isSome || (s.quad q).restart.isSome ||
    (s.runs q && (match s.variant q with | some v => decide (v.epochLen < 8192) | none => false)))

/-- The boot record that a set of named kinds gives (R546, R571): their staged banks, the others as before. -/
def State.bootWith (s : State) (k p : Bool) : BootRec :=
  let old := s.keeper.flash.boot.use.getD { keeper := s.bootBank 0, sup := s.bootBank 1 }
  { keeper := if k then 1 - s.bootBank 0 else old.keeper, sup := if p then 1 - s.bootBank 1 else old.sup }

/-- FW_ACTIVATE (R571 to R573) (DEDUCED, log entry 52). -/
def State.fwActivate (s : State) (ws : List U64) : State :=
  let k := bitAt (wordAt ws 1) 0
  let p := bitAt (wordAt ws 1) 1
  let lv := bitAt (wordAt ws 1) 2
  let ki := s.nextKeeper k
  let si := s.nextSup p
  if !cmdOk ws [7] ∨ (!k ∧ !p) then s.doneM 0x31 ws
  else if (k ∧ !s.isStaged 0) ∨ (p ∧ !s.isStaged 1) then s.doneM 0x56 ws
  else if lv ∧ ((k ∧ imgGen ki ≠ s.fld .KPR_FW_STAT 0 15 0) ∨ (p ∧ imgGen si ≠ s.fld .KPR_FW_STAT 0 15 0)) then s.doneM 0x53 ws
  else if !pairs ki si then s.doneM 0x52 ws
  else if !lv then s.modKeeper (fun x => { x with flashOp := some (.record (s.bootWith k p) (cmdCid ws) (cmdTag ws)) })
  else if s.liveBlocked ∨ s.keeper.live.isSome then s.doneM 0x54 ws
  else (s.setBit .KPR_FW_STAT 0 28 true).modKeeper (fun x => { x with live := some { sup := p, keeper := k, cid := cmdCid ws, tag := cmdTag ws } })

/-- FW_ACTIVATE (R571): taken once no other flash operation runs. -/
def execFwActivate (entry : Entry) (s : State) : Host.Outcome State Fault Refusal :=
  .next (if s.keeper.flashOp.isSome ∨ s.restarting then s else s.asLoad 4 (entryWords entry) (fun s => s.fwActivate (entryWords entry)))

/-- FW_COMMIT (R570). The spec gives no status to its refusal in safe service: it is a free value. -/
def State.fwCommit (s : State) (ws : List U64) : State :=
  if !cmdOk ws [] then s.doneM 0x31 ws
  else if s.bit .KPR_FW_STAT 0 22 then
    let (w, s) := s.fresh
    s.doneM (w.toNat % 256) ws
  else
    let svn := min (imgSvn (s.keeper.image.getD [])) (imgSvn (s.keeper.supImage.getD []))
    (s.setFld .KPR_FW_STAT 0 21 16 (max s.svnFuse svn)).doneM 0 ws

/-- FW_COMMIT (R570). -/
def execFwCommit (entry : Entry) (s : State) : Host.Outcome State Fault Refusal :=
  .next (if s.restarting then s else s.withPlaces 4 (entryWords entry) (fun s => s.fwCommit (entryWords entry)))

/-! ### Updating in service (R572, R573) -/

/-- The lowest switch epoch a live supervisor update may choose: 2 above the epoch running on every quadrant. -/
def State.bankEpoch (s : State) : Nat := maxL ((List.range 4).map (fun q => if s.runs q then s.epoch q + 2 else 0))

/-- LIVE_SUPERVISOR_UPDATE (R572): the load into the second banks completes and the keeper chooses kf, the epoch asked for or the first
it may be. -/
def execLiveSupervisorUpdate (kf : U64) (s : State) : Host.Outcome State Fault Refusal :=
  .next (match s.keeper.live with
    | some x => if x.sup ∧ x.kf = none then s.modKeeper (fun k => { k with live := some { x with kf := some (max kf.toNat s.bankEpoch) } }) else s
    | none => s)

/-- Every supervisor has changed bank: the new image runs, and SUP_BANK is written last (R572). -/
def State.supsChanged (s : State) (x : LiveSt) : State :=
  let img := s.staged 1
  let r := s.bootWith false true
  let b := 1 - s.bootBank 1
  let s := ((s.setFld .KPR_BOOT 0 7 7 b).setFld .KPR_FW_VER 0 63 32 (imgVersion img)).setBit .KPR_FW_STAT 0 27 false
  s.modKeeper (fun k => { k with supImage := some img, live := some { x with sup := false }, flashOp := some (.record r x.cid x.tag) })

/-- A supervisor changes bank (R572): at kf's snapshot, or at an idle poll when its quadrant runs no plan. -/
def State.bankChange (s : State) (q : Nat) : State :=
  match s.keeper.live with
  | none => s
  | some x => match x.kf with
    | none => s
    | some kf =>
      if !x.sup ∨ x.changed.contains q ∨ (s.runs q ∧ s.epoch q < kf) then s
      else
        let x := { x with changed := x.changed ++ [q] }
        if (List.range 4).all x.changed.contains then s.supsChanged x else s.modKeeper (fun k => { k with live := some x })

/-- SUPERVISOR_BANK_CHANGE (R572). -/
def execSupervisorBankChange (q : Fin 4) (s : State) : Host.Outcome State Fault Refusal := .next (s.bankChange q)

/-- Is this keeper its own partition master, or in no partition (DEDUCED, log entry 53). -/
def State.ownMaster (s : State) : Bool := (List.range 4).all (fun q => (s.quad q).plan.isNone || (s.quad q).master)

/-- Does the master's keeper grant an update window at drip t (R573): no keeper barrier open, and no other window. -/
def State.mayGrant (s : State) (t : Nat) : Bool :=
  !s.bit .TB_SNAP_STAT 0 6 && s.time.arrived.isEmpty && s.time.release.isNone && decide (s.keeper.window' ≤ t)

/-- The grant or refusal of an update window as it reaches the keeper that asked (R573); a hang report in progress ends with the records
it has (R636). -/
def State.takeGrant (s : State) (granted : Bool) : State :=
  match s.keeper.live with
  | some x =>
    if !x.asked ∨ x.restart then s
    else if granted ∧ !s.liveBlocked then (s.hangCut).modKeeper (fun k => { k with live := some { x with restart := true } })
    else (s.endLive).answer 4 1 0x54 x.cid x.tag 0 0
  | none => s

/-- LIVE_KEEPER_UPDATE (R573): the keeper asks the partition master's keeper for a window; a keeper that is its own master decides at
once. -/
def execLiveKeeperUpdate (t : U64) (s : State) : Host.Outcome State Fault Refusal :=
  let s := s.at' t.toNat
  .next (match s.keeper.live with
    | some x =>
      if !x.keeper ∨ x.sup ∨ x.asked ∨ s.keeper.flashOp.isSome then s
      else
        let s := s.modKeeper (fun k => { k with live := some { x with asked := true } })
        if s.ownMaster then
          let ok := s.mayGrant t.toNat
          let s := if ok then s.modKeeper (fun k => { k with window' := t.toNat + 1000000000 }) else s
          s.takeGrant ok
        else s.send (.message 20 [s.globalId])
    | none => s)

/-- UPDATE_WINDOW_REQUEST (R573): a member's request reaches this keeper as partition master. -/
def execUpdateWindowRequest (id : BitVec 20) (t : U64) (s : State) : Host.Outcome State Fault Refusal :=
  let s := s.at' t.toNat
  .next (
    if (List.range 4).all (fun q => !(s.quad q).master) ∨ s.restarting then s
    else
      let ok := s.mayGrant t.toNat
      let s := if ok then s.modKeeper (fun k => { k with window' := t.toNat + 1000000000 }) else s
      s.send (.message 21 [id.toNat, if ok then 1 else 0]))

/-- UPDATE_WINDOW_GRANT (R573). -/
def execUpdateWindowGrant (granted : Bool) (s : State) : Host.Outcome State Fault Refusal := .next (s.takeGrant granted)

/-- A cordon that fell due during the restart (R573). -/
def State.applyCordon (s : State) (c : Nat × Nat × Nat × Bool) : State :=
  match c.1 with
  | 0 => s.cordonCore c.2.1 c.2.2.1 c.2.2.2
  | 1 => s.cordonPort c.2.1 c.2.2.1 s.now c.2.2.2
  | _ => s.cordonQuadrant c.2.1 c.2.2.1 c.2.2.2

/-- LIVE_KEEPER_RESTART_DONE (R573): the new image runs, KEEPER_BANK is written and cordons that fell due take effect. -/
def State.restartDone (s : State) : State :=
  match s.keeper.live with
  | none => s
  | some x =>
    if !x.restart then s
    else
      let img := s.staged 0
      let r := s.bootWith true false
      let s := ((s.setFld .KPR_BOOT 0 6 6 (1 - s.bootBank 0)).setFld .KPR_FW_VER 0 31 0 (imgVersion img)).setBit .KPR_FW_STAT 0 26 false
      let due := s.keeper.due
      let s := s.modKeeper (fun k => { k with
        image := some img, due := [], live := some { x with keeper := false, restart := false }
        flashOp := some (.record r x.cid x.tag), window' := if s.ownMaster then 0 else k.window' })
      s.each due State.applyCordon

/-- LIVE_KEEPER_RESTART_DONE (R573). -/
def execLiveKeeperRestartDone (s : State) : Host.Outcome State Fault Refusal := .next s.restartDone

end Sys2Proof.Machine
end

