-- ==== Sys2Proof/Machine/View.lean ====
section
/-! DEFINITION. What a read of a register returns (R13, R613 to R616): the stored value, or the value the state gives a register that
shows it (queues, slots, rings, counts). -/
namespace Sys2Proof.Machine

/-- A bit as a number. -/
def bitN (b : Bool) (k : Nat) : Nat := if b then 2 ^ k else 0

/-- WAIT_KIND (R84). -/
def Wait.kind : Wait → Nat
  | .launch => 0
  | .drip _ => 0
  | .queue _ _ => 1
  | .event _ _ => 2
  | .pushFull _ => 3
  | .pushClaims _ => 4
  | .pushRefused _ => 5

/-- SEQ_STATUS (R84): FAULT, CODE and WDOG_FIRED are stored. -/
def CoreSt.viewStatus (c : CoreSt) : Nat :=
  let st := match c.seq.run with | .stopped => 0 | .issuing => 1 | .waiting _ => 2 | .faulted => 3
  let wk := match c.seq.run with | .waiting w => w.kind | _ => 0
  st + bitN c.seq.frameOpen 2 + bitN c.seq.asActive 3 + c.seq.loops.length * 16 +
  ((c.reg .SEQ_STATUS 0).toNat &&& 0x1FF80) + wk * 2 ^ 17

/-- CORE_QUEUE_STAT of queue k (R126). -/
def CoreSt.viewQueue (c : CoreSt) (k : Nat) : Nat :=
  let x := c.queue k
  let ex := (x.ents.filter (fun e => e.st = .executing)).length
  x.ents.length + ex % 4 * 16 + bitN (c.headWaits k) 6 + bitN x.halted 7 + x.completed * 2 ^ 16

/-- CORE_MX_ANCHOR (R159). -/
def CoreSt.viewAnchor (c : CoreSt) (i : Nat) : Nat :=
  (List.range 4).foldl (fun n j => n + (Map.get (α := Int) c.anchors (4 * i + j) 0 % 65536).toNat * 2 ^ (16 * j)) 0

/-- A core's register as a read returns it; `i` counts within the core. A counter of cycles or of rows (R613) is a free value while it
counts, and SB_WAIT_CYCLES while a head waits (log entry 104): the model has no cycles. -/
def CoreSt.view (c : CoreSt) (r : Reg) (i : Nat) (free : U64) : U64 :=
  match r with
  | .SEQ_STATUS => BitVec.ofNat 64 c.viewStatus
  | .SB_STATUS => BitVec.ofNat 64 (c.claimsUsed + c.fld .SB_STATUS 0 14 8 * 2 ^ 8 +
      bitN (match c.seq.run with | .waiting (.pushRefused _) => true | _ => false) 16)
  | .CORE_QUEUE_STAT => BitVec.ofNat 64 (c.viewQueue i)
  | .CORE_MX_STAT => putBits (c.reg r i) 11 8 ((List.range 4).foldl (fun n k => n + bitN (c.slot k).isOpen k) 0)
  | .CORE_VX_STAT => putBits (c.reg r i) 47 16 (c.queue 1).completed
  | .CORE_MX_ANCHOR => BitVec.ofNat 64 (c.viewAnchor i)
  | .CORE_PMC =>
    let w := c.reg .CORE_PMC_SEL i
    if bitAt w 12 ∧ [0x01, 0x02, 0x04, 0x05, 0x06, 0x07, 0x08, 0x0A, 0x0B, 0x0C, 0x0D, 0x10, 0x11].contains (bitsOf w 7 0) then free
    else BitVec.ofNat 64 (Map.get (α := Nat) c.pmc i 0)
  | .CORE_QUEUE_CTRL => 0
  | .SB_WAIT_CYCLES => if c.someWaits then c.reg r i + free else c.reg r i
  | _ => c.reg r i

/-- HUB_SEQ_STAT (R308): ROW reads 0, its reset value, while the slot is FREE (DESIGN CHOICE, log entry 130). -/
def SlotSt.viewStat (t : SlotSt) : Nat :=
  t.state + bitN t.inStep 3 + t.hold * 16 + t.dclass * 2 ^ 8 + t.account * 2 ^ 10 +
  (if t.state = 0 then 0 else t.row.getD 0xFF) * 2 ^ 23 + bitN t.inClosed 31 +
  (t.inRing.getD 0) * 2 ^ 32 + (t.outRing.getD 0) * 2 ^ 40 + min t.held 65535 * 2 ^ 48

/-- A device or quadrant register as a read returns it, by device-wide index. -/
def State.viewReg (s : State) (r : Reg) (i : Nat) : U64 :=
  let slot := (s.quad (i / 128)).slot (i % 128)
  match r with
  | .HIF_STAT => putBits (s.reg r i) 43 32 (s.func i).placesFree
  | .HIF_RING => match Map.find (α := Ring) (s.func (i / 256)).rings (i % 256) with
    | some x => BitVec.ofNat 64 (1 + bitN x.output 1 + bitN x.bound.isSome 2 + x.bound.getD 0 * 8 + x.vector * 2 ^ 10 + x.size * 2 ^ 16)
    | none => 0
  | .QD_HBM_SLOT => (List.range 8).foldl (fun (w : U64) b =>
      if controllerSlot (8 * (i % 512) + b) then putBits w (8 * b + 7) (8 * b + 6) 2 else w) (s.reg r i)
  | .ADM_STAT => putBits (s.reg r i) 10 0 (s.quad i).adm.length
  | .HUB_SEQ_STAT => BitVec.ofNat 64 slot.viewStat
  | .HUB_SEQ_POS => BitVec.ofNat 64 (slot.pos % 2 ^ 24 + slot.left % 2 ^ 24 * 2 ^ 24)
  | .HUB_SEQ_STEP => BitVec.ofNat 64 slot.step
  | .HUB_SEQ_FRAME => BitVec.ofNat 64 slot.frame
  | .SMP_SEQ_STAT => BitVec.ofNat 64 (slot.counts.length + bitN slot.full 13 + slot.log.length * 2 ^ 14 + bitN slot.cut.isSome 27)
  | .SMP_SEQ_EVICT => BitVec.ofNat 64 slot.evict
  | .TB_COUNT => BitVec.ofNat 64 s.now
  | .ADM_RETURN | .TB_SNAP_CTRL | .KPR_CORDON_CMD | .RST_CMD => 0
  | _ => s.reg r i

/-- A read of instance i of a register by its device-wide index (R655): a core's registers by virtual core id, `perCore` instances to
a core; those of an id that names no core read 0. -/
def State.readReg (s : State) (r : Reg) (i : Nat) : U64 × State :=
  let n := r.info.perCore
  if n = 0 then (s.viewReg r i, s)
  else match s.vcore (i / n) with
    | none => (0, s)
    | some c =>
      if r = .CORE_PMC ∨ r = .SB_WAIT_CYCLES then
        let (w, s) := s.fresh
        (c.view r (i % n) w, s)
      else (c.view r (i % n) 0, s)

end Sys2Proof.Machine
end

