-- ==== Sys2Proof/Machine/TraceOps.lean ====
section
/-! DEFINITION. Shared operations of the echo trace (R618 to R625): trace memories, gap markers, trigger, windows, frames. -/
namespace Sys2Proof.Machine

/-- Places of a trace memory (R618). -/
def tracePlaces : Nat := 131072
/-- Places of a record: two for the 64 bytes of a telemetry record (R616). -/
def TraceEnt.places (e : TraceEnt) : Nat := e.words.length / 4
/-- Places of some records. -/
def placesIn (l : List TraceEnt) : Nat := l.foldl (fun n e => n + e.places) 0
/-- Places that hold records. -/
def TraceMem.used (m : TraceMem) : Nat := placesIn m.ents

/-- The trace memory of a quadrant. -/
def State.mem (s : State) (q : Nat) : TraceMem := Map.get (α := TraceMem) s.trace.mems q {}
/-- A trace memory replaced. -/
def State.setMem (s : State) (q : Nat) (m : TraceMem) : State :=
  { s with trace := { s.trace with mems := Map.set (α := TraceMem) s.trace.mems q m } }
/-- FROZEN of a memory. -/
def State.frozen (s : State) (q : Nat) : Bool := s.bit .ECHO_STAT 0 (2 + q)
/-- Stream mode (R623). -/
def State.streaming (s : State) : Bool := s.bit .ECHO_CTRL 0 1
/-- Does a quadrant's memory capture (R593, R634) (DEDUCED, log entry 57). -/
def State.captures (s : State) (q : Nat) : Bool :=
  s.bit .ECHO_CTRL 0 0 && s.bit .ECHO_CTRL 0 (11 + q) && !s.frozen q && !s.power.lost.contains 39
/-- The drip after which no record is accepted (R622). -/
def State.traceEnd (s : State) : Nat := (s.reg .ECHO_TRIG_AT 0).toNat + s.fld .ECHO_TRIG 0 63 47 * 1000
/-- PRE (R634). -/
def State.tracePre (s : State) : Nat := min 131070 (s.fld .ECHO_TRIG 0 46 30)

/-- The oldest unprotected records removed until some places are free, by fuel: the records held. -/
def TraceMem.evict (m : TraceMem) (need : Nat) : Nat → TraceMem
  | 0 => m
  | n + 1 =>
    if m.used + need ≤ tracePlaces then m
    else match m.ents.findIdx? (fun e => !e.keep) with
      | none => m
      | some i => ({ m with ents := m.ents.eraseIdx i }).evict need n

/-- A record put into a memory (R621 to R623): none when it finds no room. After the trigger marker one place stays reserved for the
closing gap marker, and what is written is kept. -/
def TraceMem.put (m : TraceMem) (stream : Bool) (words : List U64) : Option TraceMem :=
  let e : TraceEnt := { words := words, keep := m.marked }
  let need := e.places + (if m.marked then 1 else 0)
  let m := if stream then m else m.evict need m.ents.length
  if m.used + need ≤ tracePlaces then some { m with ents := m.ents ++ [e] } else none

/-- Word 0 of a trace record (R618). -/
def traceHead (kind q unit a : Nat) (rehearse : Bool) : U64 :=
  BitVec.ofNat 64 (kind + q * 2 ^ 8 + unit * 2 ^ 10 + (if rehearse then 2 ^ 20 else 0) + a % 2 ^ 32 * 2 ^ 32)

/-- A record of a source dropped (R620): counted by its source with the DRIP of the first, and in ECHO_DROP. -/
def State.traceDrop (s : State) (q src drip : Nat) : State :=
  let m := s.mem q
  let d := Map.get (α := Nat × Nat) m.drops src (0, drip)
  (s.setMem q { m with drops := Map.set (α := Nat × Nat) m.drops src (d.1 + 1, d.2) }).bumpWrap .ECHO_DROP q 63 0 1

/-- The gap marker a source owes, written when it finds room (R620). -/
def State.traceGap (s : State) (q src unit drip : Nat) : State :=
  let m := s.mem q
  match Map.find (α := Nat × Nat) m.drops src with
  | none => s
  | some (n, first) =>
    match m.put s.streaming [traceHead 0x0F q unit 0 false, BitVec.ofNat 64 drip, BitVec.ofNat 64 n, BitVec.ofNat 64 first] with
    | none => s
    | some m => (s.setMem q { m with drops := Map.del (α := Nat × Nat) m.drops src }).bump .ECHO_STAT 0 31 16 1

/-- The source of a record: its core, port, or the hub (R619). -/
def traceSource (kind unit : Nat) : Nat := if kind = 6 then 256 + unit else if kind ≥ 7 then 512 else unit
/-- SRC bit of a kind (R618); none for a kind no source writes. -/
def traceSrcBit (kind : Nat) : Option Nat :=
  if kind = 1 ∨ kind = 2 then some 0 else if kind = 3 ∨ kind = 4 then some 1 else if kind = 5 then some 2
  else if kind = 6 then some 3 else if kind = 7 ∨ kind = 8 then some 4 else none

/-- Is a record selected (R618). -/
def State.traceSelects (s : State) (kind unit : Nat) : Bool :=
  match traceSrcBit kind with
  | none => false
  | some b => s.bit .ECHO_CTRL 0 (6 + b) &&
      (b ≠ 0 || decide (s.fld .ECHO_CTRL 0 22 15 ≤ unit ∧ unit ≤ s.fld .ECHO_CTRL 0 30 23))

/-- Does a record match ECHO_TRIG (R621). -/
def State.traceMatches (s : State) (w0 w2 : U64) : Bool :=
  let k := s.fld .ECHO_TRIG 0 7 0
  k ≠ 0 && decide (bitsOf w0 7 0 = k) && s.bit .ECHO_TRIG 0 (17 + bitsOf w0 9 8) &&
  (!s.bit .ECHO_TRIG 0 8 || decide (bitsOf w0 17 10 = s.fld .ECHO_TRIG 0 16 9)) &&
  (!s.bit .ECHO_TRIG 0 29 || decide (bitsOf w2 7 0 = s.fld .ECHO_TRIG 0 28 21))

/-- A memory's trigger marker (R621, R622): the PRE newest records kept, and the records then held in word 3. -/
def State.traceMark (s : State) (kind : Nat) (rehearse : Bool) (t q : Nat) : State :=
  let m := s.mem q
  let n := m.ents.length
  let m := { m with ents := m.ents.zipIdx.map (fun (e : TraceEnt × Nat) => { e.1 with keep := decide (n ≤ e.2 + s.tracePre) }) }
  let m := if s.streaming then m else m.evict 2 n
  let mark : TraceEnt := { words := [traceHead 0x0E q 0 kind rehearse, BitVec.ofNat 64 t, BitVec.ofNat 64 t, BitVec.ofNat 64 n], keep := true }
  if m.used + 2 ≤ tracePlaces then s.setMem q { m with ents := m.ents ++ [mark], marked := true }
  else s.setMem q { m with marked := true }

/-- The trigger at drip T (R621): every memory that is not frozen is told. -/
def State.traceTrigger (s : State) (kind : Nat) (rehearse : Bool) (t : Nat) : State :=
  if !s.bit .ECHO_STAT 0 0 then s
  else
    let s := ((s.setBit .ECHO_STAT 0 0 false).setBit .ECHO_STAT 0 1 true).setReg .ECHO_TRIG_AT 0 (BitVec.ofNat 64 t)
    s.each ((List.range 4).filter (fun q => !s.frozen q)) (fun s q => s.traceMark kind rehearse t q)

/-- A record's arrival at the memory of quadrant q (R618 to R623); `lost` when it found its core's stage full. -/
def State.traceRecord (s : State) (q : Nat) (w0 w1 w2 w3 : U64) (lost : Bool) : State :=
  let w0 := putBits w0 9 8 q
  let kind := bitsOf w0 7 0
  let unit := bitsOf w0 17 10
  let src := traceSource kind unit
  if !s.captures q ∨ !s.traceSelects kind unit ∨ (s.mem q).closed ∨ ((s.mem q).marked ∧ s.traceEnd < w1.toNat) then s
  else if lost then
    let s := s.traceDrop q src w1.toNat
    if kind ≤ 5 then s.onCoreReg unit (fun c => c.occur 0x13) else s
  else
    let s := s.traceGap q src unit w1.toNat
    let s := match (s.mem q).put s.streaming [w0, w1, w2, w3] with
      | some m => s.setMem q m
      | none => s.traceDrop q src w1.toNat
    if s.traceMatches w0 w2 then s.traceTrigger kind (bitAt w0 20) w1.toNat else s

/-- A memory's window ends (R622, R623): the closing gap marker, then it freezes, in stream mode once it has drained. -/
def State.traceClose (s : State) (q : Nat) : State :=
  let m := s.mem q
  if !m.marked ∨ m.closed then s
  else
    let n := m.drops.foldl (fun (a : Nat) (d : Nat × (Nat × Nat)) => a + d.2.1) 0
    let first := ((m.drops.map (fun (d : Nat × (Nat × Nat)) => d.2.2)).min?).getD 0
    let gap : TraceEnt := { words := [traceHead 0x0F q 0 0 false, BitVec.ofNat 64 s.traceEnd, BitVec.ofNat 64 n, BitVec.ofNat 64 first], keep := true }
    let m := { m with drops := [], closed := true, ents := if m.used + 1 ≤ tracePlaces then m.ents ++ [gap] else m.ents }
    let s := (s.setMem q m).bump .ECHO_STAT 0 31 16 1
    if s.streaming && !m.ents.isEmpty then s else s.setBit .ECHO_STAT 0 (2 + q) true

/-! ### Frames (R624, R625) -/

/-- The records of a frame: whole records of at most 127 places. -/
def takePlaces : Nat → List TraceEnt → List TraceEnt
  | _, [] => []
  | n, e :: es => if e.places ≤ n then e :: takePlaces (n - e.places) es else []

/-- A frame of some records (R625). -/
def State.traceFrame (s : State) (q no : Nat) (l : List TraceEnt) : List Byte :=
  let drip := match l with | e :: _ => (wordAt e.words 1).toNat | [] => 0
  let head : List Byte := [0x45, 0x43, 0x48, 0x4F, BitVec.ofNat 8 (q + bitN (s.frozen q) 2 + bitN (s.bit .ECHO_STAT 0 1) 3), 0, 0, 0] ++
    leBytes 8 no ++ leBytes 8 drip ++ leBytes 2 (placesIn l) ++ List.replicate 6 0
  let body := l.flatMap (fun e => e.words.flatMap (fun w => leBytes 8 w.toNat))
  head ++ body ++ List.replicate (4064 - body.length) 0

/-- The frames of a memory's contents, by fuel: the records held. -/
def State.traceFrames (s : State) (q : Nat) : Nat → Nat → List TraceEnt → List (List Byte)
  | 0, _, _ => []
  | _, _, [] => []
  | n + 1, no, l =>
    let f := takePlaces 127 l
    s.traceFrame q no f :: s.traceFrames q n (no + 1) (l.drop f.length)

/-- What lane k of the echo port carries for a frame (R624, R625): the start block and its 8-byte words; the line code's sync bits and
scrambling are the lane's own. -/
def laneBytes (frame : List Byte) (no k : Nat) : List Byte :=
  [0x78, BitVec.ofNat 8 k] ++ leBytes 4 no ++ [0, 0] ++ (List.range 128).flatMap (fun j => (frame.drop ((4 * j + k) * 8)).take 8)

/-- Records the port may send of a memory: the FIFO in stream mode, the frozen contents not yet sent in ring mode. -/
def State.traceWaiting (s : State) (q : Nat) : List TraceEnt :=
  let m := s.mem q
  if s.streaming then m.ents else if s.frozen q then m.ents.drop m.sent else []

/-- The port sends a frame of quadrant q (R625). -/
def State.sendFrame (s : State) (q : Nat) : State :=
  let l := takePlaces 127 (s.traceWaiting q)
  let no := s.trace.frameNo
  let f := s.traceFrame q no l
  let s := s.each (List.range 4) (fun s k => s.send (.echo (laneBytes f no k)))
  let s := (s.modTrace (fun x => { x with frameNo := no + 1, turn := q })).bumpWrap .ECHO_STAT 0 63 32 1
  let m := s.mem q
  if s.streaming then
    let m := { m with ents := m.ents.drop l.length }
    let s := s.setMem q m
    if m.closed ∧ m.ents.isEmpty then s.setBit .ECHO_STAT 0 (2 + q) true else s
  else
    let n := m.sent + l.length
    s.setMem q { m with sent := if n = m.ents.length ∧ s.bit .ECHO_CTRL 0 5 then 0 else n }

/-- The next quadrant in rotation whose records are due (R625): a full frame waits, or its oldest record has waited 10 µs. -/
def State.nextFrame (s : State) (waited : Nat) : Option Nat :=
  ((rangeFrom (s.trace.turn + 1) 4).map (· % 4)).find? (fun q =>
    let l := s.traceWaiting q
    !l.isEmpty && (waited.testBit q || s.frozen q || decide (127 ≤ placesIn l)))

end Sys2Proof.Machine
end

