-- ==== Sys2Proof/Machine/Trace.lean ====
section
/-! DEFINITION. The commands of observation (R613 to R636): the echo trace, telemetry, tensor dumps, hang analysis, debug unlock and the
core counters' selection. -/
namespace Sys2Proof.Machine

/-! ### The echo trace (R618 to R625) -/

/-- TRACE_RECORD (R619): words of a record as its source made them, and whether it found its stage full. -/
def execTraceRecord (q : Fin 4) (w0 w1 w2 w3 : U64) (lost : Bool) (s : State) : Host.Outcome State Fault Refusal :=
  .next (s.traceRecord q w0 w1 w2 w3 lost)

/-- TRACE_WINDOW_END (R622, R623): at T + POST_US × 1,000 drips. -/
def execTraceWindowEnd (t : U64) (s : State) : Host.Outcome State Fault Refusal :=
  let s := s.at' t.toNat
  .next (if s.bit .ECHO_STAT 0 1 ∧ s.traceEnd ≤ t.toNat then s.each (List.range 4) State.traceClose else s)

/-- ECHO_FRAME (R625): the port sends the next quadrant's frame; `waited` names the quadrants whose oldest record has waited 10 µs. -/
def execEchoFrame (waited : BitVec 4) (s : State) : Host.Outcome State Fault Refusal :=
  .next (if !s.bit .ECHO_CTRL 0 0 ∨ s.power.lost.contains 39 then s
    else match s.nextFrame waited.toNat with
      | some q => s.sendFrame q
      | none => s)

/-- A memory ready to capture: nothing protected, no marker, nothing sent. -/
def TraceMem.rearm (m : TraceMem) : TraceMem :=
  { m with ents := m.ents.map (fun (e : TraceEnt) => { e with keep := false }), marked := false, closed := false, sent := 0 }

/-- FROZEN cleared, in every memory. -/
def State.thaw (s : State) : State := (s.setFld .ECHO_STAT 0 5 2 0).each (List.range 4) (fun s q => s.setMem q (s.mem q).rearm)

/-- ARM (R621, R635). -/
def State.traceArm (s : State) : State :=
  let s := ((s.thaw.setBit .ECHO_STAT 0 1 false).setBit .ECHO_STAT 0 0 true)
  s.each (List.range 4) (fun s q => s.setReg .ECHO_DROP q 0)
/-- ARM (R621). -/
def execArm (s : State) : Host.Outcome State Fault Refusal := .next s.traceArm
/-- SW_TRIGGER (R621): at the drip of the write. -/
def execSwTrigger (t : U64) (s : State) : Host.Outcome State Fault Refusal := .next ((s.at' t.toNat).traceTrigger 0 false t.toNat)
/-- UNFREEZE (R622, R634). -/
def execUnfreeze (s : State) : Host.Outcome State Fault Refusal := .next s.thaw

/-- TRACE_READ (R625, R631): a frozen memory copied in whole frames, as many as the buffer holds. -/
def State.cmdTraceRead (s : State) (ws : List U64) : State :=
  let q := wf ws 1 1 0
  if !cmdOk ws [3, 2 ^ 64 - 1, 2 ^ 32 - 1] then s.doneM 0x31 ws
  else if wf ws 2 11 0 ≠ 0 then s.doneM 0x5B ws
  else if !s.frozen q then s.doneM 0x5E ws
  else
    let m := s.mem q
    let fs := (s.traceFrames q m.ents.length 0 m.ents).take (wf ws 3 31 0 / 4096)
    let a := (wordAt ws 2).toNat
    (s.each (fs.zip (List.range fs.length)) (fun s f => s.send (.hostWrite 4 (a + 4096 * f.2) f.1))).doneM 0 ws
/-- TRACE_READ (R631). -/
def execTraceRead (entry : Entry) (s : State) : Host.Outcome State Fault Refusal :=
  .next (s.withPlaces 4 (entryWords entry) (fun s => s.cmdTraceRead (entryWords entry)))

/-! ### Telemetry (R614 to R617) -/

/-- A telemetry record before its PHASE (R615): KIND, QUAD, INDEX, PART and the six values. -/
structure TelRec where
  kind  : Nat
  quad  : Nat := 0
  index : Nat := 0
  part  : Nat := 0
  vals  : List U64

/-- Its eight words. -/
def TelRec.words (r : TelRec) (sample drip phase : Nat) : List U64 :=
  [BitVec.ofNat 64 (r.kind + r.quad * 2 ^ 8 + r.index * 2 ^ 10 + r.part * 2 ^ 18 + sample % 2 ^ 31 * 2 ^ 32 + phase * 2 ^ 63),
   BitVec.ofNat 64 drip] ++ (List.range 6).map (fun i => wordAt r.vals i)

/-- Registers read in turn (R614). -/
def State.readRegs (s : State) : List (Reg × Nat) → List U64 × State
  | [] => ([], s)
  | (r, i) :: l =>
    let (w, s) := s.readReg r i
    let (ws, s) := s.readRegs l
    (w :: ws, s)

/-- 16-bit values packed four to a word. -/
def pack16 (l : List Nat) : List U64 := (chunks 4 l).map (fun c => BitVec.ofNat 64 ((c.zip (List.range 4)).foldl (fun n x => n + x.1 % 65536 * 2 ^ (16 * x.2)) 0))

/-- The records of virtual core v (R615); a core held in reset yields zeros (R636). -/
def State.telCore (s : State) (v : Nat) : List TelRec × State :=
  let off : Bool := match s.vcore v with | some c => c.inReset | none => true
  let zero := fun (l : List U64) => if off then l.map (fun _ => (0 : U64)) else l
  let pmc := fun (a n : Nat) => (rangeFrom a n).map (fun i => (Reg.CORE_PMC, v * 16 + i))
  let (p0, s) := s.readRegs (pmc 0 6)
  let (p1, s) := s.readRegs (pmc 6 6)
  let (p2, s) := s.readRegs (pmc 12 4)
  let (x, s) := s.readRegs [(.CLK_CORE_STAT, v), (.CORE_STRETCH_COUNT, v)]
  let rec' := fun (part : Nat) (l : List U64) => ({ kind := 0x90, quad := v / 64, index := v, part := part, vals := l } : TelRec)
  ([rec' 0 (zero p0), rec' 1 (zero p1), rec' 2 (zero p2 ++ x)], s)

/-- The status record of virtual core v (R615, R636). -/
def State.telStatus (s : State) (v : Nat) : TelRec × State :=
  let off : Bool := match s.vcore v with | some c => c.inReset | none => true
  let (l, s) := s.readRegs [(.CORE_EPOCH_STAT, v), (.SEQ_STALL_COUNT, v), (.SB_WAIT_CYCLES, v), (.CORE_MEM_STAT, v), (.CORE_MX_STAT, v), (.CORE_VX_STAT, v)]
  ({ kind := 0x91, quad := v / 64, index := v, vals := if off then 0 :: l.drop 1 else l }, s)

/-- The results of a reader over a list, in order. -/
def State.telEach {α : Type} (s : State) (l : List α) (f : State → α → List TelRec × State) : List TelRec × State :=
  l.foldl (fun (a : List TelRec × State) x => let (r, s) := f a.2 x; (a.1 ++ r, s)) ([], s)

/-- Records of registers alone: kind, quadrant, index, part, and the registers. -/
def State.telRegs (s : State) (kind quad index part : Nat) (l : List (Reg × Nat)) : TelRec :=
  { kind := kind, quad := quad, index := index, part := part, vals := (s.readRegs l).1 }

/-- The records of a port (R615). -/
def State.telPort (s : State) (p : Nat) : List TelRec :=
  let c := fun (a n : Nat) => (rangeFrom a n).map (fun k => (Reg.LNK_COUNT, p * 16 + k))
  [s.telRegs 0xA0 (portQuad p) p 0 (c 0 6), s.telRegs 0xA0 (portQuad p) p 1 (c 6 6),
   s.telRegs 0xA0 (portQuad p) p 2 (c 12 4 ++ [(.LNK_STATE, p), (.LNK_RTT, p)])]

/-- Kinds 0xA1 and 0xA8. -/
def State.telFab (s : State) (kind quad index : Nat) (r : Reg) (base : Nat) : List TelRec :=
  [s.telRegs kind quad index 0 ((List.range 6).map (fun k => (r, base + k))), s.telRegs kind quad index 1 [(r, base + 6), (r, base + 7)]]

/-- The sampled groups after the header (R615), in the order of the table: `volts` gives each domain's mV, `optics` the received and the
transmitted power of each port's lanes; a lane not given is dark. -/
def State.telRecords (s : State) (volts : List Nat) (optics : List (List Nat × List Nat)) : List TelRec × State :=
  let sel := s.fld .TEL_CFG 0 21 17
  let vs := (List.range 4).flatMap s.virtCores
  let (c0, s) := if sel.testBit 0 then s.telEach vs State.telCore else ([], s)
  let (c1, s) := if sel.testBit 0 then s.telEach vs (fun s v => let (r, s) := s.telStatus v; ([r], s)) else ([], s)
  let links := if sel.testBit 1 then (List.range 12).flatMap s.telPort ++ (List.range 12).flatMap (fun p => s.telFab 0xA1 (portQuad p) p .LNK_FAB_COUNT (p * 8))
    else []
  let quads := if sel.testBit 2 then
      (List.range 4).flatMap (fun q => s.telFab 0xA8 q 0 .QD_ELA_COUNT (q * 8)) ++
      (List.range 4).map (fun q => s.telRegs 0xA9 q 0 0
        [(.HUB_STAT, q), (.ADM_STAT, q), (.SMP_STAT, q), (.HUB_COMMIT_STAT, q), (.QD_HBM_STAT, q), (.QD_RECOVERY, q)])
    else []
  let temps := fun (p : Nat) => pack16 ((rangeFrom (24 * p) (min 24 (64 - 24 * p))).map (fun n => s.fld .PWR_TEMP n 15 0))
  let sensors := if sel.testBit 3 then
      (List.range 3).map (fun p => ({ kind := 0xB0, part := p, vals := temps p } : TelRec)) ++
      (List.range 2).map (fun p => ({ kind := 0xB1, part := p, vals := pack16 ((rangeFrom (24 * p) (min 24 (40 - 24 * p))).map (fun d => volts.getD d 0)) } : TelRec)) ++
      [({ kind := 0xB2, vals := pack16 ((List.range 8).map (fun h => s.fld .PWR_PHASE_I h 15 0)) ++ [s.viewReg .PWR_IN_STAT 0] } : TelRec)]
    else []
  let opt := if sel.testBit 4 then
      (List.range 14).map (fun p =>
        let x := optics.getD p ([], [])
        let lanes := fun (l : List Nat) => pack16 ((List.range 8).map (fun k => l.getD k 0x8000))
        ({ kind := 0xB3, quad := if p < 12 then portQuad p else 0, index := p, vals := lanes x.1 ++ lanes x.2 } : TelRec))
    else []
  (c0 ++ c1 ++ links ++ quads ++ sensors ++ opt, s)

/-- A record written whole to the ring or to a trace memory (R616, R617); none when it finds no room. -/
def State.telPut (s : State) (r : TelRec) (sample drip : Nat) : Option State :=
  if s.bit .TEL_CFG 0 16 then
    if !s.captures r.quad ∨ (s.mem r.quad).closed ∨ ((s.mem r.quad).marked ∧ s.traceEnd < drip) then none
    else ((s.mem r.quad).put s.streaming (r.words sample drip 0)).map (fun m => s.setMem r.quad m)
  else match s.trace.tel with
    | none => none
    | some g =>
      if g.size ≤ g.written - g.consumed then none
      else
        let ws := r.words sample drip (phaseOf g.written g.size)
        let s := s.modTrace (fun x => { x with tel := some { g with written := g.written + 1 } })
        some (s.send (.hostWrite 4 (g.base + g.written % g.size * 64) (ws.flatMap (fun w => leBytes 8 w.toNat))))

/-- A record dropped and counted (R616). -/
def State.telDrop (s : State) (drip : Nat) : State :=
  (s.modTrace (fun x => { x with lost := x.lost + 1, lostAt := if x.lost = 0 then drip else x.lostAt, lostNow := x.lostNow + 1 })).bump .TEL_STAT 0 31 16 1

/-- A record written after the gap record it owes, or dropped (R616, R636) (DEDUCED, log entry 58). -/
def State.telWrite (s : State) (r : TelRec) (sample drip : Nat) : State :=
  if s.trace.lost = 0 then (s.telPut r sample drip).getD (s.telDrop drip)
  else
    let gap : TelRec := { kind := 0xBF, quad := r.quad, vals := [BitVec.ofNat 64 s.trace.lost, BitVec.ofNat 64 s.trace.lostAt] }
    match s.telPut gap sample drip with
    | none => s.telDrop drip
    | some s =>
      let s := s.modTrace (fun x => { x with lost := 0 })
      (s.telPut r sample drip).getD (s.telDrop drip)

/-- TELEMETRY_SAMPLE (R614, R615): at a drip count that is a multiple of PERIOD × 1,024. -/
def execTelemetrySample (t : U64) (volts : List (BitVec 16)) (optics : List (List (BitVec 16) × List (BitVec 16))) (s : State) :
    Host.Outcome State Fault Refusal :=
  let s := s.at' t.toNat
  let period := s.fld .TEL_CFG 0 15 0 * 1024
  .next (
    if period = 0 ∨ t.toNat % period ≠ 0 then s
    else
      let no := s.fld .TEL_STAT 0 63 32
      let (recs, s) := s.telRecords (volts.map BitVec.toNat) (optics.map (fun o => (o.1.map BitVec.toNat, o.2.map BitVec.toNat)))
      let head : TelRec := { kind := 0x81, vals :=
        [s.viewReg .TB_STAT 0, s.viewReg .TB_OFFSET 0, s.viewReg .PWR_GOV_STAT 0, s.viewReg .PWR_IN_STAT 0, BitVec.ofNat 64 (recs.length + 1),
         BitVec.ofNat 64 s.trace.lostNow] }
      let s := (s.modTrace (fun x => { x with lostNow := 0 })).bumpWrap .TEL_STAT 0 63 32 1
      s.each (head :: recs) (fun s r => s.telWrite r no t.toNat))

/-- TEL_RING (R21, R617, R631). -/
def State.cmdTelRing (s : State) (ws : List U64) : State :=
  if !cmdOk ws [2 ^ 64 - 1, 2 ^ 17 - 1, 2 ^ 64 - 1] then s.doneM 0x31 ws
  else if !ringSizeOk (wf ws 2 16 0) || decide (wf ws 1 11 0 ≠ 0) || decide (wf ws 3 2 0 ≠ 0) then s.doneM 0x5B ws
  else
    let g : TelRing := { base := (wordAt ws 1).toNat, size := wf ws 2 16 0, consAddr := (wordAt ws 3).toNat }
    ((s.modTrace (fun x => { x with tel := some g })).setBit .TEL_STAT 0 0 true).doneM 0 ws
/-- TEL_RING (R617). -/
def execTelRing (entry : Entry) (s : State) : Host.Outcome State Fault Refusal :=
  .next (s.withPlaces 4 (entryWords entry) (fun s => s.cmdTelRing (entryWords entry)))

/-- The telemetry ring's consumer count as a poll of the management function finds it (R617). -/
def State.telPoll (s : State) (n : U64) : State :=
  s.modTrace (fun x => { x with tel := x.tel.map (fun g => { g with consumed := n.toNat }) })

/-! ### Tensor dumps (R626, R627) -/

/-- DUMP (R627). -/
def execDump (f : Fin 5) (entry : Entry) (s : State) : Host.Outcome State Fault Refusal :=
  .next (s.withPlaces f (entryWords entry) (fun s => s.cmdDump f (entryWords entry)))

/-- The dump ended with a status, and a dump variant left again (R627). -/
def State.dumpEnd (s : State) (d : DumpSt) (status : Nat) : State :=
  let s := s.modTrace (fun x => { x with dump := none })
  let s := if d.stable then s
    else if (s.quad d.quad).master then s.modQuad d.quad (fun x => { x with request := some d.back })
    else s.send (.message 24 [d.quad, d.back])
  s.answer d.fn 1 status d.cid d.tag 0 0

/-- The code units of a range read one by one for a hardware user (R206, R207, R211, R212, R682): the data of a unit that delivers none
is zeros (DESIGN CHOICE, log entry 117). -/
def dumpUnits (now : Nat) : Nat → CoreSt → Nat → CoreSt × List CoreEvent × List Byte
  | 0, c, _ => (c, [], [])
  | n + 1, c, u =>
    let (r, b) := (⟨c, now, none, [], []⟩ : Run).readUnit u
    let b := if r.fault.isSome then List.replicate 64 0 else b
    let err : List CoreEvent := match r.fault with | some f => if f.kind = 0x09 ∧ f.detail = 0 then [.memError 0x09] else [] | none => []
    let (c, es, bs) := dumpUnits now n r.c (u + 1)
    (c, r.evs ++ err ++ es, b ++ bs)

/-- One piece read through the codes and written at an address of host memory (R627); the layout of its 64-byte header is not the
spec's. -/
def State.dumpPiece (s : State) (d : DumpSt) (a : Nat) (p : Nat × Nat × Nat × Nat) : State :=
  let v := d.quad * 64 + p.1 % 64
  let at' := p.2.2.1
  let n := p.2.2.2
  let (s, data) := match s.phys v with
    | some i =>
      let (c, es, bs) := dumpUnits s.now ((at' + n + 63) / 64 - at' / 64) (s.core i) (at' / 64)
      (s.runCore i (c, es), (bs.drop (at' % 64)).take n)
    | none => (s, List.replicate n 0)
  let head := leBytes 64 (Config.dumpHeader d.symbol d.step s.globalId v p.2.1 p.2.2.2).toNat
  s.send (.hostWrite d.fn a (head ++ data ++ List.replicate ((64 - p.2.2.2 % 64) % 64) 0))

/-- DUMP_COPY_DONE (R627): the pieces have been written; a dump whose plan or slot has gone ends without them. -/
def execDumpCopyDone (s : State) : Host.Outcome State Fault Refusal :=
  .next (match s.trace.dump with
    | none => s
    | some d => match (s.quad d.quad).plan with
      | none => s.dumpEnd d 0x5A
      | some p =>
        let gone : Bool := match d.slot with | some n => ((s.quad d.quad).slot n).state = 0 | none => false
        if gone && !d.copying then s.dumpEnd d 0x5A
        else if !d.copying then s
        else
          let r := (p.pieces d.symbol).foldl (fun (x : State × Nat) y => (x.1.dumpPiece d x.2 y, x.2 + 64 + (y.2.2.2 + 63) / 64 * 64)) (s, d.addr)
          r.1.dumpEnd d 0)

/-! ### Hang analysis (R628, R629) -/

/-- HANG_REPORT at the poll at drip t (R628, R631). -/
def State.cmdHangReport (s : State) (ws : List U64) (t : Nat) : State :=
  if !cmdOk ws [2 ^ 64 - 1, 2 ^ 25 - 1] then s.doneM 0x31 ws
  else if wf ws 1 5 0 ≠ 0 then s.doneM 0x5B ws
  else if s.trace.hang.isSome then s.doneM 0x5F ws
  else
    let n := wf ws 2 15 0
    let addr := (wordAt ws 1).toNat
    if bitAt (wordAt ws 2) 24 then
      let head : List U64 := [BitVec.ofNat 64 (2 ^ 32), 0, 0, 0]
      let recs := (s.trace.lastHang.getD [head]).take n
      (s.send (.hostWrite 4 addr (recs.flatMap (fun r => r.flatMap (fun w => leBytes 8 w.toNat))))).doneM 0 ws
    else
      let hops := wf ws 2 23 16
      s.hangStart { cmd := some (cmdCid ws, cmdTag ws), addr := addr, limit := n, hops := if hops = 0 then 8 else hops, since := t }
/-- HANG_REPORT (R628). -/
def execHangReport (entry : Entry) (t : U64) (s : State) : Host.Outcome State Fault Refusal :=
  .next ((s.at' t.toNat).withPlaces 4 (entryWords entry) (fun s => s.cmdHangReport (entryWords entry) t.toNat))

/-- The keeper's own report of up to 256 records after a watchdog or an overrun (R628). -/
def State.hangOwn (s : State) : State :=
  if s.trace.hangDue && s.trace.hang.isNone then
    (s.modTrace (fun x => { x with hangDue := false })).hangStart { since := s.now }
  else s

/-- HANG_QUERY (R628): another keeper asks for this device's edges from a node. -/
def execHangQuery (id : BitVec 20) (node : U64) (s : State) : Host.Outcome State Fault Refusal :=
  .next (if s.restarting then s else s.hangAnswer id.toNat node.toNat)
/-- HANG_QUERY_REPLY (R628): a device's edges, or none when its keeper cannot be reached. -/
def execHangQueryReply (id : BitVec 20) (reply : Option (List (U64 × U64 × U64 × U64))) (s : State) : Host.Outcome State Fault Refusal :=
  .next (s.hangReply id.toNat (reply.map (fun l => l.map (fun e => [e.1, e.2.1, e.2.2.1, e.2.2.2]))))

/-! ### Debug unlock (R630) -/

/-- LEVEL and QUAD_MASK changed, with notice 0x0C to every quadrant function of a mask and to the management function (R529, R630). -/
def State.setLevel (s : State) (level mask told : Nat) : State :=
  let old := s.fld .SEC_DBG_STAT 0 1 0
  let s := (s.setFld .SEC_DBG_STAT 0 1 0 level).setFld .SEC_DBG_STAT 0 5 2 mask
  if old = level then s
  else
    let c : Completion := { kind := 9, quad := 0, status := 0x0C, arg0 := (s.reg .SEC_DBG_STAT 0).toNat }
    (s.each (maskQuads told) (fun s q => s.offer q { c with quad := q })).offer 4 c

/-- DEBUG_UNLOCK with its block (R630, R631): the nonce is spent either way (DEDUCED, log entry 92). -/
def State.cmdDebugUnlock (s : State) (ws : List U64) (block : Option (List Byte)) : State :=
  if !cmdOk ws [2 ^ 64 - 1] then s.doneM 0x31 ws
  else match block with
    | none => s.doneM 0x38 ws
    | some b =>
      let key := match s.keeper.flash.install.use with | some x => x.debugKey | none => []
      let nonce := s.trace.nonce
      let s := s.modTrace (fun x => { x with nonce := none })
      let level := ofLe ((b.drop 16).take 1)
      let mask := ofLe ((b.drop 17).take 1)
      if b.length = 128 ∧ ofLe (b.take 8) = (s.reg .KPR_FACTORY_ID 0).toNat ∧ nonce = some (ofLe ((b.drop 8).take 8)) ∧
          1 ≤ level ∧ level ≤ 2 ∧ mask < 16 ∧ (b.drop 18).take 14 = List.replicate 14 0 ∧ ecdsaOk key (b.drop 32) (sha384 (b.take 32)) then
        (s.setLevel level mask mask).doneM 0 ws
      else (s.setBit .SEC_DBG_STAT 0 6 true).doneM 0x5C ws
/-- DEBUG_UNLOCK (R630). -/
def execDebugUnlock (entry : Entry) (block : Option (List Byte)) (s : State) : Host.Outcome State Fault Refusal :=
  .next (s.withPlaces 4 (entryWords entry) (fun s => s.cmdDebugUnlock (entryWords entry) block))

/-- DEBUG_LOCK (R630). -/
def State.cmdDebugLock (s : State) (ws : List U64) : State :=
  if !cmdOk ws [] then s.doneM 0x31 ws else (s.setLevel 0 0 (s.fld .SEC_DBG_STAT 0 5 2)).doneM 0 ws
/-- DEBUG_LOCK (R630). -/
def execDebugLock (entry : Entry) (s : State) : Host.Outcome State Fault Refusal :=
  .next (s.withPlaces 4 (entryWords entry) (fun s => s.cmdDebugLock (entryWords entry)))

/-- SEC_DBG_NONCE_READ (R630, R635): a fresh nonce, current from the read on. -/
def execSecDbgNonceRead (s : State) : Host.Outcome State Fault Refusal :=
  let (w, s) := s.fresh
  .next ((s.modTrace (fun x => { x with nonce := some w.toNat })).send (.readData "SEC_DBG_NONCE" (leBytes 8 w.toNat)))

/-! ### Core counters (R613, R633) -/

/-- CORE_PMC_SEL written: the counter clears. -/
def CoreSt.selectPmc (c : CoreSt) (i : Nat) (val : U64) : CoreSt :=
  { c.setReg .CORE_PMC_SEL i (val &&& 0x1FFF#64) with pmc := Map.del (α := Nat) c.pmc i }
/-- PMC_SEL_WRITE (R613). -/
def execPmcSelWrite (v : Fin 256) (i : Fin 16) (val : U64) (s : State) : Host.Outcome State Fault Refusal :=
  .next (s.onCoreReg v (fun c => c.selectPmc i val))

end Sys2Proof.Machine
end

