-- ==== Sys2Proof/Machine/RegWrite.lean ====
section
/-! DEFINITION. A write to a register through a function's BAR0 (R13 to R15, R654 to R662): its place, whether it is reached, and its
effect by its access codes and its own rule. -/
namespace Sys2Proof.Machine

/-! ### Places (R654, R655, R663, R664) -/

/-- The register of a space whose range holds an offset, with the local index there. HIF_LINK_STAT is in the function page (R663). -/
def regAtOffset (sp : Space) (off : Nat) : Option (Reg × Nat) :=
  (Reg.all.find? (fun r => decide (r.info.space = sp) && decide (r.info.offset ≤ off ∧ off < r.info.offset + 8 * r.info.count) &&
    decide (r ≠ .HIF_LINK_STAT))).map (fun r => (r, (off - r.info.offset) / 8))

/-- The device-wide index of a quadrant register's local index (R655). -/
def deviceIndex (r : Reg) (q n : Nat) : Nat :=
  if r = .MSH_SLOT then (n / 92160 * 288 + q * 72 + n % 92160 / 1280) * 1280 + n % 1280 else q * r.info.count + n

/-- The function that carries the quadrant regions in the management function's BAR0, and a quadrant function's own (R654). -/
def regPlace (f off : Nat) : Option (Reg × Nat) :=
  if off < 0x100000 then (regAtOffset .page off).map (fun x => (x.1, if x.1 = .HIF_RING then f * 256 + x.2 else f))
  else if f < 4 then
    if off < 0x1100000 then (regAtOffset .quad (off - 0x100000)).map (fun x => (x.1, deviceIndex x.1 f x.2)) else none
  else if off < 0x1600000 then regAtOffset .dev off
  else if 0x9000000 ≤ off ∧ off < 0xD000000 then
    let q := (off - 0x9000000) / 0x1000000
    (regAtOffset .quad ((off - 0x9000000) % 0x1000000)).map (fun x => (x.1, deviceIndex x.1 q x.2))
  else none

/-! ### Reach (R658, R660) -/

/-- Registers of the fabric, which stays on while its quadrant sleeps (R563). -/
def fabricReg (r : Reg) : Bool := [Reg.MSH_CTRL, .MSH_SWAP_AT, .MSH_ROUTER_STAT, .MSH_SLOT].contains r

/-- Does a register take writes now (R658): from READY or safe service on, its domain on and its quadrant not held in reset; KPR_BOOT and
the HIF_ registers at every stage. -/
def State.reached (s : State) (r : Reg) (i : Nat) : Bool :=
  let awake := fun (q : Nat) => !(s.quad q).heldReset && (fabricReg r || !(s.quad q).asleep)
  let core : Bool := r.info.perCore = 0 || (s.vcore (i / r.info.perCore)).isSome
  let dom : Bool := match r with
    | .ECHO_CTRL | .ECHO_TRIG => !s.power.lost.contains 39
    | .ING_PORT_IP | .ING_PORT_VLAN | .ING_PORT_MAC => !s.power.lost.contains 38
    | _ => true
  s.keeper.powered && (r.info.space = .page || r = .KPR_BOOT ||
    (decide (4 ≤ s.stage) && core && dom && (r.info.space ≠ .quad || awake (quadOf r i))))

/-- The registers a quadrant function may write whole (R660). -/
def quadWrites (r : Reg) : Bool :=
  [Reg.ADM_CTRL, .ADM_WMARK, .ADM_STATUS_ADDR, .ING_CTRL, .ING_RECHECK, .ING_STAGE, .CORE_PMC_SEL].contains r

/-! ### Effects -/

/-- Bits a write may change, besides those it clears (R13, R661): the setup lock governs RWL fields, and ADM_STATUS_ADDR has its
function's ENABLE for a lock. -/
def State.writable (s : State) (r : Reg) (i : Nat) : Nat :=
  let locked : Bool := if r = .ADM_STATUS_ADDR then s.bit .HIF_CTRL i 0 else s.bit .KPR_LOCK 0 0
  r.info.rw ||| (if locked then 0 else r.info.rwl)

/-- A value written by access codes alone (R13, R14). -/
def writeCodes (old val : U64) (rw w1c : Nat) : U64 :=
  ((old &&& ~~~(BitVec.ofNat 64 rw)) ||| (val &&& BitVec.ofNat 64 rw)) &&& ~~~(val &&& BitVec.ofNat 64 w1c)

/-- A device, function or quadrant register written by its access codes. -/
def State.writePlain (s : State) (r : Reg) (i : Nat) (val : U64) : State :=
  s.setReg r i (writeCodes (s.reg r i) val (s.writable r i) r.info.w1c)

/-- A core's register written by its access codes. -/
def CoreSt.writePlain (c : CoreSt) (r : Reg) (i : Nat) (val : U64) : CoreSt :=
  c.setReg r i (writeCodes (c.reg r i) val r.info.rw r.info.w1c)

/-- SEQ_CTRL (R83, R86): its settings, then RUN; WDOG_EPOCHS of 0 or 1 is taken as 2 (R77). RUN written 1 while it reads 1 does nothing
(DESIGN CHOICE, log entry 101). -/
def CoreSt.writeSeqCtrl (c : CoreSt) (val : U64) : CoreSt :=
  let still : Bool := match c.seq.run with | .stopped => true | .faulted => true | _ => false
  let was := c.fld .SEQ_CTRL 0 0 0
  let c := c.setFld .SEQ_CTRL 0 15 8 (max 2 (bitsOf val 15 8))
  let c := if still then c.setFld .SEQ_CTRL 0 2 1 (bitsOf val 2 1) else c
  if bitAt val 0 then (if was = 1 then c else c.start) else c.stop

/-- Is the sequencer stopped or faulted (R86). -/
def CoreSt.still (c : CoreSt) : Bool := match c.seq.run with | .stopped => true | .faulted => true | _ => false

/-- A core's register written (R39, R83, R86, R120, R127, R196, R203, R355, R613). -/
def CoreSt.writeReg (c : CoreSt) (r : Reg) (i : Nat) (val : U64) (keeper : Bool) : CoreSt :=
  match r with
  | .SEQ_CTRL => c.writeSeqCtrl val
  | .SEQ_ENTRY | .SEQ_AS_BASE => if c.still then c.writePlain r i val else c
  | .CORE_QUEUE_CTRL => if bitAt val 0 then c.flushCmd else c
  | .CORE_REGION => c.writeRegion i val keeper
  | .CORE_PORT_SHARE => c.writeShare val
  | .MSH_FLOW => if c.quiescent then c.writePlain r i val else c.reject
  | .CORE_PMC_SEL => c.selectPmc i val
  | .CLK_CORE_CTRL => c
  | .SB_STATUS => if bitAt val 15 then c.setFld .SB_STATUS 0 14 8 c.claimsUsed else c
  | .CORE_EPOCH_STAT =>
    let c := c.writePlain r i val
    if bitAt val 51 then c.setFld .CORE_EPOCH_STAT 0 47 0 0 else c
  | _ => c.writePlain r i val

/-- What a quadrant function may do to a core's register beyond R660's list: clear W1C bits and counters. -/
def CoreSt.clearReg (c : CoreSt) (r : Reg) (i : Nat) (val : U64) : CoreSt :=
  let c := c.setReg r i (writeCodes (c.reg r i) val 0 r.info.w1c)
  match r with
  | .SB_STATUS => if bitAt val 15 then c.setFld .SB_STATUS 0 14 8 c.claimsUsed else c
  | .CORE_EPOCH_STAT => if bitAt val 51 then c.setFld .CORE_EPOCH_STAT 0 47 0 0 else c
  | _ => c

/-- LNK_CTRL (R381, R392, R394). -/
def State.writeLink (s : State) (p t : Nat) (val : U64) : State :=
  let was := s.bit .LNK_CTRL p 0
  let s := s.setFld .LNK_CTRL p 4 1 (bitsOf val 4 1)
  let s := if bitAt val 0 then (if was then s else s.portOn p) else if was then s.portOff p t else s
  let s := if bitAt val 5 then s.applyLink p else s
  if bitAt val 6 then s.retrainCmd p t else s

/-- A fabric table written: KPR_SETUP_TAG becomes 0 (R407). -/
def State.writeTable (s : State) (r : Reg) (i : Nat) (val : U64) : State := (s.writePlain r i val).setReg .KPR_SETUP_TAG 0 0

/-- A link slot entry written (R396): a write to the active bank of a port in ACTIVE or RETRAIN is ignored and counted (R436, R667); the
other bank then waits for its swap. -/
def State.writeLinkSlot (s : State) (r : Reg) (bankBit i : Nat) (val : U64) : State :=
  let port := i / 2048 % 12
  let busy : Bool := s.linkState port = 5 || s.linkState port = 6
  if busy && decide (s.fld .LNK_STATE port bankBit bankBit = i / 24576) then s.fabCount port 7
  else
    let s := s.writeTable r i val
    if busy then s.modPort port (fun p => { p with prepared := true }) else s

/-- Does a planned slot of a port's active banks name a transmit tag's flow, or a received flow (R433). -/
def State.slotNames (s : State) (port flow : Nat) (rx : Bool) : Bool :=
  (List.range 4096).any (fun n =>
    let e := if rx then s.rxEntry port n else s.txEntry port n
    decide (natBits e 1 0 = 1) && decide (natBits e 31 16 = flow))

/-- A tag or flow entry written (R433): ignored and counted while an active planned slot names it. -/
def State.writeFlowEntry (s : State) (r : Reg) (port flow i : Nat) (rx : Bool) (val : U64) : State :=
  let busy : Bool := s.linkState port = 5 || s.linkState port = 6
  if busy && s.slotNames port flow rx then s.fabCount port 7 else s.writeTable r i val

/-- KPR_CORDON_CMD (R475, R505, R508). -/
def State.writeCordon (s : State) (t : Nat) (val : U64) : State :=
  let i := bitsOf val 10 2
  let rel := bitAt val 11
  s.cordonCmd (fun s =>
    match bitsOf val 1 0 with
    | 0 => if 288 ≤ i then s.setBit .KPR_CORDON_STAT 0 18 true else if rel then s.releaseCore i else s.cordonCore i 6 false
    | 1 => if 12 ≤ i then s.setBit .KPR_CORDON_STAT 0 18 true else if rel then s.releasePort i else s.cordonPort i 6 t false
    | 2 => if 4 ≤ i then s.setBit .KPR_CORDON_STAT 0 18 true else if rel then s.releaseQuadrant i else s.cordonQuadrant i 6 false
    | _ => s.setBit .KPR_CORDON_STAT 0 18 true)

/-- TB_SNAP_CTRL (R464 to R466). -/
def State.writeSnap (s : State) (t : Nat) (val : U64) : State :=
  let s := if bitAt val 0 then s.arrive t else s
  let s := if bitAt val 1 then (s.originate 2 State.epoch0At).judgeStart else s
  if bitAt val 2 then s.raiseHold.judgeStart else s

/-- RST_CMD (R575). -/
def State.writeReset (s : State) (val : U64) : State :=
  if !bitAt val 6 then s
  else match bitsOf val 1 0 with
    | 0 => s.deviceReset { code := 8, scope := 0 }
    | 1 => s.deviceReset { code := 8, scope := 1 }
    | 2 => s.quadrantReset 8 (bitsOf val 5 2) (maskQuads (bitsOf val 5 2))
    | _ => s

/-- PWR_LP_CTRL (R563, R577): exits before entries. -/
def State.writeLowPower (s : State) (val : U64) : State :=
  let s := if bitAt val 4 then s else s.deepExit
  let s := s.each (List.range 4) (fun s q => if bitAt val q then s.sleepQuad q else s.wakeQuad q)
  if bitAt val 4 then s.deepEnter else s

/-- ECHO_CTRL (R621, R634). -/
def State.writeEcho (s : State) (t : Nat) (val : U64) : State :=
  let s := s.writePlain .ECHO_CTRL 0 val
  let s := if bitAt val 2 then s.traceArm else s
  let s := if bitAt val 4 then s.thaw else s
  if bitAt val 3 then s.traceTrigger 0 false t else s

/-- Does the quadrant that owns an account run a plan (R294, R298). -/
def State.accountRuns (s : State) (a : Nat) : Bool := (List.range 4).any (fun q => s.ownsAccount q a && s.runs q)

/-- Is a write to a mesh slot entry at drip t turned away: in the active bank while a plan runs (R354), and in either bank in the drip of an
armed swap (R667; DEDUCED, log entry 145). -/
def State.slotShut (s : State) (i t : Nat) : Bool :=
  let q := quadOf .MSH_SLOT i
  (decide (i / 368640 = s.meshBank q) && s.runs q) ||
    (s.bit .MSH_CTRL q 1 && decide (frameFrom (s.reg .MSH_SWAP_AT q).toNat = t))

/-- A device, function or quadrant register written through a PCIe function at drip t. -/
def State.writeReg (s : State) (r : Reg) (i t : Nat) (val : U64) : State :=
  match r with
  | .HIF_CTRL => s.writeHifCtrl i val
  | .HIF_DB_ADDR | .HIF_SQ_BASE | .HIF_CQ_BASE | .HIF_RING_SIZE => if s.bit .HIF_CTRL i 0 then s else s.writePlain r i val
  | .QD_HBM_RD_WIN | .QD_HBM_WR_WIN => if s.runs i then s else s.writePlain r i val
  | .QD_HBM_SLOT => if s.runs (i / 512) then s else s.setReg r i (hbmSlotWrite (i % 512) (s.reg r i) val)
  | .ING_STAGE => if s.bit .ING_STAT i 1 then s else s.writePlain r i val
  | .ADM_CTRL =>
    let s := s.writePlain r i val
    if bitAt val 0 then s else s.setOpen i false
  | .ADM_WMARK => s.writeWmark i val
  | .ADM_RETURN => s.admReturnAll i [bitsOf val 9 0]
  | .BUD_CFG | .BUD_BAL | .BUD_CAP => if s.accountRuns i then s else s.writePlain r i val
  | .MSH_SWAP_AT => s.armMesh i val
  | .MSH_SLOT =>
    if s.slotShut i t then s.setBit .MSH_CTRL (quadOf r i) 2 true else s.writePlain r i val
  | .LNK_CTRL => s.writeLink i t val
  | .LNK_SWAP_AT => s.armLink i val
  | .LNK_TX_SLOT => s.writeLinkSlot r 19 i val
  | .LNK_RX_SLOT => s.writeLinkSlot r 20 i val
  | .LNK_PKEY => if i % 64 = 0 then s else s.writeTable r i val
  | .LNK_TX_TAG => s.writeFlowEntry r (i / 1024) (s.fld r i 22 7) i false val
  | .LNK_RX_FLOW => s.writeFlowEntry r (i / 65536) (i % 65536) i true val
  | .LNK_DEST | .QD_ELA_WIN => s.writeTable r i val
  | .TB_SNAP_CFG => (s.writePlain r i val).discardBarrier
  | .TB_SNAP_CTRL => s.writeSnap t val
  | .KPR_CORDON_CMD => s.writeCordon t val
  | .KPR_REH_CTRL =>
    let s := if bitAt val 0 && !s.bit .KPR_REH_CTRL 0 0 then s.setFld .KPR_REH_CTRL 0 31 16 0 else s
    s.writePlain r i val
  | .KPR_REH_ENTRY | .KPR_REH_AT => if s.bit .KPR_REH_CTRL 0 0 then s else s.writePlain r i val
  | .RST_CMD => s.writeReset val
  | .RST_BLOCK =>
    let s := s.writePlain r i val
    if bitAt val 13 then s.blockStart (bitsOf val 3 0) (bitsOf val 12 4) (bitsOf val 47 32) else s
  | .KPR_BOOT => if bitAt val 13 then s.loadGo else s
  | .PWR_LP_CTRL => s.writeLowPower val
  | .PWR_TEMP => if bitAt val 34 then s.setFld .PWR_TEMP i 31 16 (s.fld .PWR_TEMP i 15 0) else s
  | .ECHO_CTRL => s.writeEcho t val
  | .KPR_LOCK => s
  | _ => s.writePlain r i val

/-- What a quadrant function may do to a register of its region beyond R660's list: clear W1C bits. -/
def State.clearReg (s : State) (r : Reg) (i : Nat) (val : U64) : State :=
  s.setReg r i (writeCodes (s.reg r i) val 0 r.info.w1c)

/-- A word of a function's MSI-X table written (R515, the PCIe standard's table): address, or data with the mask bit; a message that was
pending is sent when its entry is unmasked. -/
def State.writeMsix (s : State) (f n : Nat) (val : U64) : State :=
  let v := n / 2
  let e := Map.get (α := MsixEntry) (s.func f).msix v {}
  if n % 2 = 0 then s.modFunc f (fun x => { x with msix := Map.set (α := MsixEntry) x.msix v { e with addr := val.toNat } })
  else
    let go : Bool := e.pend && !bitAt val 32
    let e := { e with data := bitsOf val 31 0, masked := bitAt val 32, pend := e.pend && !go }
    let s := s.modFunc f (fun x => { x with msix := Map.set (α := MsixEntry) x.msix v e })
    if go then s.send (.msix f v) else s

/-- A write of some length at an offset of function f's BAR0 (R656 to R660). -/
def State.barWrite (s : State) (f off t : Nat) (val : U64) (len : Nat) : State :=
  if len ≠ 8 ∨ off % 8 ≠ 0 ∨ !s.keeper.powered then s
  else if 0x1000 ≤ off ∧ off < 0x1400 then s.writeMsix f ((off - 0x1000) / 8) val
  else if f = 4 ∧ 0x8000000 ≤ off ∧ off < 0x8400000 then
    if s.romWaits then s.modKeeper (fun k => { k with window := k.window.writeN (off - 0x8000000) (leBytes 8 val.toNat) }) else s
  else match regPlace f off with
    | none => s
    | some (r, i) =>
      let own : Bool := r.info.space ≠ .quad || decide (f = 4) || quadWrites r
      if !s.reached r i then s
      else if r.info.perCore ≠ 0 then
        let v := i / r.info.perCore
        let k := i % r.info.perCore
        let s := s.onCoreReg v (fun c => if own then c.writeReg r k val (decide (f = 4) && s.runs (v / 64)) else c.clearReg r k val)
        if r = .CLK_CORE_CTRL ∧ own then (s.onCoreReg v (fun c => c.writeClock val (s.runs (v / 64)))).judgeClock v else s
      else if own then s.writeReg r i t val
      else s.clearReg r i val

/-- REGISTER_WRITE (R656, R657): a write through function f at drip t. -/
def execRegisterWrite (f : Fin 5) (off : BitVec 32) (val : U64) (len : Fin 9) (t : U64) (s : State) : Host.Outcome State Fault Refusal :=
  .next ((s.at' t.toNat).barWrite f off.toNat t.toNat val len)

/-- KPR_LOCK_SET (R661, R662): by keeper firmware. -/
def execKprLockSet (s : State) : Host.Outcome State Fault Refusal := .next (s.setBit .KPR_LOCK 0 0 true)

end Sys2Proof.Machine
end

