-- ==== Sys2Proof/Machine/Sideband.lean ====
section
/-! DEFINITION. The sideband (R538, R539): I3C common commands, private transfers over its map, and its requests. -/
namespace Sys2Proof.Machine

/-- Does the sideband answer (R539, R573): the always-on domain is powered and the keeper does not restart. -/
def State.sideLive (s : State) : Bool := s.keeper.powered && !s.restarting
/-- The sideband changed by a function, and the alert pin with it. -/
def State.modSide (s : State) (f : SideSt → SideSt) : State := (s.modKeeper (fun k => { k with side := f k.side })).alertPin
/-- The 7-bit static address (R538). -/
def State.staticAddr (s : State) : Nat :=
  match s.keeper.flash.install.use with | some x => x.i2c.getD 0x3A | none => 0x3A
/-- The provisioned ID, most significant byte first (R538). -/
def State.pidBytes (s : State) : List Byte := (leBytes 6 (Config.provisionedId (s.reg .KPR_FACTORY_ID 0)).toNat).reverse
/-- Bytes answered to a directed command, which needs a dynamic address. -/
def State.sideAnswer (s : State) (b : List Byte) : State :=
  if s.sideLive && s.keeper.side.addr.isSome then s.send (.sideband b) else s

/-- ENTDAA (R538): a target without a dynamic address sends its provisioned ID, BCR and DCR and takes the address. -/
def execEntdaa (addr : BitVec 7) (s : State) : Host.Outcome State Fault Refusal :=
  .next (
    if s.sideLive && s.keeper.side.addr.isNone then
      (s.send (.sideband (s.pidBytes ++ [Config.i3cBcr, Config.i3cDcr]))).modSide (fun x => { x with addr := some addr.toNat })
    else s)
/-- SETDASA (R538): a dynamic address given by the static one. -/
def execSetdasa (static addr : BitVec 7) (s : State) : Host.Outcome State Fault Refusal :=
  .next (
    if s.sideLive && s.keeper.side.addr.isNone && decide (static.toNat = s.staticAddr) then s.modSide (fun x => { x with addr := some addr.toNat })
    else s)
/-- RSTDAA (R538). -/
def execRstdaa (s : State) : Host.Outcome State Fault Refusal :=
  .next (if s.sideLive then s.modSide (fun x => { x with addr := none }) else s)
/-- ENEC (R538): bit 0 of the events byte enables in-band interrupts. -/
def execEnec (events : Byte) (s : State) : Host.Outcome State Fault Refusal :=
  .next (if s.sideLive && events.getLsbD 0 then s.modSide (fun x => { x with ibi := true }) else s)
/-- DISEC (R538). -/
def execDisec (events : Byte) (s : State) : Host.Outcome State Fault Refusal :=
  .next (if s.sideLive && events.getLsbD 0 then s.modSide (fun x => { x with ibi := false }) else s)
/-- GETSTATUS (R538): two bytes, whose contents the spec does not give: free values (DESIGN CHOICE, log entry 54). -/
def execGetstatus (s : State) : Host.Outcome State Fault Refusal :=
  let (w, s) := s.fresh
  .next (s.sideAnswer (leBytes 2 w.toNat))
/-- GETPID (R538). -/
def execGetpid (s : State) : Host.Outcome State Fault Refusal := .next (s.sideAnswer s.pidBytes)
/-- GETBCR (R538). -/
def execGetbcr (s : State) : Host.Outcome State Fault Refusal := .next (s.sideAnswer [Config.i3cBcr])
/-- GETDCR (R538). -/
def execGetdcr (s : State) : Host.Outcome State Fault Refusal := .next (s.sideAnswer [Config.i3cDcr])

/-! ### Requests (R539) -/

/-- The one-shot boot override (R539, R576): 1 A, 2 B. -/
def State.override (s : State) (n : Nat) : State := s.setFld .KPR_BOOT 0 9 8 n
/-- A request byte written: 1 device warm reset (source 9 of R549), 2 image B, 3 image A; others ask for nothing. -/
def State.sideRequest (s : State) (n : Nat) : State :=
  match n with
  | 1 => s.deviceReset { code := 9, scope := 1 }
  | 2 => s.override 2
  | 3 => s.override 1
  | _ => s

/-- WARM_RESET_REQUEST (R539, R549). -/
def execWarmResetRequest (s : State) : Host.Outcome State Fault Refusal := .next (if s.sideLive then s.sideRequest 1 else s)
/-- BOOT_IMAGE_B (R539). -/
def execBootImageB (s : State) : Host.Outcome State Fault Refusal := .next (if s.sideLive then s.sideRequest 2 else s)
/-- BOOT_IMAGE_A (R539). -/
def execBootImageA (s : State) : Host.Outcome State Fault Refusal := .next (if s.sideLive then s.sideRequest 3 else s)

/-! ### Transfers (R539) -/

/-- The hottest junction sensor, in units of 1/256 °C (R539, R599): sensors of the compute die and the stacked SRAM, and the diodes. -/
def State.hottest (s : State) : Int :=
  let l := (List.range 48 ++ rangeFrom 60 4).map (fun n => sext 16 (s.fld .PWR_TEMP n 15 0))
  l.foldl max (l.headD 0)

/-- Is a thermal cap lowered. -/
def State.throttling (s : State) : Bool := s.power.caps.any (fun (e : Nat × Nat) => decide (e.2 < 40))

/-- The word at offset 0x10. -/
def State.sideStatus (s : State) : Nat :=
  let b := fun (x : Bool) (k : Nat) => if x then 2 ^ k else 0
  s.tbState % 8 + b (s.bit .KPR_FW_STAT 0 22) 3 + b s.throttling 4 + b s.power.tripped 5 +
  b (s.runs 0) 6 + b (s.runs 1) 7 + b (s.runs 2) 8 + b (s.runs 3) 9

/-- The readable bytes of the map from offset 0 to 0x27; the request byte reads 0, and no other offset has a content. -/
def State.sideMap (s : State) : List Byte :=
  leBytes 8 (s.reg .KPR_FACTORY_ID 0).toNat ++ leBytes 8 (s.reg .KPR_IDENT 0).toNat ++ leBytes 4 s.sideStatus ++
  leBytes 2 (wordOfInt s.hottest).toNat ++ leBytes 2 (s.fld .PWR_IN_STAT 0 31 16) ++ leBytes 2 (s.fld .PWR_IN_STAT 0 15 0)

/-- The byte at an offset: those the map does not name are free values. -/
def State.sideRead (s : State) (o : Nat) : Byte × State :=
  let x := s.keeper.side
  if o < 0x1A then (s.sideMap.getD o 0, s)
  else if 0x20 ≤ o ∧ o < 0x24 then ((leBytes 4 x.causes).getD (o - 0x20) 0, s)
  else if 0x24 ≤ o ∧ o < 0x28 then ((leBytes 4 x.enables).getD (o - 0x24) 0, s)
  else if o = 0x28 then (0, s)
  else
    let (w, s) := s.fresh
    (BitVec.ofNat 8 w.toNat, s)

/-- A read of some bytes from an offset onward. -/
def State.sideReadN (s : State) : Nat → Nat → List Byte × State
  | _, 0 => ([], s)
  | o, n + 1 =>
    let (b, s) := s.sideRead (o % 256)
    let (bs, s) := s.sideReadN (o + 1) n
    (b :: bs, s)

/-- A byte written at an offset: read-only and unnamed bytes take nothing. -/
def State.sideWrite (s : State) (o : Nat) (b : Byte) : State :=
  let k := 8 * (o % 4)
  if 0x20 ≤ o ∧ o < 0x24 then s.modSide (fun x => { x with causes := x.causes &&& (2 ^ 32 - 1 - b.toNat * 2 ^ k) })
  else if o = 0x24 then s.modSide (fun x => { x with enables := b.toNat % 32 })
  else if o = 0x28 then s.sideRequest b.toNat
  else s

/-- SIDEBAND_TRANSFER (R539): an offset, then bytes to write, or with none a read of some bytes. -/
def execSidebandTransfer (offset : Byte) (write : List Byte) (len : BitVec 16) (s : State) : Host.Outcome State Fault Refusal :=
  .next (
    if !s.sideLive then s
    else if write.isEmpty then
      let (b, s) := s.sideReadN offset.toNat len.toNat
      s.send (.sideband b)
    else (s.each (write.zip (List.range write.length)) (fun s e => s.sideWrite ((offset.toNat + e.2) % 256) e.1)))

end Sys2Proof.Machine
end

