-- ==== Sys2Proof/Machine/Poll.lean ====
section
/-! DEFINITION. The idle poll (R275, R520, R537): plan-free commands of a quadrant function, and the commands of the management
function. -/
namespace Sys2Proof.Machine

/-- A command of the management function (R537, R571, R631, R641): those that need more of the host's memory, or of the flash, are
handed to the keeper. -/
def State.commandM (s : State) (ws : List U64) (block : Option (List Byte)) (t : Nat) : State :=
  let hand := s.modKeeper (fun k => { k with loads := k.loads ++ [(4, ws)] })
  match cmdOp ws with
  | 0x40 => hand
  | 0x41 => if s.keeper.flashOp.isSome then hand else s.fwActivate ws
  | 0x42 => s.fwCommit ws
  | 0x60 => s.cmdTelRing ws
  | 0x61 => s.cmdTraceRead ws
  | 0x63 => s.cmdDump 4 ws
  | 0x64 => s.cmdHangReport ws t
  | 0x68 => s.cmdDebugUnlock ws block
  | 0x69 => s.cmdDebugLock ws
  | 0x70 => hand
  | 0x71 => s.planStart 4 ws t
  | 0x72 => s.planUnload 4 ws
  | _ => s.doneM 0x30 ws

/-- Fetched commands of the management function, in ring order. -/
def State.applyM (s : State) (t : Nat) : State :=
  let (ready, rest) := readyPrefix t (s.func 4).fetched
  let s := s.modFunc 4 (fun x => { x with fetched := rest })
  s.each ready (fun s e => s.commandM (e.words.getD []) e.block t)

/-- The idle poll of a quadrant that runs no plan (R275); its supervisor changes bank when a live update waits for it (R572), and a dump
whose plan has gone ends. -/
def State.pollQuad (s : State) (q t : Nat) (p : HostPoll) : State :=
  if s.runs q ∨ (s.quad q).asleep ∨ (s.quad q).heldReset then s
  else
    let s := s.poll q (t + 1) p
    let s := s.applyDue q 0 t
    let s := match s.trace.dump with
      | some d => if d.quad = q then s.dumpEnd d 0x5A else s
      | none => s
    let s := ((s.each (List.range 128) (fun s n => s.freeSeq q n (s.epoch q))).sweepFailed q).sweepRetired q
    ((s.bankChange q).post q t).doorbell q

/-- The poll of the management function (R520, R537, R617, R628): it pauses while the keeper restarts (R573). -/
def State.pollMgmt (s : State) (t : Nat) (p : HostPoll) : State :=
  if s.restarting then s
  else
    let s := (s.poll 4 (t + 1) p).telPoll p.tel
    ((((s.hangOwn).applyM t).post 4 t).doorbell 4)

/-- IDLE_POLL (R275, R520): function f at a drip count that is a multiple of 2,048 (DESIGN CHOICE, log entry 91). -/
def execIdlePoll (f : Fin 5) (poll : HostPoll) (t : U64) (s : State) : Host.Outcome State Fault Refusal :=
  let s := s.at' t.toNat
  .next (if t.toNat % 2048 ≠ 0 then s else if f.val = 4 then s.pollMgmt t.toNat poll else s.pollQuad f t.toNat poll)

end Sys2Proof.Machine
end

