-- ==== Sys2Proof/Machine/Tap.lean ====
section
/-! DEFINITION. The test access port (R630, R680): the controller of IEEE 1149.1 (PRESUMED: the spec names the standard and gives no
more), with the debug level deciding which instructions it takes. -/
namespace Sys2Proof.Machine

/-- The state the controller enters at a rising edge of TCK (PRESUMED, log entry 89). -/
def TapState.next (x : TapState) (tms : Bool) : TapState :=
  match x, tms with
  | .reset, true => .reset
  | .reset, false => .idle
  | .idle, true => .selectDr
  | .idle, false => .idle
  | .selectDr, true => .selectIr
  | .selectDr, false => .captureDr
  | .captureDr, true => .exit1Dr
  | .captureDr, false => .shiftDr
  | .shiftDr, true => .exit1Dr
  | .shiftDr, false => .shiftDr
  | .exit1Dr, true => .updateDr
  | .exit1Dr, false => .pauseDr
  | .pauseDr, true => .exit2Dr
  | .pauseDr, false => .pauseDr
  | .exit2Dr, true => .updateDr
  | .exit2Dr, false => .shiftDr
  | .updateDr, true => .selectDr
  | .updateDr, false => .idle
  | .selectIr, true => .reset
  | .selectIr, false => .captureIr
  | .captureIr, true => .exit1Ir
  | .captureIr, false => .shiftIr
  | .shiftIr, true => .exit1Ir
  | .shiftIr, false => .shiftIr
  | .exit1Ir, true => .updateIr
  | .exit1Ir, false => .pauseIr
  | .pauseIr, true => .exit2Ir
  | .pauseIr, false => .pauseIr
  | .exit2Ir, true => .updateIr
  | .exit2Ir, false => .shiftIr
  | .updateIr, true => .selectDr
  | .updateIr, false => .idle

/-- The port changed by a function. -/
def State.modTap (s : State) (f : TapSt → TapSt) : State := { s with tap := f s.tap }

/-- A rising edge (R680): the register of the present state captures or shifts, and TMS moves the controller. -/
def State.tckRise (s : State) (tms tdi : Bool) : State :=
  let s := match s.tap.state with
    | .captureDr =>
      match s.tap.instr with
      | none => s.modTap (fun x => { x with shift := [false] })
      | some i =>
        let n := s.free
        let (_, s) := s.fresh
        s.modTap (fun x => { x with shift := Config.tapDrCapture i n })
    | .captureIr => s.modTap (fun x => { x with shift := Config.tapIrCapture })
    | .shiftDr | .shiftIr => s.modTap (fun x => { x with shift := x.shift.drop 1 ++ [tdi] })
    | _ => s
  s.modTap (fun x =>
    let n := x.state.next tms
    { x with state := n, instr := if n = .reset then none else x.instr })

/-- A falling edge (R630, R680): TDO follows the register in the shift states and is released in the others; Update-IR takes the
instruction, and one beyond boundary scan below debug level 2 is BYPASS. -/
def State.tckFall (s : State) : State :=
  match s.tap.state with
  | .shiftDr | .shiftIr =>
    let o := s.tap.shift.headD false
    (s.modTap (fun x => { x with tdo := some o })).send (.pin "TDO" o)
  | .updateIr =>
    let i := s.tap.shift
    let ok : Bool := Config.tapBoundary i || decide (2 ≤ s.fld .SEC_DBG_STAT 0 1 0)
    s.modTap (fun x => { x with tdo := none, instr := if ok then some i else none })
  | _ => s.modTap (fun x => { x with tdo := none })

/-- TCK_EDGE (R680). -/
def execTckEdge (rising tms tdi : Bool) (s : State) : Host.Outcome State Fault Refusal :=
  .next (if !s.keeper.powered then s else if rising then s.tckRise tms tdi else s.tckFall)

/-- TRST_N_LOW (R680): held low for some nanoseconds; below 100 it resets the port or not. -/
def execTrstNLow (ns : BitVec 32) (s : State) : Host.Outcome State Fault Refusal :=
  let go := fun (s : State) => s.modTap (fun x => { x with state := .reset, instr := none, tdo := none })
  .next (
    if 100 ≤ ns.toNat then go s
    else
      let (w, s) := s.fresh
      if bitAt w 0 then go s else s)

end Sys2Proof.Machine
end

