-- ==== Sys2Proof/Machine/Vector.lean ====
section
/-! DEFINITION. The vector engine's commands (R109, R110, R161 to R186): one for each function of VEW, VCVT, the reductions
and VGATHER. Each starts the head of queue 1 when that is the descriptor it names. -/
namespace Sys2Proof.Machine

/-- The vector engine's judgement of a head. -/
def vectorJudge : Judge := { queue := 1, check := fun s q c d => vectorCheck c d (s.sigCheck q d) }

/-- A vector descriptor executes with the given operation. -/
def vectorGo (f : Run → Desc → Run) (s : State) (p pos : Nat) (e : QEntry) : State :=
  s.work p 1 pos e (fun r => f r e.desc) id

/-- A VEW descriptor with a function code. -/
def isVew (func : Nat) (d : Desc) : Bool := d.op = 0 && d.vFunc = func

/-- A VRED descriptor with a reduction code. -/
def isVred (func : Nat) (d : Desc) : Bool := d.op = 2 && d.f 0 31 24 = func

/-- VEW_ADD (R168): a + b. -/
def execVewAdd (v : Fin 256) (waited : U64) (s : State) : Host.Outcome State Fault Refusal :=
  .next (s.startHead v vectorJudge (isVew 0x00) waited.toNat (vectorGo vectorVew))

/-- VEW_SUB (R168): a − b. -/
def execVewSub (v : Fin 256) (waited : U64) (s : State) : Host.Outcome State Fault Refusal :=
  .next (s.startHead v vectorJudge (isVew 0x01) waited.toNat (vectorGo vectorVew))

/-- VEW_MUL (R168): a × b. -/
def execVewMul (v : Fin 256) (waited : U64) (s : State) : Host.Outcome State Fault Refusal :=
  .next (s.startHead v vectorJudge (isVew 0x02) waited.toNat (vectorGo vectorVew))

/-- VEW_DIV (R168): a / b. -/
def execVewDiv (v : Fin 256) (waited : U64) (s : State) : Host.Outcome State Fault Refusal :=
  .next (s.startHead v vectorJudge (isVew 0x03) waited.toNat (vectorGo vectorVew))

/-- VEW_FMA (R168): a × b + c. -/
def execVewFma (v : Fin 256) (waited : U64) (s : State) : Host.Outcome State Fault Refusal :=
  .next (s.startHead v vectorJudge (isVew 0x04) waited.toNat (vectorGo vectorVew))

/-- VEW_FMS (R168): a × b − c. -/
def execVewFms (v : Fin 256) (waited : U64) (s : State) : Host.Outcome State Fault Refusal :=
  .next (s.startHead v vectorJudge (isVew 0x05) waited.toNat (vectorGo vectorVew))

/-- VEW_FMAI (R168): a × IMM + b. -/
def execVewFmai (v : Fin 256) (waited : U64) (s : State) : Host.Outcome State Fault Refusal :=
  .next (s.startHead v vectorJudge (isVew 0x06) waited.toNat (vectorGo vectorVew))

/-- VEW_MAXIMUM (R168): the larger of a and b. -/
def execVewMaximum (v : Fin 256) (waited : U64) (s : State) : Host.Outcome State Fault Refusal :=
  .next (s.startHead v vectorJudge (isVew 0x07) waited.toNat (vectorGo vectorVew))

/-- VEW_MINIMUM (R168): the smaller of a and b. -/
def execVewMinimum (v : Fin 256) (waited : U64) (s : State) : Host.Outcome State Fault Refusal :=
  .next (s.startHead v vectorJudge (isVew 0x08) waited.toNat (vectorGo vectorVew))

/-- VEW_ABS (R168): |a|. -/
def execVewAbs (v : Fin 256) (waited : U64) (s : State) : Host.Outcome State Fault Refusal :=
  .next (s.startHead v vectorJudge (isVew 0x09) waited.toNat (vectorGo vectorVew))

/-- VEW_NEG (R168): −a. -/
def execVewNeg (v : Fin 256) (waited : U64) (s : State) : Host.Outcome State Fault Refusal :=
  .next (s.startHead v vectorJudge (isVew 0x0A) waited.toNat (vectorGo vectorVew))

/-- VEW_MOV (R168): a. -/
def execVewMov (v : Fin 256) (waited : U64) (s : State) : Host.Outcome State Fault Refusal :=
  .next (s.startHead v vectorJudge (isVew 0x0B) waited.toNat (vectorGo vectorVew))

/-- VEW_MULFRAC (R168): the fraction of a × b. -/
def execVewMulfrac (v : Fin 256) (waited : U64) (s : State) : Host.Outcome State Fault Refusal :=
  .next (s.startHead v vectorJudge (isVew 0x0C) waited.toNat (vectorGo vectorVew))

/-- VEW_SQRT (R168): square root. -/
def execVewSqrt (v : Fin 256) (waited : U64) (s : State) : Host.Outcome State Fault Refusal :=
  .next (s.startHead v vectorJudge (isVew 0x0D) waited.toNat (vectorGo vectorVew))

/-- VEW_EXP2 (R168): 2^a. -/
def execVewExp2 (v : Fin 256) (waited : U64) (s : State) : Host.Outcome State Fault Refusal :=
  .next (s.startHead v vectorJudge (isVew 0x10) waited.toNat (vectorGo vectorVew))

/-- VEW_LOG2 (R168): log2 a. -/
def execVewLog2 (v : Fin 256) (waited : U64) (s : State) : Host.Outcome State Fault Refusal :=
  .next (s.startHead v vectorJudge (isVew 0x11) waited.toNat (vectorGo vectorVew))

/-- VEW_RECIP (R168): 1 / a. -/
def execVewRecip (v : Fin 256) (waited : U64) (s : State) : Host.Outcome State Fault Refusal :=
  .next (s.startHead v vectorJudge (isVew 0x12) waited.toNat (vectorGo vectorVew))

/-- VEW_RSQRT (R168): 1 / √a. -/
def execVewRsqrt (v : Fin 256) (waited : U64) (s : State) : Host.Outcome State Fault Refusal :=
  .next (s.startHead v vectorJudge (isVew 0x13) waited.toNat (vectorGo vectorVew))

/-- VEW_STURN (R168): sin 2πa. -/
def execVewSturn (v : Fin 256) (waited : U64) (s : State) : Host.Outcome State Fault Refusal :=
  .next (s.startHead v vectorJudge (isVew 0x14) waited.toNat (vectorGo vectorVew))

/-- VEW_CTURN (R168): cos 2πa. -/
def execVewCturn (v : Fin 256) (waited : U64) (s : State) : Host.Outcome State Fault Refusal :=
  .next (s.startHead v vectorJudge (isVew 0x15) waited.toNat (vectorGo vectorVew))

/-- VEW_TANH (R168): tanh a. -/
def execVewTanh (v : Fin 256) (waited : U64) (s : State) : Host.Outcome State Fault Refusal :=
  .next (s.startHead v vectorJudge (isVew 0x16) waited.toNat (vectorGo vectorVew))

/-- VEW_SIGMOID (R168): the logistic function. -/
def execVewSigmoid (v : Fin 256) (waited : U64) (s : State) : Host.Outcome State Fault Refusal :=
  .next (s.startHead v vectorJudge (isVew 0x17) waited.toNat (vectorGo vectorVew))

/-- VEW_ERF (R168): erf a. -/
def execVewErf (v : Fin 256) (waited : U64) (s : State) : Host.Outcome State Fault Refusal :=
  .next (s.startHead v vectorJudge (isVew 0x18) waited.toNat (vectorGo vectorVew))

/-- VEW_SILU (R168): a × sigmoid a. -/
def execVewSilu (v : Fin 256) (waited : U64) (s : State) : Host.Outcome State Fault Refusal :=
  .next (s.startHead v vectorJudge (isVew 0x19) waited.toNat (vectorGo vectorVew))

/-- VCVT (R172 to R174). -/
def execVcvt (v : Fin 256) (waited : U64) (s : State) : Host.Outcome State Fault Refusal :=
  .next (s.startHead v vectorJudge (fun d => d.op = 1) waited.toNat (vectorGo vectorVcvt))

/-- VRED_SUM (R175 to R177): the exact row sum. -/
def execVredSum (v : Fin 256) (waited : U64) (s : State) : Host.Outcome State Fault Refusal :=
  .next (s.startHead v vectorJudge (isVred 0) waited.toNat (vectorGo vectorVred))

/-- VRED_SUMSQ (R175 to R177): the exact sum of squares. -/
def execVredSumsq (v : Fin 256) (waited : U64) (s : State) : Host.Outcome State Fault Refusal :=
  .next (s.startHead v vectorJudge (isVred 1) waited.toNat (vectorGo vectorVred))

/-- VRED_MAX (R175 to R177): the row maximum. -/
def execVredMax (v : Fin 256) (waited : U64) (s : State) : Host.Outcome State Fault Refusal :=
  .next (s.startHead v vectorJudge (isVred 2) waited.toNat (vectorGo vectorVred))

/-- VRED_MIN (R175 to R177): the row minimum. -/
def execVredMin (v : Fin 256) (waited : U64) (s : State) : Host.Outcome State Fault Refusal :=
  .next (s.startHead v vectorJudge (isVred 3) waited.toNat (vectorGo vectorVred))

/-- VRED_PSUM (R175 to R177): the sum of wide partials. -/
def execVredPsum (v : Fin 256) (waited : U64) (s : State) : Host.Outcome State Fault Refusal :=
  .next (s.startHead v vectorJudge (isVred 4) waited.toNat (vectorGo vectorVred))

/-- VGATHER (R178). -/
def execVgather (v : Fin 256) (waited : U64) (s : State) : Host.Outcome State Fault Refusal :=
  .next (s.startHead v vectorJudge (fun d => d.op = 3) waited.toNat (vectorGo vectorGather))

end Sys2Proof.Machine
end

