-- ==== Sys2Proof/Machine/Dispatch.lean ====
section
/-! DEFINITION. The dispatch of a command to its meaning: one arm per constructor. -/
namespace Sys2Proof.Machine

def exec (i : Instr) (s : State) : Host.Outcome State Fault Refusal :=
  match i with
  | .add v rd rs1 rs2 => Sys2Proof.Machine.execAdd v rd rs1 rs2 s
  | .sub v rd rs1 rs2 => Sys2Proof.Machine.execSub v rd rs1 rs2 s
  | .and v rd rs1 rs2 => Sys2Proof.Machine.execAnd v rd rs1 rs2 s
  | .or v rd rs1 rs2 => Sys2Proof.Machine.execOr v rd rs1 rs2 s
  | .xor v rd rs1 rs2 => Sys2Proof.Machine.execXor v rd rs1 rs2 s
  | .sll v rd rs1 rs2 => Sys2Proof.Machine.execSll v rd rs1 rs2 s
  | .srl v rd rs1 rs2 => Sys2Proof.Machine.execSrl v rd rs1 rs2 s
  | .sra v rd rs1 rs2 => Sys2Proof.Machine.execSra v rd rs1 rs2 s
  | .slt v rd rs1 rs2 => Sys2Proof.Machine.execSlt v rd rs1 rs2 s
  | .sltu v rd rs1 rs2 => Sys2Proof.Machine.execSltu v rd rs1 rs2 s
  | .min v rd rs1 rs2 => Sys2Proof.Machine.execMin v rd rs1 rs2 s
  | .max v rd rs1 rs2 => Sys2Proof.Machine.execMax v rd rs1 rs2 s
  | .mul v rd rs1 rs2 => Sys2Proof.Machine.execMul v rd rs1 rs2 s
  | .mulhu v rd rs1 rs2 => Sys2Proof.Machine.execMulhu v rd rs1 rs2 s
  | .addi v rd rs1 imm => Sys2Proof.Machine.execAddi v rd rs1 imm s
  | .andi v rd rs1 imm => Sys2Proof.Machine.execAndi v rd rs1 imm s
  | .ori v rd rs1 imm => Sys2Proof.Machine.execOri v rd rs1 imm s
  | .xori v rd rs1 imm => Sys2Proof.Machine.execXori v rd rs1 imm s
  | .slli v rd rs1 imm => Sys2Proof.Machine.execSlli v rd rs1 imm s
  | .srli v rd rs1 imm => Sys2Proof.Machine.execSrli v rd rs1 imm s
  | .srai v rd rs1 imm => Sys2Proof.Machine.execSrai v rd rs1 imm s
  | .slti v rd rs1 imm => Sys2Proof.Machine.execSlti v rd rs1 imm s
  | .lui v rd imm => Sys2Proof.Machine.execLui v rd imm s
  | .ld v rd rs1 imm => Sys2Proof.Machine.execLd v rd rs1 imm s
  | .st v rs rs1 imm => Sys2Proof.Machine.execSt v rs rs1 imm s
  | .beq v rs1 rs2 off => Sys2Proof.Machine.execBeq v rs1 rs2 off s
  | .bne v rs1 rs2 off => Sys2Proof.Machine.execBne v rs1 rs2 off s
  | .blt v rs1 rs2 off => Sys2Proof.Machine.execBlt v rs1 rs2 off s
  | .bge v rs1 rs2 off => Sys2Proof.Machine.execBge v rs1 rs2 off s
  | .bltu v rs1 rs2 off => Sys2Proof.Machine.execBltu v rs1 rs2 off s
  | .bgeu v rs1 rs2 off => Sys2Proof.Machine.execBgeu v rs1 rs2 off s
  | .jal v rd off => Sys2Proof.Machine.execJal v rd off s
  | .jalr v rd rs1 imm => Sys2Proof.Machine.execJalr v rd rs1 imm s
  | .aset v a sr imm => Sys2Proof.Machine.execAset v a sr imm s
  | .astr v a sr imm => Sys2Proof.Machine.execAstr v a sr imm s
  | .awrp v a sr imm => Sys2Proof.Machine.execAwrp v a sr imm s
  | .aoff v a sr imm => Sys2Proof.Machine.execAoff v a sr imm s
  | .astep v a sr imm => Sys2Proof.Machine.execAstep v a sr imm s
  | .ainc v a sr imm => Sys2Proof.Machine.execAinc v a sr imm s
  | .ard v a sr imm => Sys2Proof.Machine.execArd v a sr imm s
  | .lic v c imm => Sys2Proof.Machine.execLic v c imm s
  | .mvc v c sr imm => Sys2Proof.Machine.execMvc v c sr imm s
  | .rdc v c sr => Sys2Proof.Machine.execRdc v c sr s
  | .loop v c len => Sys2Proof.Machine.execLoop v c len s
  | .lidx v level sr => Sys2Proof.Machine.execLidx v level sr s
  | .tld v b idx => Sys2Proof.Machine.execTld v b idx s
  | .patch v b word lsb width src kind post => Sys2Proof.Machine.execPatch v b word lsb width src kind post s
  | .push v b q => Sys2Proof.Machine.execPush v b q s
  | .pushStallEnd v stall => Sys2Proof.Machine.execPushStallEnd v stall s
  | .waitdrip v => Sys2Proof.Machine.execWaitdrip v s
  | .frameOpen v t stall => Sys2Proof.Machine.execFrameOpen v t stall s
  | .waitdripForm1 v sr imm => Sys2Proof.Machine.execWaitdripForm1 v sr imm s
  | .waitdripForm1Return v t stall => Sys2Proof.Machine.execWaitdripForm1Return v t stall s
  | .waitq v q count => Sys2Proof.Machine.execWaitq v q count s
  | .waitqReturn v stall => Sys2Proof.Machine.execWaitqReturn v stall s
  | .waitev v ev sr imm => Sys2Proof.Machine.execWaitev v ev sr imm s
  | .waitevReturn v stall => Sys2Proof.Machine.execWaitevReturn v stall s
  | .epochend v t => Sys2Proof.Machine.execEpochend v t s
  | .gete v sr sel => Sys2Proof.Machine.execGete v sr sel s
  | .evrd v ev sr imm => Sys2Proof.Machine.execEvrd v ev sr imm s
  | .ason v => Sys2Proof.Machine.execAson v s
  | .rddrip v rd t => Sys2Proof.Machine.execRddrip v rd t s
  | .nop v => Sys2Proof.Machine.execNop v s
  | .halt v => Sys2Proof.Machine.execHalt v s
  | .spush v idx q => Sys2Proof.Machine.execSpush v idx q s
  | .sdef v a sr imm => Sys2Proof.Machine.execSdef v a sr imm s
  | .sloop v c len => Sys2Proof.Machine.execSloop v c len s
  | .asoff v => Sys2Proof.Machine.execAsoff v s
  | .controlStateError p t double => Sys2Proof.Machine.execControlStateError p t double s
  | .sequencerWatchdog v t => Sys2Proof.Machine.execSequencerWatchdog v t s
  | .seqRunStart v => Sys2Proof.Machine.execSeqRunStart v s
  | .seqRunStop v => Sys2Proof.Machine.execSeqRunStop v s
  | .nextEpochWrite v t => Sys2Proof.Machine.execNextEpochWrite v t s
  | .mmul v waited => Sys2Proof.Machine.execMmul v waited s
  | .anchor v waited => Sys2Proof.Machine.execAnchor v waited s
  | .wpadd v waited => Sys2Proof.Machine.execWpadd v waited s
  | .residueMismatch v n => Sys2Proof.Machine.execResidueMismatch v n s
  | .vewAdd v waited => Sys2Proof.Machine.execVewAdd v waited s
  | .vewSub v waited => Sys2Proof.Machine.execVewSub v waited s
  | .vewMul v waited => Sys2Proof.Machine.execVewMul v waited s
  | .vewDiv v waited => Sys2Proof.Machine.execVewDiv v waited s
  | .vewFma v waited => Sys2Proof.Machine.execVewFma v waited s
  | .vewFms v waited => Sys2Proof.Machine.execVewFms v waited s
  | .vewFmai v waited => Sys2Proof.Machine.execVewFmai v waited s
  | .vewMaximum v waited => Sys2Proof.Machine.execVewMaximum v waited s
  | .vewMinimum v waited => Sys2Proof.Machine.execVewMinimum v waited s
  | .vewAbs v waited => Sys2Proof.Machine.execVewAbs v waited s
  | .vewNeg v waited => Sys2Proof.Machine.execVewNeg v waited s
  | .vewMov v waited => Sys2Proof.Machine.execVewMov v waited s
  | .vewMulfrac v waited => Sys2Proof.Machine.execVewMulfrac v waited s
  | .vewSqrt v waited => Sys2Proof.Machine.execVewSqrt v waited s
  | .vewExp2 v waited => Sys2Proof.Machine.execVewExp2 v waited s
  | .vewLog2 v waited => Sys2Proof.Machine.execVewLog2 v waited s
  | .vewRecip v waited => Sys2Proof.Machine.execVewRecip v waited s
  | .vewRsqrt v waited => Sys2Proof.Machine.execVewRsqrt v waited s
  | .vewSturn v waited => Sys2Proof.Machine.execVewSturn v waited s
  | .vewCturn v waited => Sys2Proof.Machine.execVewCturn v waited s
  | .vewTanh v waited => Sys2Proof.Machine.execVewTanh v waited s
  | .vewSigmoid v waited => Sys2Proof.Machine.execVewSigmoid v waited s
  | .vewErf v waited => Sys2Proof.Machine.execVewErf v waited s
  | .vewSilu v waited => Sys2Proof.Machine.execVewSilu v waited s
  | .vcvt v waited => Sys2Proof.Machine.execVcvt v waited s
  | .vredSum v waited => Sys2Proof.Machine.execVredSum v waited s
  | .vredSumsq v waited => Sys2Proof.Machine.execVredSumsq v waited s
  | .vredMax v waited => Sys2Proof.Machine.execVredMax v waited s
  | .vredMin v waited => Sys2Proof.Machine.execVredMin v waited s
  | .vredPsum v waited => Sys2Proof.Machine.execVredPsum v waited s
  | .vgather v waited => Sys2Proof.Machine.execVgather v waited s
  | .copy v waited => Sys2Proof.Machine.execCopy v waited s
  | .fill v waited => Sys2Proof.Machine.execFill v waited s
  | .slowIn v waited found => Sys2Proof.Machine.execSlowIn v waited found s
  | .slowOut v waited bad => Sys2Proof.Machine.execSlowOut v waited bad s
  | .pull v waited => Sys2Proof.Machine.execPull v waited s
  | .pullRequest v => Sys2Proof.Machine.execPullRequest v s
  | .send v waited => Sys2Proof.Machine.execSend v waited s
  | .recv v waited => Sys2Proof.Machine.execRecv v waited s
  | .esend v waited => Sys2Proof.Machine.execEsend v waited s
  | .eread v waited => Sys2Proof.Machine.execEread v waited s
  | .descriptorComplete v q pos t => Sys2Proof.Machine.execDescriptorComplete v q pos t s
  | .peerEventSignal v ev => Sys2Proof.Machine.execPeerEventSignal v ev s
  | .supervisorSignal v tag => Sys2Proof.Machine.execSupervisorSignal v tag s
  | .plannedDataArrival v flow data crcs => Sys2Proof.Machine.execPlannedDataArrival v flow data crcs s
  | .flush v => Sys2Proof.Machine.execFlush v s
  | .faultRecordForward q => Sys2Proof.Machine.execFaultRecordForward q s
  | .planFaultNotice q => Sys2Proof.Machine.execPlanFaultNotice q s
  | .crystalWriteBack p => Sys2Proof.Machine.execCrystalWriteBack p s
  | .recrystallisationDone v found => Sys2Proof.Machine.execRecrystallisationDone v found s
  | .coreRegionWrite v n val keeper => Sys2Proof.Machine.execCoreRegionWrite v n val keeper s
  | .portShareWrite v val => Sys2Proof.Machine.execPortShareWrite v val s
  | .hbmRefresh q hot => Sys2Proof.Machine.execHbmRefresh q hot s
  | .patrolScrub q sec ondie bad => Sys2Proof.Machine.execPatrolScrub q sec ondie bad s
  | .load q entry block => Sys2Proof.Machine.execLoad q entry block s
  | .storageReadResponse q port frame t => Sys2Proof.Machine.execStorageReadResponse q port frame t s
  | .storageReadTimeout q => Sys2Proof.Machine.execStorageReadTimeout q s
  | .outstandingLimitRaise q t => Sys2Proof.Machine.execOutstandingLimitRaise q t s
  | .ingestStreamDone q found => Sys2Proof.Machine.execIngestStreamDone q found s
  | .bar2Write q off data => Sys2Proof.Machine.execBar2Write q off data s
  | .bar2Read q off len found => Sys2Proof.Machine.execBar2Read q off len found s
  | .unload q entry => Sys2Proof.Machine.execUnload q entry s
  | .retire q entry => Sys2Proof.Machine.execRetire q entry s
  | .digestRecheck q t => Sys2Proof.Machine.execDigestRecheck q t s
  | .recheckDone q t found => Sys2Proof.Machine.execRecheckDone q t found s
  | .boundarySnapshot q poll no => Sys2Proof.Machine.execBoundarySnapshot q poll no s
  | .idlePoll f poll t => Sys2Proof.Machine.execIdlePoll f poll t s
  | .hostFetchComplete f entry block => Sys2Proof.Machine.execHostFetchComplete f entry block s
  | .admitSequence q entry block => Sys2Proof.Machine.execAdmitSequence q entry block s
  | .cancel q entry => Sys2Proof.Machine.execCancel q entry s
  | .endSequence q entry => Sys2Proof.Machine.execEndSequence q entry s
  | .abort q entry => Sys2Proof.Machine.execAbort q entry s
  | .cut q entry => Sys2Proof.Machine.execCut q entry s
  | .acctSet q entry => Sys2Proof.Machine.execAcctSet q entry s
  | .acctCredit q entry => Sys2Proof.Machine.execAcctCredit q entry s
  | .variantReq q entry => Sys2Proof.Machine.execVariantReq q entry s
  | .createRing q entry => Sys2Proof.Machine.execCreateRing q entry s
  | .deleteRing q entry => Sys2Proof.Machine.execDeleteRing q entry s
  | .bindRings q entry => Sys2Proof.Machine.execBindRings q entry s
  | .inputFrame q ring entry payload => Sys2Proof.Machine.execInputFrame q ring entry payload s
  | .gatewayFrameWrite q slot => Sys2Proof.Machine.execGatewayFrameWrite q slot s
  | .promptChunkWrite q slot chunk data => Sys2Proof.Machine.execPromptChunkWrite q slot chunk data s
  | .admHeadRead q => Sys2Proof.Machine.execAdmHeadRead q s
  | .admReturn q val => Sys2Proof.Machine.execAdmReturn q val s
  | .admWmarkWrite q val => Sys2Proof.Machine.execAdmWmarkWrite q val s
  | .loadReport q k metrics => Sys2Proof.Machine.execLoadReport q k metrics s
  | .commitSignal v tag => Sys2Proof.Machine.execCommitSignal v tag s
  | .drawRequest v tag => Sys2Proof.Machine.execDrawRequest v tag s
  | .samplerDraw q => Sys2Proof.Machine.execSamplerDraw q s
  | .drawComplete q => Sys2Proof.Machine.execDrawComplete q s
  | .commitApply q row t => Sys2Proof.Machine.execCommitApply q row t s
  | .meshFlitArrival p input cycle flit response user exit => Sys2Proof.Machine.execMeshFlitArrival p input cycle flit response user exit s
  | .slotTableParityError q => Sys2Proof.Machine.execSlotTableParityError q s
  | .mshSwapArm q count => Sys2Proof.Machine.execMshSwapArm q count s
  | .meshBankSwap q t => Sys2Proof.Machine.execMeshBankSwap q t s
  | .linkUnitTransmit port t => Sys2Proof.Machine.execLinkUnitTransmit port t s
  | .linkUnitReceive port words t => Sys2Proof.Machine.execLinkUnitReceive port words t s
  | .ackTimer port t => Sys2Proof.Machine.execAckTimer port t s
  | .replayTimeout port t => Sys2Proof.Machine.execReplayTimeout port t s
  | .probeBurst port => Sys2Proof.Machine.execProbeBurst port s
  | .probeReceive port probe => Sys2Proof.Machine.execProbeReceive port probe s
  | .lanesLocked port lanes => Sys2Proof.Machine.execLanesLocked port lanes s
  | .alignDone port skew => Sys2Proof.Machine.execAlignDone port skew s
  | .acquireTimeout port => Sys2Proof.Machine.execAcquireTimeout port s
  | .alignTimeout port => Sys2Proof.Machine.execAlignTimeout port s
  | .exchangeTimeout port => Sys2Proof.Machine.execExchangeTimeout port s
  | .ident port id valid factory peerPort digestActive digestInactive => Sys2Proof.Machine.execIdent port id valid factory peerPort digestActive digestInactive s
  | .sync port point t => Sys2Proof.Machine.execSync port point t s
  | .digest port digest => Sys2Proof.Machine.execDigest port digest s
  | .lossOfSignal port t => Sys2Proof.Machine.execLossOfSignal port t s
  | .retrainSymbol port t => Sys2Proof.Machine.execRetrainSymbol port t s
  | .retrainPhaseDone port lanes skew t => Sys2Proof.Machine.execRetrainPhaseDone port lanes skew t s
  | .retrainPhaseTimeout port => Sys2Proof.Machine.execRetrainPhaseTimeout port s
  | .reconfigSymbol port data => Sys2Proof.Machine.execReconfigSymbol port data s
  | .errorWindow port t => Sys2Proof.Machine.execErrorWindow port t s
  | .linkEnable port => Sys2Proof.Machine.execLinkEnable port s
  | .linkDisable port t => Sys2Proof.Machine.execLinkDisable port t s
  | .apply port => Sys2Proof.Machine.execApply port s
  | .retrain port t => Sys2Proof.Machine.execRetrain port t s
  | .lnkSwapArm port count => Sys2Proof.Machine.execLnkSwapArm port count s
  | .linkBankSwap port t => Sys2Proof.Machine.execLinkBankSwap port t s
  | .txBankToggle port => Sys2Proof.Machine.execTxBankToggle port s
  | .elasticPacketReceive port pkt => Sys2Proof.Machine.execElasticPacketReceive port pkt s
  | .elasticTargetArrival q pkt t => Sys2Proof.Machine.execElasticTargetArrival q pkt t s
  | .flaggedHoldTimeout v win id t => Sys2Proof.Machine.execFlaggedHoldTimeout v win id t s
  | .elasticResponse q pkt t => Sys2Proof.Machine.execElasticResponse q pkt t s
  | .elasticRetryTimeout q win id t => Sys2Proof.Machine.execElasticRetryTimeout q win id t s
  | .windowWaitEnd q win t => Sys2Proof.Machine.execWindowWaitEnd q win t s
  | .timeMarkSend port t frac => Sys2Proof.Machine.execTimeMarkSend port t frac s
  | .timeMarkReceive port mark t frac => Sys2Proof.Machine.execTimeMarkReceive port mark t frac s
  | .timeMessageSend port t => Sys2Proof.Machine.execTimeMessageSend port t s
  | .timeMessage port payload t => Sys2Proof.Machine.execTimeMessage port payload t s
  | .stratumHoldExpiry t => Sys2Proof.Machine.execStratumHoldExpiry t s
  | .gmElectionTimeout t => Sys2Proof.Machine.execGmElectionTimeout t s
  | .holdoverLimit t => Sys2Proof.Machine.execHoldoverLimit t s
  | .timebaseLockLoss t => Sys2Proof.Machine.execTimebaseLockLoss t s
  | .arrive t => Sys2Proof.Machine.execArrive t s
  | .epoch0 t => Sys2Proof.Machine.execEpoch0 t s
  | .hold t => Sys2Proof.Machine.execHold t s
  | .arriveSymbol port code t => Sys2Proof.Machine.execArriveSymbol port code t s
  | .releaseSymbol port code t => Sys2Proof.Machine.execReleaseSymbol port code t s
  | .epoch0Symbol port code t => Sys2Proof.Machine.execEpoch0Symbol port code t s
  | .loadLateMessage id mask drip => Sys2Proof.Machine.execLoadLateMessage id mask drip s
  | .holdSymbol port code t => Sys2Proof.Machine.execHoldSymbol port code t s
  | .releaseFire t => Sys2Proof.Machine.execReleaseFire t s
  | .epoch0Fire t => Sys2Proof.Machine.execEpoch0Fire t s
  | .holdFire t => Sys2Proof.Machine.execHoldFire t s
  | .variantNotice q v ks count t => Sys2Proof.Machine.execVariantNotice q v ks count t s
  | .switchConfirm q ks t => Sys2Proof.Machine.execSwitchConfirm q ks t s
  | .variantSwitch q => Sys2Proof.Machine.execVariantSwitch q s
  | .monitorWarning v win => Sys2Proof.Machine.execMonitorWarning v win s
  | .clockStep v => Sys2Proof.Machine.execClockStep v s
  | .marginFall v => Sys2Proof.Machine.execMarginFall v s
  | .marginRaise v => Sys2Proof.Machine.execMarginRaise v s
  | .coreClockLockLoss v => Sys2Proof.Machine.execCoreClockLockLoss v s
  | .clockTargetWrite v val => Sys2Proof.Machine.execClockTargetWrite v val s
  | .cordonCore p => Sys2Proof.Machine.execCordonCore p s
  | .cordonPort port t => Sys2Proof.Machine.execCordonPort port t s
  | .cordonQuadrant q => Sys2Proof.Machine.execCordonQuadrant q s
  | .releaseCore p => Sys2Proof.Machine.execReleaseCore p s
  | .coreSelfTestDone p pass => Sys2Proof.Machine.execCoreSelfTestDone p pass s
  | .releasePort port => Sys2Proof.Machine.execReleasePort port s
  | .releaseQuadrant q => Sys2Proof.Machine.execReleaseQuadrant q s
  | .recoveryEventReport q src event => Sys2Proof.Machine.execRecoveryEventReport q src event s
  | .recoveryPendingNotice q => Sys2Proof.Machine.execRecoveryPendingNotice q s
  | .flowCopyDone v fill whole => Sys2Proof.Machine.execFlowCopyDone v fill whole s
  | .restartNotice q kr m => Sys2Proof.Machine.execRestartNotice q kr m s
  | .restartStop q => Sys2Proof.Machine.execRestartStop q s
  | .restartLaunch q t => Sys2Proof.Machine.execRestartLaunch q t s
  | .standbyRestoreDone q role v k kv slots fill device quad => Sys2Proof.Machine.execStandbyRestoreDone q role v k kv slots fill device quad s
  | .mirrorDelta q record => Sys2Proof.Machine.execMirrorDelta q record s
  | .mirrorAck q slot dseq => Sys2Proof.Machine.execMirrorAck q slot dseq s
  | .weightChangeNotice q kw => Sys2Proof.Machine.execWeightChangeNotice q kw s
  | .weightChange q t => Sys2Proof.Machine.execWeightChange q t s
  | .linkUnitCorruption n => Sys2Proof.Machine.execLinkUnitCorruption n s
  | .forcedRetrain n t => Sys2Proof.Machine.execForcedRetrain n t s
  | .residueInjection n => Sys2Proof.Machine.execResidueInjection n s
  | .crystalSymbolError n => Sys2Proof.Machine.execCrystalSymbolError n s
  | .rehearsalCordon n => Sys2Proof.Machine.execRehearsalCordon n s
  | .mirrorPromotion n copy => Sys2Proof.Machine.execMirrorPromotion n copy s
  | .functionEnable f => Sys2Proof.Machine.execFunctionEnable f s
  | .functionDisable f => Sys2Proof.Machine.execFunctionDisable f s
  | .hostRequestError f => Sys2Proof.Machine.execHostRequestError f s
  | .functionLevelReset f => Sys2Proof.Machine.execFunctionLevelReset f s
  | .perst link => Sys2Proof.Machine.execPerst link s
  | .entdaa addr => Sys2Proof.Machine.execEntdaa addr s
  | .setdasa static addr => Sys2Proof.Machine.execSetdasa static addr s
  | .rstdaa => Sys2Proof.Machine.execRstdaa s
  | .enec events => Sys2Proof.Machine.execEnec events s
  | .disec events => Sys2Proof.Machine.execDisec events s
  | .getstatus => Sys2Proof.Machine.execGetstatus s
  | .getpid => Sys2Proof.Machine.execGetpid s
  | .getbcr => Sys2Proof.Machine.execGetbcr s
  | .getdcr => Sys2Proof.Machine.execGetdcr s
  | .warmResetRequest => Sys2Proof.Machine.execWarmResetRequest s
  | .bootImageB => Sys2Proof.Machine.execBootImageB s
  | .bootImageA => Sys2Proof.Machine.execBootImageA s
  | .powerOn uv => Sys2Proof.Machine.execPowerOn uv s
  | .sysRstN ns => Sys2Proof.Machine.execSysRstN ns s
  | .keeperWatchdog => Sys2Proof.Machine.execKeeperWatchdog s
  | .deviceColdReset => Sys2Proof.Machine.execDeviceColdReset s
  | .deviceWarmReset => Sys2Proof.Machine.execDeviceWarmReset s
  | .quadrantReset mask => Sys2Proof.Machine.execQuadrantReset mask s
  | .remoteReset msg t => Sys2Proof.Machine.execRemoteReset msg t s
  | .flashOperationDone ok => Sys2Proof.Machine.execFlashOperationDone ok s
  | .blockReset block index timeout => Sys2Proof.Machine.execBlockReset block index timeout s
  | .blockIdle => Sys2Proof.Machine.execBlockIdle s
  | .blockResetTimeout => Sys2Proof.Machine.execBlockResetTimeout s
  | .domainStart d => Sys2Proof.Machine.execDomainStart d s
  | .hbmTrained => Sys2Proof.Machine.execHbmTrained s
  | .loadGo => Sys2Proof.Machine.execLoadGo s
  | .networkBootRetry port0 port1 => Sys2Proof.Machine.execNetworkBootRetry port0 port1 s
  | .fwStage entry image => Sys2Proof.Machine.execFwStage entry image s
  | .fwActivate entry => Sys2Proof.Machine.execFwActivate entry s
  | .liveSupervisorUpdate kf => Sys2Proof.Machine.execLiveSupervisorUpdate kf s
  | .supervisorBankChange q => Sys2Proof.Machine.execSupervisorBankChange q s
  | .liveKeeperUpdate t => Sys2Proof.Machine.execLiveKeeperUpdate t s
  | .updateWindowRequest id t => Sys2Proof.Machine.execUpdateWindowRequest id t s
  | .fwCommit entry => Sys2Proof.Machine.execFwCommit entry s
  | .quadrantSleep q => Sys2Proof.Machine.execQuadrantSleep q s
  | .quadrantWake q => Sys2Proof.Machine.execQuadrantWake q s
  | .deepIdleEnter => Sys2Proof.Machine.execDeepIdleEnter s
  | .deepIdleExit => Sys2Proof.Machine.execDeepIdleExit s
  | .governorSample demand phases => Sys2Proof.Machine.execGovernorSample demand phases s
  | .ceilingCompare watts v => Sys2Proof.Machine.execCeilingCompare watts v s
  | .vinOutOfRange v => Sys2Proof.Machine.execVinOutOfRange v s
  | .vinShutdown v => Sys2Proof.Machine.execVinShutdown v s
  | .vauxLoss => Sys2Proof.Machine.execVauxLoss s
  | .referenceLoss t => Sys2Proof.Machine.execReferenceLoss t s
  | .domainFault d t => Sys2Proof.Machine.execDomainFault d t s
  | .sensorReading n temp valid => Sys2Proof.Machine.execSensorReading n temp valid s
  | .thermalCapStep k => Sys2Proof.Machine.execThermalCapStep k s
  | .tripLatchClear => Sys2Proof.Machine.execTripLatchClear s
  | .tempPeakClr n => Sys2Proof.Machine.execTempPeakClr n s
  | .telemetrySample t volts optics => Sys2Proof.Machine.execTelemetrySample t volts optics s
  | .traceRecord q w0 w1 w2 w3 lost => Sys2Proof.Machine.execTraceRecord q w0 w1 w2 w3 lost s
  | .traceWindowEnd t => Sys2Proof.Machine.execTraceWindowEnd t s
  | .echoFrame waited => Sys2Proof.Machine.execEchoFrame waited s
  | .arm => Sys2Proof.Machine.execArm s
  | .swTrigger t => Sys2Proof.Machine.execSwTrigger t s
  | .unfreeze => Sys2Proof.Machine.execUnfreeze s
  | .telRing entry => Sys2Proof.Machine.execTelRing entry s
  | .traceRead entry => Sys2Proof.Machine.execTraceRead entry s
  | .dump f entry => Sys2Proof.Machine.execDump f entry s
  | .dumpCopyDone => Sys2Proof.Machine.execDumpCopyDone s
  | .hangReport entry t => Sys2Proof.Machine.execHangReport entry t s
  | .hangQuery id node => Sys2Proof.Machine.execHangQuery id node s
  | .debugUnlock entry block => Sys2Proof.Machine.execDebugUnlock entry block s
  | .debugLock entry => Sys2Proof.Machine.execDebugLock entry s
  | .secDbgNonceRead => Sys2Proof.Machine.execSecDbgNonceRead s
  | .pmcSelWrite v n val => Sys2Proof.Machine.execPmcSelWrite v n val s
  | .sbPeakClr v => Sys2Proof.Machine.execSbPeakClr v s
  | .lateClr v => Sys2Proof.Machine.execLateClr v s
  | .planLoad f entry image placement tag => Sys2Proof.Machine.execPlanLoad f entry image placement tag s
  | .planStart f entry t => Sys2Proof.Machine.execPlanStart f entry t s
  | .startBarrierTimeout t => Sys2Proof.Machine.execStartBarrierTimeout t s
  | .planUnload f entry => Sys2Proof.Machine.execPlanUnload f entry s
  | .linkRttReport id port rtt scale => Sys2Proof.Machine.execLinkRttReport id port rtt scale s
  | .kprLockSet => Sys2Proof.Machine.execKprLockSet s
  | .registerWrite f off val len t => Sys2Proof.Machine.execRegisterWrite f off val len t s
  | .laneLost port t => Sys2Proof.Machine.execLaneLost port t s
  | .parentRetrainTimeout t => Sys2Proof.Machine.execParentRetrainTimeout t s
  | .t0Reached => Sys2Proof.Machine.execT0Reached s
  | .perstRelease link rate width flit => Sys2Proof.Machine.execPerstRelease link rate width flit s
  | .meshSlotTurn p output cycle => Sys2Proof.Machine.execMeshSlotTurn p output cycle s
  | .sidebandTransfer offset write len => Sys2Proof.Machine.execSidebandTransfer offset write len s
  | .tckEdge rising tms tdi => Sys2Proof.Machine.execTckEdge rising tms tdi s
  | .trstNLow ns => Sys2Proof.Machine.execTrstNLow ns s
  | .hostLoadedImageWrite n val => Sys2Proof.Machine.execHostLoadedImageWrite n val s
  | .liveKeeperRestartDone => Sys2Proof.Machine.execLiveKeeperRestartDone s
  | .updateWindowGrant granted => Sys2Proof.Machine.execUpdateWindowGrant granted s
  | .hangQueryReply id reply => Sys2Proof.Machine.execHangQueryReply id reply s
  | .mirrorGapReport q slot => Sys2Proof.Machine.execMirrorGapReport q slot s

end Sys2Proof.Machine
end

