-- ==== Sys2Proof/Machine/SeqFetch.lean ====
section
/-! DEFINITION. What the device does of its own while no command waits: a sequencer that issues takes the word its program memory
holds at its program counter (R55 to R57, R60). -/
namespace Sys2Proof.Machine

/-- What a sequencer takes of its own: nothing, a command its word spells, or an exception. -/
inductive Fetch where
  | idle
  | issue (i : Instr)
  | raise (v : Fin 256) (code : Nat)
  deriving DecidableEq, Repr

/-- Virtual cores whose sequencers issue, by the core table. -/
def State.issuers (s : State) : List Nat :=
  s.cores.filterMap (fun p => if p.2.issuing then s.virtOf p.1 else none)

/-- What the sequencer of core v takes: the command its word spells; 0x01 for an illegal encoding (R57, R60); 0x02 for a program counter
beyond the code (DESIGN CHOICE, log entry 113). -/
def State.fetchOf (s : State) (v : Nat) : Fetch :=
  match s.vcore v with
  | none => .idle
  | some c =>
    if c.seq.limit ≤ c.seq.pc then .raise (Fin.ofNat 256 v) 0x02
    else match seqDecode (Fin.ofNat 256 v) (BitVec.ofNat 64 s.now) c.seq.asActive (Map.get (α := BitVec 32) c.seq.prog c.seq.pc 0) with
      | some i => .issue i
      | none => .raise (Fin.ofNat 256 v) 0x01

/-- The sequencer that goes on while no command waits: the spec orders no core before another, so a free value draws one of those that
issue (DESIGN CHOICE, log entry 113). -/
def State.fetch (s : State) : State × Fetch :=
  match s.issuers with
  | [] => (s, .idle)
  | v :: vs =>
    let (w, s) := s.fresh
    (s, s.fetchOf ((v :: vs).getD (w.toNat % (vs.length + 1)) v))

/-- An exception of a sequencer's fetch (R60, R61). -/
def State.raiseAt (s : State) (v : Fin 256) (code : Nat) : State := s.onCore v (fun c => seqIssue c (fun _ => .exc code))

end Sys2Proof.Machine
end

