-- ==== Sys2Proof/Machine/Step.lean ====
section
/-! DEFINITION. One step of the block: the command at the front of the queue acts on the state whose queue is the rest; on an
empty queue a sequencer that issues goes on, and with none the block idles (log entries 2 and 113). -/
namespace Sys2Proof.Machine

/-- A step with no command waiting (DESIGN CHOICE, log entry 113). -/
def stepIdle (s : State) : Host.Outcome State Fault Refusal :=
  match s.fetch with
  | (s', .issue i) => exec i s'
  | (s', .raise v code) => .next (s'.raiseAt v code)
  | (s', .idle) => .next s'

/-- One step (DESIGN CHOICE, log entry 2). -/
def step (s : State) : Host.Outcome State Fault Refusal :=
  match s.pending with
  | [] => stepIdle s
  | c :: rest => exec c { s with pending := rest }

/-- The state with the command a word spells put at the front of its queue; unchanged where the word spells none, which is
every word (opcode_table.json gives no row bits) (DESIGN CHOICE, log entry 13). -/
def State.withFetchWord (s : State) (nbits w : Nat) : State :=
  match Sys2Proof.decodeTableWord nbits w with
  | some c => { s with pending := c :: s.pending }
  | none => s

end Sys2Proof.Machine
end

