-- ==== Sys2Proof/WellFormed.lean ====
section
/-! DEFINITION. Which commands are well formed: operands whose length or range the types leave open keep the bound the spec gives
them. A command outside these bounds is one no sender of the block can form; the meanings are total on it all the same. -/
namespace Sys2Proof

/-- Strictly rising numbers: no place is named twice. -/
def rising : List Nat → Bool
  | [] => true
  | [_] => true
  | a :: b :: l => decide (a < b) && rising (b :: l)

/-- A block read from host memory has its length, when it could be read. -/
def ofLength (n : Nat) : Option (List Byte) → Bool
  | none => true
  | some b => decide (b.length = n)

/-- A block has at most a length, when it could be read. -/
def atMost (n : Nat) : Option (List Byte) → Bool
  | none => true
  | some b => decide (b.length ≤ n)

/-- Bytes of a quadrant's HBM stack (R215). -/
def hbmBytes : Nat := 24 * 2 ^ 30
/-- Words found uncorrectable lie in the stack, each once (R215). -/
def HbmFinds.wf (f : HbmFinds) : Bool := rising f.bad && f.bad.all (· < hbmBytes)

/-- A codeword has 544 symbols (R359). -/
def LaneWord.wf (w : LaneWord) : Bool := decide (w.sym.length = 544)

/-- A flit has 128 bytes of data, or 64 with HALF (R335). -/
def Flit.wf (f : Flit) : Bool := decide (f.data.length = if f.sb.getLsbD 14 then 64 else 128)

/-- A packet carries at most 64 granules of 64 bytes (R416). -/
def Packet.wf (p : Packet) : Bool := decide (p.data.length % 64 = 0 ∧ p.data.length ≤ 4096)

/-- A poll reads the ring counts of ring ids below 256, each once (R517). -/
def HostPoll.wf (p : HostPoll) : Bool := rising (p.rings.map Prod.fst) && p.rings.all (fun r => decide (r.1 < 256))

/-- Copied bytes lie in the core's 48-bit map (R187). -/
def RangeCopy.wf (c : RangeCopy) : Bool := decide (c.addr.toNat + c.data.length ≤ 2 ^ 48)

/-- Is a command well formed. -/
def Instr.wf (i : Instr) : Bool :=
  match i with
  | .add _ _ _ _ => true
  | .sub _ _ _ _ => true
  | .and _ _ _ _ => true
  | .or _ _ _ _ => true
  | .xor _ _ _ _ => true
  | .sll _ _ _ _ => true
  | .srl _ _ _ _ => true
  | .sra _ _ _ _ => true
  | .slt _ _ _ _ => true
  | .sltu _ _ _ _ => true
  | .min _ _ _ _ => true
  | .max _ _ _ _ => true
  | .mul _ _ _ _ => true
  | .mulhu _ _ _ _ => true
  | .addi _ _ _ _ => true
  | .andi _ _ _ _ => true
  | .ori _ _ _ _ => true
  | .xori _ _ _ _ => true
  | .slli _ _ _ _ => true
  | .srli _ _ _ _ => true
  | .srai _ _ _ _ => true
  | .slti _ _ _ _ => true
  | .lui _ _ _ => true
  | .ld _ _ _ _ => true
  | .st _ _ _ _ => true
  | .beq _ _ _ _ => true
  | .bne _ _ _ _ => true
  | .blt _ _ _ _ => true
  | .bge _ _ _ _ => true
  | .bltu _ _ _ _ => true
  | .bgeu _ _ _ _ => true
  | .jal _ _ _ => true
  | .jalr _ _ _ _ => true
  | .aset _ _ _ _ => true
  | .astr _ _ _ _ => true
  | .awrp _ _ _ _ => true
  | .aoff _ _ _ _ => true
  | .astep _ _ _ _ => true
  | .ainc _ _ _ _ => true
  | .ard _ _ _ _ => true
  | .lic _ _ _ => true
  | .mvc _ _ _ _ => true
  | .rdc _ _ _ => true
  | .loop _ _ _ => true
  | .lidx _ _ _ => true
  | .tld _ _ _ => true
  | .patch _ _ _ _ _ _ _ _ => true
  | .push _ _ _ => true
  | .pushStallEnd _ _ => true
  | .waitdrip _ => true
  | .frameOpen _ _ _ => true
  | .waitdripForm1 _ _ _ => true
  | .waitdripForm1Return _ _ _ => true
  | .waitq _ _ _ => true
  | .waitqReturn _ _ => true
  | .waitev _ _ _ _ => true
  | .waitevReturn _ _ => true
  | .epochend _ _ => true
  | .gete _ _ _ => true
  | .evrd _ _ _ _ => true
  | .ason _ => true
  | .rddrip _ _ _ => true
  | .nop _ => true
  | .halt _ => true
  | .spush _ _ _ => true
  | .sdef _ _ _ _ => true
  | .sloop _ _ _ => true
  | .asoff _ => true
  | .controlStateError _ _ _ => true
  | .sequencerWatchdog _ _ => true
  | .seqRunStart _ => true
  | .seqRunStop _ => true
  | .nextEpochWrite _ _ => true
  | .mmul _ _ => true
  | .anchor _ _ => true
  | .wpadd _ _ => true
  | .residueMismatch _ _ => true
  | .vewAdd _ _ => true
  | .vewSub _ _ => true
  | .vewMul _ _ => true
  | .vewDiv _ _ => true
  | .vewFma _ _ => true
  | .vewFms _ _ => true
  | .vewFmai _ _ => true
  | .vewMaximum _ _ => true
  | .vewMinimum _ _ => true
  | .vewAbs _ _ => true
  | .vewNeg _ _ => true
  | .vewMov _ _ => true
  | .vewMulfrac _ _ => true
  | .vewSqrt _ _ => true
  | .vewExp2 _ _ => true
  | .vewLog2 _ _ => true
  | .vewRecip _ _ => true
  | .vewRsqrt _ _ => true
  | .vewSturn _ _ => true
  | .vewCturn _ _ => true
  | .vewTanh _ _ => true
  | .vewSigmoid _ _ => true
  | .vewErf _ _ => true
  | .vewSilu _ _ => true
  | .vcvt _ _ => true
  | .vredSum _ _ => true
  | .vredSumsq _ _ => true
  | .vredMax _ _ => true
  | .vredMin _ _ => true
  | .vredPsum _ _ => true
  | .vgather _ _ => true
  | .copy _ _ => true
  | .fill _ _ => true
  | .slowIn _ _ found => found.wf
  | .slowOut _ _ bad => rising bad && bad.all (· < hbmBytes)
  | .pull _ _ => true
  | .pullRequest _ => true
  | .send _ _ => true
  | .recv _ _ => true
  | .esend _ _ => true
  | .eread _ _ => true
  | .descriptorComplete _ _ _ _ => true
  | .peerEventSignal _ _ => true
  | .supervisorSignal _ _ => true
  | .plannedDataArrival _ _ data crcs => decide (data.length = 64 * crcs.length)
  | .flush _ => true
  | .faultRecordForward _ => true
  | .planFaultNotice _ => true
  | .crystalWriteBack _ => true
  | .recrystallisationDone _ found => found.wf
  | .coreRegionWrite _ _ _ _ => true
  | .portShareWrite _ _ => true
  | .hbmRefresh _ _ => true
  | .patrolScrub _ _ _ bad => rising bad && bad.all (· < hbmBytes)
  | .load _ _ block => ofLength 128 block
  | .storageReadResponse _ _ _ _ => true
  | .storageReadTimeout _ => true
  | .outstandingLimitRaise _ _ => true
  | .ingestStreamDone _ found => found.wf
  | .bar2Write _ off data => decide (off.toNat + data.length ≤ 2 ^ 32)
  | .bar2Read _ off len found => decide (off.toNat + len.val ≤ 2 ^ 32) && found.wf
  | .unload _ _ => true
  | .retire _ _ => true
  | .digestRecheck _ _ => true
  | .recheckDone _ _ found => found.wf
  | .boundarySnapshot _ poll no => poll.wf && rising (no.map Fin.val)
  | .idlePoll _ poll _ => poll.wf
  | .hostFetchComplete _ _ _ => true
  | .admitSequence _ _ block => ofLength 128 block
  | .cancel _ _ => true
  | .endSequence _ _ => true
  | .abort _ _ => true
  | .cut _ _ => true
  | .acctSet _ _ => true
  | .acctCredit _ _ => true
  | .variantReq _ _ => true
  | .createRing _ _ => true
  | .deleteRing _ _ => true
  | .bindRings _ _ => true
  | .inputFrame _ _ _ payload => decide (payload.length ≤ 4 * 65535)
  | .gatewayFrameWrite _ _ => true
  | .promptChunkWrite _ _ _ data => decide (data.length % 4 = 0)
  | .admHeadRead _ => true
  | .admReturn _ _ => true
  | .admWmarkWrite _ _ => true
  | .loadReport _ _ metrics => decide (metrics.length = 6)
  | .commitSignal _ _ => true
  | .drawRequest _ _ => true
  | .samplerDraw _ => true
  | .drawComplete _ => true
  | .commitApply _ _ _ => true
  | .meshFlitArrival _ _ _ flit _ _ _ => flit.wf
  | .slotTableParityError _ => true
  | .mshSwapArm _ _ => true
  | .meshBankSwap _ _ => true
  | .linkUnitTransmit _ _ => true
  | .linkUnitReceive _ words _ => words.all LaneWord.wf
  | .ackTimer _ _ => true
  | .replayTimeout _ _ => true
  | .probeBurst _ => true
  | .probeReceive _ _ => true
  | .lanesLocked _ _ => true
  | .alignDone _ _ => true
  | .acquireTimeout _ => true
  | .alignTimeout _ => true
  | .exchangeTimeout _ => true
  | .ident _ _ _ _ _ _ _ => true
  | .sync _ _ _ => true
  | .digest _ _ => true
  | .lossOfSignal _ _ => true
  | .retrainSymbol _ _ => true
  | .retrainPhaseDone _ _ _ _ => true
  | .retrainPhaseTimeout _ => true
  | .reconfigSymbol _ _ => true
  | .errorWindow _ _ => true
  | .linkEnable _ => true
  | .linkDisable _ _ => true
  | .apply _ => true
  | .retrain _ _ => true
  | .lnkSwapArm _ _ => true
  | .linkBankSwap _ _ => true
  | .txBankToggle _ => true
  | .elasticPacketReceive _ pkt => pkt.wf
  | .elasticTargetArrival _ pkt _ => pkt.wf
  | .flaggedHoldTimeout _ _ _ _ => true
  | .elasticResponse _ pkt _ => pkt.wf
  | .elasticRetryTimeout _ _ _ _ => true
  | .windowWaitEnd _ _ _ => true
  | .timeMarkSend _ _ _ => true
  | .timeMarkReceive _ _ _ _ => true
  | .timeMessageSend _ _ => true
  | .timeMessage _ payload _ => decide (payload.length ≤ 128)
  | .stratumHoldExpiry _ => true
  | .gmElectionTimeout _ => true
  | .holdoverLimit _ => true
  | .timebaseLockLoss _ => true
  | .arrive _ => true
  | .epoch0 _ => true
  | .hold _ => true
  | .arriveSymbol _ _ _ => true
  | .releaseSymbol _ _ _ => true
  | .epoch0Symbol _ _ _ => true
  | .loadLateMessage _ _ _ => true
  | .holdSymbol _ _ _ => true
  | .releaseFire _ => true
  | .epoch0Fire _ => true
  | .holdFire _ => true
  | .variantNotice _ _ _ _ _ => true
  | .switchConfirm _ _ _ => true
  | .variantSwitch _ => true
  | .monitorWarning _ _ => true
  | .clockStep _ => true
  | .marginFall _ => true
  | .marginRaise _ => true
  | .coreClockLockLoss _ => true
  | .clockTargetWrite _ _ => true
  | .cordonCore _ => true
  | .cordonPort _ _ => true
  | .cordonQuadrant _ => true
  | .releaseCore _ => true
  | .coreSelfTestDone _ _ => true
  | .releasePort _ => true
  | .releaseQuadrant _ => true
  | .recoveryEventReport _ _ _ => true
  | .recoveryPendingNotice _ => true
  | .flowCopyDone _ bytes _ => bytes.all RangeCopy.wf
  | .restartNotice _ _ _ => true
  | .restartStop _ => true
  | .restartLaunch _ _ => true
  | .standbyRestoreDone _ _ _ _ _ slots bytes _ _ => rising (slots.map (·.slot.val)) && bytes.all RangeCopy.wf
  | .mirrorDelta _ record => decide (64 ≤ record.length ∧ record.length % 8 = 0 ∧ record.length ≤ 192)
  | .mirrorAck _ _ _ => true
  | .weightChangeNotice _ _ => true
  | .weightChange _ _ => true
  | .linkUnitCorruption _ => true
  | .forcedRetrain _ _ => true
  | .residueInjection _ => true
  | .crystalSymbolError _ => true
  | .rehearsalCordon _ => true
  | .mirrorPromotion _ _ => true
  | .functionEnable _ => true
  | .functionDisable _ => true
  | .hostRequestError _ => true
  | .functionLevelReset _ => true
  | .perst _ => true
  | .entdaa _ => true
  | .setdasa _ _ => true
  | .rstdaa => true
  | .enec _ => true
  | .disec _ => true
  | .getstatus => true
  | .getpid => true
  | .getbcr => true
  | .getdcr => true
  | .warmResetRequest => true
  | .bootImageB => true
  | .bootImageA => true
  | .powerOn _ => true
  | .sysRstN _ => true
  | .keeperWatchdog => true
  | .deviceColdReset => true
  | .deviceWarmReset => true
  | .quadrantReset _ => true
  | .remoteReset msg _ => decide (msg.length = 128)
  | .flashOperationDone _ => true
  | .blockReset _ _ _ => true
  | .blockIdle => true
  | .blockResetTimeout => true
  | .domainStart _ => true
  | .hbmTrained => true
  | .loadGo => true
  | .networkBootRetry port0 port1 => atMost (2 ^ 22) port0 && atMost (2 ^ 22) port1
  | .fwStage _ image => atMost (2 ^ 22) image
  | .fwActivate _ => true
  | .liveSupervisorUpdate _ => true
  | .supervisorBankChange _ => true
  | .liveKeeperUpdate _ => true
  | .updateWindowRequest _ _ => true
  | .fwCommit _ => true
  | .quadrantSleep _ => true
  | .quadrantWake _ => true
  | .deepIdleEnter => true
  | .deepIdleExit => true
  | .governorSample _ phases => decide (phases.length = 8)
  | .ceilingCompare _ _ => true
  | .vinOutOfRange _ => true
  | .vinShutdown _ => true
  | .vauxLoss => true
  | .referenceLoss _ => true
  | .domainFault _ _ => true
  | .sensorReading _ _ _ => true
  | .thermalCapStep _ => true
  | .tripLatchClear => true
  | .tempPeakClr _ => true
  | .telemetrySample _ volts optics => decide (volts.length = 40 ∧ optics.length = 14) && optics.all (fun o => decide (o.1.length = 8 ∧ o.2.length = 8))
  | .traceRecord _ _ _ _ _ _ => true
  | .traceWindowEnd _ => true
  | .echoFrame _ => true
  | .arm => true
  | .swTrigger _ => true
  | .unfreeze => true
  | .telRing _ => true
  | .traceRead _ => true
  | .dump _ _ => true
  | .dumpCopyDone => true
  | .hangReport _ _ => true
  | .hangQuery _ _ => true
  | .debugUnlock _ block => ofLength 128 block
  | .debugLock _ => true
  | .secDbgNonceRead => true
  | .pmcSelWrite _ _ _ => true
  | .sbPeakClr _ => true
  | .lateClr _ => true
  | .planLoad _ _ _ _ _ => true
  | .planStart _ _ _ => true
  | .startBarrierTimeout _ => true
  | .planUnload _ _ => true
  | .linkRttReport _ _ _ _ => true
  | .kprLockSet => true
  | .registerWrite _ _ _ _ _ => true
  | .laneLost _ _ => true
  | .parentRetrainTimeout _ => true
  | .t0Reached => true
  | .perstRelease _ _ _ _ => true
  | .meshSlotTurn _ _ _ => true
  | .sidebandTransfer _ write len => write.isEmpty || decide (len = 0)
  | .tckEdge _ _ _ => true
  | .trstNLow _ => true
  | .hostLoadedImageWrite _ _ => true
  | .liveKeeperRestartDone => true
  | .updateWindowGrant _ => true
  | .hangQueryReply _ _ => true
  | .mirrorGapReport _ _ => true

end Sys2Proof
end

