-- ==== Sys2Proof/Safety.lean ====
section
/-! DEFINITION. What counts as a safe run of the block, and the terms the statements are written in. -/
namespace Sys2Proof.Machine

/-- The state after every waiting command has been taken, at most n of them; none where one was refused or faulted. -/
def runPending : Nat → State → Option State
  | 0, s => some s
  | n + 1, s =>
    match step s with
    | .next t => runPending n t
    | _ => none

/-- A run of n steps is safe: no step of it faults or is refused. -/
def State.runsSafely (s : State) (n : Nat) : Bool := (runPending n s).isSome

/-! ### Sequencer commands -/

/-- Virtual core v names physical core p, which is not held in reset and whose sequencer issues. -/
abbrev State.Issues (s : State) (v p : Nat) : Prop :=
  s.phys v = some p ∧ (s.core p).inReset = false ∧ (s.core p).seq.run = .issuing

/-- No active loop body ends at the present instruction, and an instruction follows it. -/
def SeqSt.Plain (q : SeqSt) : Prop := (∀ l, q.loops.head? = some l → l.last ≠ q.pc) ∧ q.pc + 1 < q.limit

/-- The state in which core p has issued an instruction and its sequencer is q; nothing else has changed. -/
def State.issued (s : State) (p : Nat) (q : SeqSt) : State := s.setCore p { (s.core p).occur 0x03 with seq := q }

/-- The state in which core p has issued an instruction that left its sequencer q, and goes on to the next one. -/
def State.ran (s : State) (p : Nat) (q : SeqSt) : State := s.issued p { q with pc := (s.core p).seq.pc + 1 }

/-- The state in which core p has issued an instruction that raised an exception: what `raiseSeq` says and nothing else but the
record it sets off. -/
def State.raised (s : State) (p code : Nat) : State := s.runCore p (raiseSeq ((s.core p).occur 0x03) code)

/-! ### Engine commands -/

/-- The head e of the engine's queue on the core behind v passes its checks and nothing holds it back: the engine has a place in
execution, no descriptor in execution makes it wait, and no claim of it conflicts with an earlier descriptor (R88, R89, R96, R117). -/
structure State.MayStart (s : State) (v p pos : Nat) (j : Judge) (e : QEntry) : Prop where
  core   : s.phys v = some p
  head   : (s.core p).head j.queue = some (pos, e)
  checks : sigReserved e.desc (j.check s (v / 64) (s.core p) e.desc) = none
  place  : ((s.core p).executing j.queue).length < execLimit j.queue
  held   : ((s.core p).executing j.queue).any (fun x => j.holds (s.core p) e.desc x.desc) = false
  claims : (s.core p).conflict j.queue e = false

/-- The state in which the head e of queue k of core p has begun execution after `waited` cycles on claims: its work r is done on
working memory, its writes wait for the completion, and memory is as it was. -/
def State.executing (s : State) (p waited k : Nat) (e : QEntry) (r : Run) : State :=
  let s := s.addWait p waited
  s.runCore p (((s.core p).unwork r).setEntry k { e with st := .executing, pend := r.writes.reverse }, r.evs)

/-- The state in which the work r of the head e of queue k met the error m: the queue is halted with its record. What was written before a
mismatch of partials stays written (R186). -/
def State.halted (s : State) (p waited k pos : Nat) (e : QEntry) (r : Run) (m : MemFault) : State :=
  let s := s.addWait p waited
  let c := (s.core p).unwork r
  let c := if m.kind = 0x02 then ((⟨c, s.now, none, [], []⟩ : Run).applyWrites r.writes.reverse).c else c
  (s.runCore p (c, r.evs)).haltQueue p k pos e m

/-- The working memory with which the head e of queue k starts. -/
def State.workOn (s : State) (p waited k : Nat) (e : QEntry) : Run :=
  ((s.addWait p waited).core p).working k e.seqNo (s.addWait p waited).now

/-! ### Commands of a ring -/

/-- The completion of the command with words ws on function f (R526): its kind, status and arguments. -/
def answerOf (f kind status : Nat) (ws : List U64) (a0 a1 : Nat) : Completion :=
  { kind := kind, quad := f % 4, status := status, cid := cmdCid ws, tag := cmdTag ws, arg0 := a0, arg1 := a1, reserved := true }

/-- The ended completion of sequence slot n of quadrant q (R526, R527). -/
def endedOf (q n tag a0 reason : Nat) : Completion :=
  { kind := 3, quad := q, cid := 0x8000 + n, tag := tag, arg0 := a0, arg1 := reason, slotPlace := true }

/-- A stream error of quadrant q (R527). -/
def streamErrorOf (q status a0 a1 : Nat) : Completion := { kind := 8, quad := q, status := status, arg0 := a0, arg1 := a1 }

/-! ### Frames and the canonical form -/

/-- The virtual core whose sequencer a command of the instruction table (R57), of a wait's return or of the address stream runs on. -/
def seqCommand : Instr → Option (Fin 256)
  | .add v _ _ _ => some v
  | .sub v _ _ _ => some v
  | .and v _ _ _ => some v
  | .or v _ _ _ => some v
  | .xor v _ _ _ => some v
  | .sll v _ _ _ => some v
  | .srl v _ _ _ => some v
  | .sra v _ _ _ => some v
  | .slt v _ _ _ => some v
  | .sltu v _ _ _ => some v
  | .min v _ _ _ => some v
  | .max v _ _ _ => some v
  | .mul v _ _ _ => some v
  | .mulhu v _ _ _ => some v
  | .addi v _ _ _ => some v
  | .andi v _ _ _ => some v
  | .ori v _ _ _ => some v
  | .xori v _ _ _ => some v
  | .slli v _ _ _ => some v
  | .srli v _ _ _ => some v
  | .srai v _ _ _ => some v
  | .slti v _ _ _ => some v
  | .lui v _ _ => some v
  | .ld v _ _ _ => some v
  | .st v _ _ _ => some v
  | .beq v _ _ _ => some v
  | .bne v _ _ _ => some v
  | .blt v _ _ _ => some v
  | .bge v _ _ _ => some v
  | .bltu v _ _ _ => some v
  | .bgeu v _ _ _ => some v
  | .jal v _ _ => some v
  | .jalr v _ _ _ => some v
  | .aset v _ _ _ => some v
  | .astr v _ _ _ => some v
  | .awrp v _ _ _ => some v
  | .aoff v _ _ _ => some v
  | .astep v _ _ _ => some v
  | .ainc v _ _ _ => some v
  | .ard v _ _ _ => some v
  | .lic v _ _ => some v
  | .mvc v _ _ _ => some v
  | .rdc v _ _ => some v
  | .loop v _ _ => some v
  | .lidx v _ _ => some v
  | .tld v _ _ => some v
  | .patch v _ _ _ _ _ _ _ => some v
  | .push v _ _ => some v
  | .pushStallEnd v _ => some v
  | .waitdrip v => some v
  | .frameOpen v _ _ => some v
  | .waitdripForm1 v _ _ => some v
  | .waitdripForm1Return v _ _ => some v
  | .waitq v _ _ => some v
  | .waitqReturn v _ => some v
  | .waitev v _ _ _ => some v
  | .waitevReturn v _ => some v
  | .epochend v _ => some v
  | .gete v _ _ => some v
  | .evrd v _ _ _ => some v
  | .ason v => some v
  | .rddrip v _ _ => some v
  | .nop v => some v
  | .halt v => some v
  | .spush v _ _ => some v
  | .sdef v _ _ _ => some v
  | .sloop v _ _ => some v
  | .asoff v => some v
  | _ => none

/-- Commands that may change a byte of core memory or of an HBM stack: the writes of a completed descriptor, of the device itself and of
rows that a reduction leaves behind its fault (R186); the repairs of crystal; the contents that move with a core or that a core newly taking
one over starts without; what a start, a cold reset or a lost supply empties; and the part of a SLOW_OUT that a reset, a cordon or a
stopped quadrant cuts (R230). -/
def writesMemory : Instr → Bool
  | .descriptorComplete _ _ _ _ => true
  | .vredPsum _ _ => true
  | .ingestStreamDone _ _ => true
  | .bar2Write _ _ _ => true
  | .gatewayFrameWrite _ _ => true
  | .promptChunkWrite _ _ _ _ => true
  | .drawComplete _ => true
  | .elasticTargetArrival _ _ _ => true
  | .flaggedHoldTimeout _ _ _ _ => true
  | .crystalWriteBack _ => true
  | .recrystallisationDone _ _ => true
  | .crystalSymbolError _ => true
  | .boundarySnapshot _ _ _ => true
  | .restartStop _ => true
  | .holdFire _ => true
  | .standbyRestoreDone _ _ _ _ _ _ _ _ _ => true
  | .registerWrite _ _ _ _ _ => true
  | .powerOn _ => true
  | .sysRstN _ => true
  | .deviceColdReset => true
  | .flashOperationDone _ => true
  | .timebaseLockLoss _ => true
  | .referenceLoss _ => true
  | .vinShutdown _ => true
  | .vauxLoss => true
  | .sensorReading _ _ _ => true
  | .domainFault _ _ => true
  | .domainStart _ => true
  | .deepIdleEnter => true
  | .deepIdleExit => true
  | .controlStateError _ _ _ => true
  | .sequencerWatchdog _ _ => true
  | .residueMismatch _ _ => true
  | .marginFall _ => true
  | .coreClockLockLoss _ => true
  | .cordonCore _ => true
  | .rehearsalCordon _ => true
  | .liveKeeperRestartDone => true
  | .slotTableParityError _ => true
  | .functionLevelReset _ => true
  | .perst _ => true
  | .warmResetRequest => true
  | .bootImageB => true
  | .bootImageA => true
  | .keeperWatchdog => true
  | .deviceWarmReset => true
  | .quadrantReset _ => true
  | .remoteReset _ _ => true
  | .blockIdle => true
  | .blockResetTimeout => true
  | .sidebandTransfer _ _ _ => true
  | _ => false

/-- The form that every step keeps: the register file lists its registers in rising order, and every core memory and every HBM is in
canonical form. -/
structure State.Good (s : State) : Prop where
  regs  : Map.wf s.regs = true
  cores : ∀ e ∈ s.cores, Mem.wf (Prod.snd e).sram = true
  quads : ∀ e ∈ s.quads, Mem.wf (Prod.snd e).hbm = true

end Sys2Proof.Machine
end

