-- ==== Sys2Proof/Certificates/Slice0/Obligations.lean ====
section
/-! DEFINITION. The statements for the provers: what the rules R<n> of the spec say a command of the block does. -/
open Sys2Proof Sys2Proof.Machine

/-! ### The machine -/

/-- A step takes the command at the front of the queue: it is `exec` of that command on the state whose queue is the rest, and every command
answers a next state (log entry 1). On an empty queue the block idles when no sequencer issues; the one sequencer that issues takes the word
at its program counter, a command of R57 or R79, or exception 0x01 where the word spells none and 0x02 beyond the code (R55, R56, R60; the
model's choice of the step and of the drip, log entries 2 and 113). -/
def Obligations.StepRunsFront : Prop :=
  (∀ (c : Instr) (rest : List Instr) (s : State), step { s with pending := c :: rest } = exec c { s with pending := rest } ∧
    ∃ t, exec c { s with pending := rest } = .next t) ∧
  (∀ s : State, s.pending = [] → s.issuers = [] → step s = .next s) ∧
  ∀ (s : State) (v : Fin 256) (p : Nat), s.pending = [] → s.issuers = [v.val] → s.phys v = some p →
    let q := (s.core p).seq
    let s' := { s with free := s.free + 1 }
    (q.pc < q.limit →
      (∀ i, seqDecode v (BitVec.ofNat 64 s.now) q.asActive (Map.get (α := BitVec 32) q.prog q.pc 0) = some i → step s = exec i s') ∧
      (seqDecode v (BitVec.ofNat 64 s.now) q.asActive (Map.get (α := BitVec 32) q.prog q.pc 0) = none →
        step s = .next (s'.raiseAt v 0x01))) ∧
    (q.limit ≤ q.pc → step s = .next (s'.raiseAt v 0x02))

/-- What reset leaves: the canonical form, no command waiting, every sequencer stopped with an empty queue and every function disabled; the
values the register index gives; and the first eight columns of every row inside the grid (the model's factory spare map, log entry 4). -/
def Obligations.ResetState : Prop :=
  let s := State.reset
  s.Good ∧ s.pending = [] ∧ s.out = [] ∧
  (∀ p, (s.core p).seq.run = .stopped ∧ (∀ n, (s.core p).seq.rd n = 0) ∧ (∀ k, ((s.core p).queue k).ents = []) ∧
    (s.core p).fld .SEQ_CTRL 0 15 8 = 4 ∧ (s.core p).reg .CORE_PORT_SHARE 0 = 0x82118114210888) ∧
  (∀ f, s.bit .HIF_CTRL f 0 = false) ∧ (∀ q, s.runs q = false ∧ s.fld .ADM_WMARK q 10 0 = 0x380 ∧ s.fld .ADM_WMARK q 26 16 = 0x300) ∧
  s.fld .KPR_IDENT 0 7 0 = 0x20 ∧ s.reg .RST_CAUSE 0 = 1 ∧ s.reg .TB_CFG 0 = 0x29FFFFE ∧ s.reg .PWR_CEIL 0 = 0x546 ∧
  (∀ p < 12, s.bit .LNK_PKEY (p * 64) 16 = true ∧ s.linkState p = 0 ∧ s.fld .LNK_CTRL p 4 1 = 8) ∧
  ∀ v < 256, s.phys v = some (v / 64 * 72 + v % 64 / 8 * 9 + v % 8)

/-- Every step keeps the canonical form of the register file and of every core memory and HBM, in every state that has it. -/
def Obligations.StepKeepsForm : Prop :=
 ∀ s t : State, s.Good → step s = .next t → t.Good

/-- R52, R59: a command of a sequencer leaves every byte of core memory and of the HBM, the keeper, the functions, the ports and the
commands that wait as they were, and every core but its own; one whose virtual core names no core changes no core and no quadrant. -/
def Obligations.SequencerFrame : Prop :=
  ∀ (c : Instr) (s t : State) (v : Fin 256), seqCommand c = some v → exec c s = .next t →
    (∀ p, (t.core p).sram = (s.core p).sram ∧ (t.core p).units = (s.core p).units) ∧ (∀ q, (t.quad q).hbm = (s.quad q).hbm) ∧
    t.keeper = s.keeper ∧ t.funcs = s.funcs ∧ t.ports = s.ports ∧ t.pending = s.pending ∧
    (∀ p, s.phys v ≠ some p → t.core p = s.core p) ∧ (s.phys v = none → t.cores = s.cores ∧ t.quads = s.quads)

/-- R100, R186, R205, R220, R230: no command changes the commands that wait; and one that `writesMemory` does not name, whatever its
operands and the state, leaves every byte of every core memory and of every HBM stack as it was. The start of an engine's work is among
them, but for VRED_PSUM, whose earlier rows stay written behind a fault. -/
def Obligations.MemoryFrame : Prop :=
  ∀ (c : Instr) (s t : State), exec c s = .next t →
    t.pending = s.pending ∧
    (writesMemory c = false →
      (∀ p a, (t.core p).sram.read a = (s.core p).sram.read a) ∧ ∀ q a, (t.quad q).hbm.read a = (s.quad q).hbm.read a)

/-! ### The sequencer -/

/-- R52, R57: each arithmetic command of two registers writes rd with its result, s0 keeps reading 0, the program counter moves
to the next instruction, and nothing else changes.
R57: the immediate forms, LUI, and the exception 0x01 of a shift whose imm15[14:6] is not 0.
Readings or choices of the model among them: log entry 15. -/
def Obligations.ArithmeticForms : Prop :=
  ((∀ (q : SeqSt) (n m : Nat) (x : U64), (q.wr n x).rd m = if m = 0 then 0 else if m = n then x else q.rd m) ∧
  ∀ (s : State) (v : Fin 256) (p : Nat) (rd rs1 rs2 : Fin 32),
    s.Issues v p → (s.core p).seq.Plain →
    let q := (s.core p).seq
    let a := q.rd rs1
    let b := q.rd rs2
    let gives (o : Host.Outcome State Fault Refusal) (x : U64) : Prop := o = .next (s.ran p (q.wr rd x))
    gives (exec (.add v rd rs1 rs2) s) (a + b) ∧
    gives (exec (.sub v rd rs1 rs2) s) (a - b) ∧
    gives (exec (.and v rd rs1 rs2) s) (a &&& b) ∧
    gives (exec (.or v rd rs1 rs2) s) (a ||| b) ∧
    gives (exec (.xor v rd rs1 rs2) s) (a ^^^ b) ∧
    gives (exec (.sll v rd rs1 rs2) s) (a <<< (b.toNat % 64)) ∧
    gives (exec (.srl v rd rs1 rs2) s) (a >>> (b.toNat % 64)) ∧
    gives (exec (.sra v rd rs1 rs2) s) (a.sshiftRight (b.toNat % 64)) ∧
    gives (exec (.slt v rd rs1 rs2) s) (if a.toInt < b.toInt then 1 else 0) ∧
    gives (exec (.sltu v rd rs1 rs2) s) (if a.toNat < b.toNat then 1 else 0) ∧
    gives (exec (.min v rd rs1 rs2) s) (if a.toInt < b.toInt then a else b) ∧
    gives (exec (.max v rd rs1 rs2) s) (if a.toInt < b.toInt then b else a) ∧
    gives (exec (.mul v rd rs1 rs2) s) (a * b) ∧
    gives (exec (.mulhu v rd rs1 rs2) s) (BitVec.ofNat 64 (a.toNat * b.toNat / 2 ^ 64))) ∧
  (∀ (s : State) (v : Fin 256) (p : Nat) (rd rs1 : Fin 32) (imm : BitVec 15) (imm20 : BitVec 20),
    s.Issues v p → (s.core p).seq.Plain →
    let q := (s.core p).seq
    let a := q.rd rs1
    let i := imm.signExtend 64
    let gives (o : Host.Outcome State Fault Refusal) (x : U64) : Prop := o = .next (s.ran p (q.wr rd x))
    gives (exec (.addi v rd rs1 imm) s) (a + i) ∧
    gives (exec (.andi v rd rs1 imm) s) (a &&& i) ∧
    gives (exec (.ori v rd rs1 imm) s) (a ||| i) ∧
    gives (exec (.xori v rd rs1 imm) s) (a ^^^ i) ∧
    gives (exec (.slti v rd rs1 imm) s) (if a.toInt < imm.toInt then 1 else 0) ∧
    gives (exec (.lui v rd imm20) s) (imm20.signExtend 64 * 4096) ∧
    (imm.toNat < 64 →
      gives (exec (.slli v rd rs1 imm) s) (a <<< imm.toNat) ∧
      gives (exec (.srli v rd rs1 imm) s) (a >>> imm.toNat) ∧
      gives (exec (.srai v rd rs1 imm) s) (a.sshiftRight imm.toNat)) ∧
    (64 ≤ imm.toNat →
      exec (.slli v rd rs1 imm) s = .next (s.raised p 0x01) ∧
      exec (.srli v rd rs1 imm) s = .next (s.raised p 0x01) ∧
      exec (.srai v rd rs1 imm) s = .next (s.raised p 0x01)))

/-- R57, R59: LD and ST at an aligned address below 65,536, and exception 0x03 at any other address.
R57, R58: the address register commands. A step adds as 64-bit two's complement, then keeps 32 bits, or with a WRAP reduces
the sum into 0 to WRAP − 1. -/
def Obligations.DataMemoryAndAddressRegisters : Prop :=
  (∀ (s : State) (v : Fin 256) (p : Nat) (r rs1 : Fin 32) (imm : BitVec 15),
    s.Issues v p → (s.core p).seq.Plain →
    let q := (s.core p).seq
    let a := (q.rd rs1 + imm.signExtend 64).toNat
    (a % 8 = 0 ∧ a < 65536 →
      exec (.ld v r rs1 imm) s = .next (s.ran p (q.wr r (Map.get (α := U64) q.data (a / 8) 0))) ∧
      exec (.st v r rs1 imm) s = .next (s.ran p { q with data := Map.set (α := U64) q.data (a / 8) (q.rd r) })) ∧
    (¬ (a % 8 = 0 ∧ a < 65536) →
      exec (.ld v r rs1 imm) s = .next (s.raised p 0x03) ∧ exec (.st v r rs1 imm) s = .next (s.raised p 0x03))) ∧
  (∀ (s : State) (v : Fin 256) (p : Nat) (a : Fin 16) (sr : Fin 32) (imm : BitVec 16),
    s.Issues v p → (s.core p).seq.Plain →
    let q := (s.core p).seq
    let r := q.areg a
    let x := q.rd sr + imm.signExtend 64
    let stepped (d : Int) : BitVec 32 :=
      let sum := (BitVec.ofInt 64 ((r.off.toNat : Int) + d)).toInt
      if r.wrap = 0 then BitVec.ofInt 32 sum else BitVec.ofNat 32 (sum % (r.wrap.toNat : Int)).toNat
    let sets (o : Host.Outcome State Fault Refusal) (y : AddrReg) : Prop := o = .next (s.ran p (q.setAreg a y))
    sets (exec (.aset v a sr imm) s) { r with base := x.setWidth 48, off := 0 } ∧
    sets (exec (.astr v a sr imm) s) { r with stride := x.setWidth 32 } ∧
    sets (exec (.awrp v a sr imm) s) { r with wrap := x.setWidth 32 } ∧
    sets (exec (.aoff v a sr imm) s) { r with off := x.setWidth 32 } ∧
    sets (exec (.astep v a sr imm) s) { r with off := stepped x.toInt } ∧
    (sr.val = 0 ∧ imm = 0 → sets (exec (.ainc v a sr imm) s) { r with off := stepped r.stride.toInt }) ∧
    (¬ (sr.val = 0 ∧ imm = 0) → exec (.ainc v a sr imm) s = .next (s.raised p 0x01)) ∧
    exec (.ard v a sr imm) s =
      .next (s.ran p (q.wr sr ((r.base + r.off.setWidth 48 + imm.signExtend 48).setWidth 64))))

/-- R57, R60: a branch whose condition holds, JAL and JALR move the program counter to a target that exists and lies in the
innermost active loop body; a branch whose condition does not hold falls through; a target beyond the program raises exception
0x02, and one outside the body 0x07.
Readings or choices of the model among them: log entry 7. -/
def Obligations.BranchesAndJumps : Prop :=
  ∀ (s : State) (v : Fin 256) (p : Nat) (rd rs1 rs2 : Fin 32) (off : BitVec 15) (far : BitVec 20),
    s.Issues v p → (s.core p).seq.Plain →
    let q := (s.core p).seq
    let a := q.rd rs1
    let b := q.rd rs2
    let inBody (t : Int) : Prop := ∀ l, q.loops.head? = some l → (l.first : Int) ≤ t ∧ t ≤ (l.last : Int)
    let goes (o : Host.Outcome State Fault Refusal) (x : SeqSt) (t : Int) : Prop :=
      (inBody t → 0 ≤ t ∧ t < (q.limit : Int) → o = .next (s.issued p { x with pc := t.toNat })) ∧
      (inBody t → ¬ (0 ≤ t ∧ t < (q.limit : Int)) → o = .next (s.raised p 0x02)) ∧
      (¬ inBody t → o = .next (s.raised p 0x07))
    let branch (o : Host.Outcome State Fault Refusal) (taken : Prop) : Prop :=
      (taken → goes o q ((q.pc : Int) + off.toInt)) ∧ (¬ taken → o = .next (s.ran p q))
    branch (exec (.beq v rs1 rs2 off) s) (a = b) ∧
    branch (exec (.bne v rs1 rs2 off) s) (a ≠ b) ∧
    branch (exec (.blt v rs1 rs2 off) s) (a.toInt < b.toInt) ∧
    branch (exec (.bge v rs1 rs2 off) s) (b.toInt ≤ a.toInt) ∧
    branch (exec (.bltu v rs1 rs2 off) s) (a.toNat < b.toNat) ∧
    branch (exec (.bgeu v rs1 rs2 off) s) (b.toNat ≤ a.toNat) ∧
    goes (exec (.jal v rd far) s) (q.wr rd (BitVec.ofNat 64 (q.pc + 1))) ((q.pc : Int) + far.toInt) ∧
    goes (exec (.jalr v rd rs1 off) s) (q.wr rd (BitVec.ofNat 64 (q.pc + 1))) ((a + off.signExtend 64).toNat : Int)

/-- R64 to R67: loop counts, and a loop that is entered, skipped, or refused by the exception its fault has: a body of length 0
or one that ends beyond the body around it 0x06, a fifth level 0x05, a count above 16,777,215 0x04.
Readings or choices of the model among them: log entry 18. -/
def Obligations.LoopCountsAndLoops : Prop :=
  ∀ (s : State) (v : Fin 256) (p : Nat) (c : Fin 4) (sr : Fin 32) (level : Fin 4) (imm20 : BitVec 20) (imm : BitVec 16)
    (len : BitVec 12),
    s.Issues v p → (s.core p).seq.Plain →
    let q := (s.core p).seq
    let loops (o : Host.Outcome State Fault Refusal) (n : Nat) : Prop :=
      let last := q.pc + len.toNat
      let bad : Prop := len = 0 ∨ (q.loops.length < 4 ∧ ∃ l, q.loops.head? = some l ∧ l.last < last)
      (bad → o = .next (s.raised p 0x06)) ∧
      (len ≠ 0 → 4 ≤ q.loops.length → o = .next (s.raised p 0x05)) ∧
      (¬ bad → q.loops.length < 4 → 16777215 < n → o = .next (s.raised p 0x04)) ∧
      (¬ bad → q.loops.length < 4 → 0 < n ∧ n ≤ 16777215 →
        o = .next (s.ran p { q with loops := ⟨n, 0, q.pc + 1, last⟩ :: q.loops })) ∧
      (¬ bad → q.loops.length < 4 → (∀ l, q.loops.head? = some l → l.last ≠ last) → n = 0 → last + 1 < q.limit →
        o = .next (s.issued p { q with pc := last + 1 }))
    exec (.lic v c imm20) s = .next (s.ran p (q.setCreg c (imm20.setWidth 32))) ∧
    (imm = 0 → exec (.mvc v c sr imm) s = .next (s.ran p (q.setCreg c ((q.rd sr).setWidth 32)))) ∧
    (imm ≠ 0 → exec (.mvc v c sr imm) s = .next (s.raised p 0x01)) ∧
    exec (.rdc v c sr) s = .next (s.ran p (q.wr sr ((q.creg c).setWidth 64))) ∧
    (∀ l, q.loops[level.val]? = some l → exec (.lidx v level sr) s = .next (s.ran p (q.wr sr (BitVec.ofNat 64 l.index)))) ∧
    (q.loops[level.val]? = none → exec (.lidx v level sr) s = .next (s.raised p 0x01)) ∧
    loops (exec (.loop v c len) s) (q.creg c).toNat ∧
    (q.asActive = true → loops (exec (.sloop v c len) s) ((q.creg c).toNat % 65536)) ∧
    (q.asActive = false → exec (.sloop v c len) s = .next (s.raised p 0x01))

/-- R65, R67: at the last instruction of the innermost body the loop goes back to its first instruction with the index raised
while iterations are left; at the last iteration of a single level the loop ends and the program goes on.
R79 to R81: the KN40 mode. ASON enters it with AS_ENABLE outside the mode, and is illegal otherwise; ASOFF leaves it; SDEF defines a stream
among a0 to a7; SPUSH, with the frame open and room, queues the template as `knExpand` fills it from the streams, and each stream its map
names is then stepped. Outside the mode ASOFF, SDEF and SPUSH are illegal encodings.
Readings or choices of the model among them: log entries 19 and 103. -/
def Obligations.LoopEndsAndAddressStream : Prop :=
  (∀ (s : State) (v : Fin 256) (p : Nat) (l : LoopLevel) (ls : List LoopLevel),
    s.Issues v p →
    let q := (s.core p).seq
    q.loops = l :: ls → l.last = q.pc →
    (l.index + 1 < l.count → l.first < q.limit →
      exec (.nop v) s = .next (s.issued p { q with pc := l.first, loops := { l with index := l.index + 1 } :: ls })) ∧
    (l.count ≤ l.index + 1 → ls = [] → q.pc + 1 < q.limit →
      exec (.nop v) s = .next (s.issued p { q with pc := q.pc + 1, loops := [] }))) ∧
  (∀ (s : State) (v : Fin 256) (p : Nat) (a : Fin 16) (sr : Fin 32) (imm : BitVec 16) (idx : Fin 1024) (k : Fin 4),
    s.Issues v p → (s.core p).seq.Plain →
    let c := s.core p
    let q := c.seq
    let d := Map.get (α := Desc) q.tmpl idx {}
    let e := knExpand d (c.fld .SEQ_AS_BASE 0 47 0) k (fun i => (q.areg i).ea.toNat)
    let stepped := (knMap d).foldl (fun (x : SeqSt) (m : Nat × Nat) =>
      x.setAreg m.2 ((x.areg m.2).step (x.areg m.2).stride.toInt)) q
    (c.fld .SEQ_CTRL 0 2 2 = 1 → q.asActive = false → exec (.ason v) s = .next (s.ran p { q with asActive := true })) ∧
    (c.fld .SEQ_CTRL 0 2 2 = 0 ∨ q.asActive = true → exec (.ason v) s = .next (s.raised p 0x01)) ∧
    (q.asActive = true → exec (.asoff v) s = .next (s.ran p { q with asActive := false })) ∧
    (q.asActive = true → 8 ≤ a.val → exec (.sdef v a sr imm) s = .next (s.raised p 0x01)) ∧
    (q.asActive = true → a.val < 8 → exec (.sdef v a sr imm) s =
      .next (s.ran p (q.setAreg a { q.areg a with
        base := BitVec.ofNat 48 (c.fld .SEQ_AS_BASE 0 47 0 + (q.rd sr).toNat), stride := imm.signExtend 32 * 32, wrap := 0 }))) ∧
    (q.asActive = true → q.frameOpen = true →
      pushOutcome c { queue := k, desc := e, stage := 0, tpl := idx } = .room →
      ∃ t x, exec (.spush v idx k) s = .next t ∧
        ((t.core p).queue k).ents = (c.queue k).ents ++ [x] ∧ x.desc = e ∧ x.claims = e.claims ∧ x.st = .waiting ∧
        (t.core p).seq = { stepped with pc := q.pc + 1 }) ∧
    (q.asActive = false →
      exec (.asoff v) s = .next (s.raised p 0x01) ∧ exec (.sdef v a sr imm) s = .next (s.raised p 0x01) ∧
      exec (.spush v idx k) s = .next (s.raised p 0x01)))

/-- R68 to R70, R95, R99: TLD, PATCH and PUSH. A push with room appends the staging buffer to its queue with its claims; with the
queue or the claim table full, or with an impossible claim, the sequencer waits at it and the queue is as it was.
Readings or choices of the model among them: log entry 20. -/
def Obligations.TemplatesAndPushes : Prop :=
  ∀ (s : State) (v : Fin 256) (p : Nat) (b k : Fin 4) (idx : Fin 1024) (word : Fin 8) (lsb width : BitVec 6) (src : Fin 32)
    (kind post : Bool),
    s.Issues v p → (s.core p).seq.Plain →
    let c := s.core p
    let q := c.seq
    let w := if width = 0 then 64 else width.toNat
    let badField : Prop := 64 < lsb.toNat + w ∨ (post = true ∧ kind = false) ∨ (kind = true ∧ 16 ≤ src.val)
    let val := if kind then (q.areg src).ea.toNat else (q.rd src).toNat
    let patched := q.setStg b ((q.stg b).setWord word (putBits ((q.stg b).word word) (lsb.toNat + w - 1) lsb.toNat val))
    let r : PushReq := { queue := k, desc := q.stg b, stage := b, tpl := Map.get (α := Nat) q.tTpl b 0 }
    (idx.val < q.tmplLimit → exec (.tld v b idx) s =
      .next (s.ran p { q.setStg b (Map.get (α := Desc) q.tmpl idx {}) with tTpl := Map.set (α := Nat) q.tTpl b idx })) ∧
    (q.tmplLimit ≤ idx.val → exec (.tld v b idx) s = .next (s.raised p 0x08)) ∧
    (badField → exec (.patch v b word lsb width src kind post) s = .next (s.raised p 0x09)) ∧
    (¬ badField → exec (.patch v b word lsb width src kind post) s =
      .next (s.ran p (if post then patched.setAreg src ((q.areg src).step (q.areg src).stride.toInt) else patched))) ∧
    (q.frameOpen = false → exec (.push v b k) s = .next (s.raised p 0x0A)) ∧
    (q.frameOpen = true →
      (pushOutcome c r = .room → ∃ t e, exec (.push v b k) s = .next t ∧
        ((t.core p).queue k).ents = (c.queue k).ents ++ [e] ∧ e.desc = q.stg b ∧ e.claims = (q.stg b).claims ∧ e.st = .waiting ∧
        (∀ j, j ≠ k.val → (t.core p).queue j = c.queue j) ∧ (t.core p).seq = { q with pc := q.pc + 1 }) ∧
      (pushOutcome c r = .full → exec (.push v b k) s =
        .next (s.setCore p { c with seq := { q with run := .waiting (.pushFull r) } })) ∧
      (pushOutcome c r = .noClaims → exec (.push v b k) s =
        .next (s.setCore p { c with seq := { q with run := .waiting (.pushClaims r) } })) ∧
      (∀ d, pushOutcome c r = .refused d → ∃ t, exec (.push v b k) s = .next t ∧
        (t.core p).seq = { q with run := .waiting (.pushRefused r) } ∧ ∀ j, (t.core p).queue j = c.queue j))

/-- R57, R73 to R75: the waits. Each wait that already holds lets the next instruction issue; else the sequencer waits with what it
waits for. WAITDRIP form 0 needs the frame closed and form 1 needs it open, else exception 0x0A.
R57, R75, R78, R85: a wait ends when its condition holds, with its stall counted, and the next instruction issues; before that the
event changes nothing of the core.
R69, R85, R95: a stalled PUSH issues once there is room, its stall counted; while there is none it stays stalled.
Readings or choices of the model among them: log entries 16 and 17. -/
def Obligations.WaitsAndStalls : Prop :=
  (∀ (s : State) (v : Fin 256) (p : Nat) (sr : Fin 32) (imm19 : BitVec 19) (k : Fin 4) (n ev : Fin 16) (imm : BitVec 16),
    s.Issues v p → (s.core p).seq.Plain →
    let c := s.core p
    let q := c.seq
    let waits (o : Host.Outcome State Fault Refusal) (w : Wait) : Prop := o = .next (s.issued p { q with run := .waiting w })
    (q.frameOpen = false → waits (exec (.waitdrip v) s) .launch) ∧
    (q.frameOpen = true → exec (.waitdrip v) s = .next (s.raised p 0x0A)) ∧
    (q.frameOpen = true → waits (exec (.waitdripForm1 v sr imm19) s) (.drip (q.rd sr + imm19.setWidth 64))) ∧
    (q.frameOpen = false → exec (.waitdripForm1 v sr imm19) s = .next (s.raised p 0x0A)) ∧
    (n.val ≤ 8 → (c.queue k).ents.length ≤ n.val → exec (.waitq v k n) s = .next (s.ran p q)) ∧
    (n.val ≤ 8 → n.val < (c.queue k).ents.length → waits (exec (.waitq v k n) s) (.queue k n)) ∧
    (8 < n.val → exec (.waitq v k n) s = .next (s.raised p 0x01)) ∧
    (imm = 0 → 0 ≤ (q.evc ev - (q.rd sr).setWidth 32).toInt → exec (.waitev v ev sr imm) s = .next (s.ran p q)) ∧
    (imm = 0 → (q.evc ev - (q.rd sr).setWidth 32).toInt < 0 →
      waits (exec (.waitev v ev sr imm) s) (.event ev ((q.rd sr).setWidth 32))) ∧
    (imm ≠ 0 → exec (.waitev v ev sr imm) s = .next (s.raised p 0x01))) ∧
  (∀ (s : State) (v : Fin 256) (p : Nat) (t stall : U64) (w : Wait),
    s.phys v = some p → (s.core p).seq.run = .waiting w → (s.core p).seq.Plain →
    let c := s.core p
    let ends (o : Host.Outcome State Fault Refusal) : Prop := ∃ s', o = .next s' ∧
      (s'.core p).seq = { c.seq with pc := c.seq.pc + 1, run := .issuing } ∧
      (s'.core p).reg .SEQ_STALL_COUNT 0 = c.reg .SEQ_STALL_COUNT 0 + stall ∧ (s'.core p).sram = c.sram
    let stays (o : Host.Outcome State Fault Refusal) : Prop := ∃ s', o = .next s' ∧ s'.core p = c
    (∀ target, w = .drip target →
      (target.toNat ≤ t.toNat → ends (exec (.waitdripForm1Return v t stall) s)) ∧
      (t.toNat < target.toNat → stays (exec (.waitdripForm1Return v t stall) s))) ∧
    (∀ k n, w = .queue k n →
      ((c.queue k).ents.length ≤ n → ends (exec (.waitqReturn v stall) s)) ∧
      (n < (c.queue k).ents.length → stays (exec (.waitqReturn v stall) s))) ∧
    (∀ e target, w = .event e target →
      (0 ≤ (c.seq.evc e - target).toInt → ends (exec (.waitevReturn v stall) s)) ∧
      ((c.seq.evc e - target).toInt < 0 → stays (exec (.waitevReturn v stall) s)))) ∧
  (∀ (s : State) (v : Fin 256) (p : Nat) (stall : U64) (r : PushReq),
    s.phys v = some p →
    (s.core p).seq.run = .waiting (.pushFull r) ∨ (s.core p).seq.run = .waiting (.pushClaims r) →
    let c := s.core p
    (pushOutcome c r = .room → c.seq.Plain → ∃ t e, exec (.pushStallEnd v stall) s = .next t ∧
      ((t.core p).queue r.queue).ents = (c.queue r.queue).ents ++ [e] ∧ e.desc = r.desc ∧
      (t.core p).seq = { c.seq with pc := c.seq.pc + 1, run := .issuing } ∧
      (t.core p).reg .SEQ_STALL_COUNT 0 = c.reg .SEQ_STALL_COUNT 0 + stall) ∧
    (pushOutcome c r = .full → ∃ t, exec (.pushStallEnd v stall) s = .next t ∧
      (t.core p).seq = { c.seq with run := .waiting (.pushFull r) } ∧ ∀ j, (t.core p).queue j = c.queue j))

/-- R73, R74, R76: a frame opens with the four next-epoch values latched and VALID cleared, GETE reads the values of its selector, and
EPOCHEND closes the frame; with no descriptor outstanding its frame leaves the list of those awaited.
R57, R75, R83: the other sequencer instructions, and the start and stop of a sequencer. A start clears every item of R52 but the
memories and goes to SEQ_ENTRY with the frame closed; a stop abandons any wait. -/
def Obligations.EpochFrameAndControl : Prop :=
  (∀ (s : State) (v : Fin 256) (p : Nat) (t stall : U64) (sr : Fin 32) (sel : BitVec 16),
    s.phys v = some p → (s.core p).seq.Plain →
    let c := s.core p
    let q := c.seq
    let latched : EpochVals :=
      ⟨c.reg .SEQ_NEXT_EPOCH 0, c.reg .SEQ_NEXT_LAUNCH 0, c.fld .SEQ_NEXT_SEL 0 2 0, c.fld .SEQ_NEXT_SEL 0 15 4⟩
    (q.run = .waiting .launch → c.fld .SEQ_NEXT_SEL 0 16 16 = 1 → (c.reg .SEQ_NEXT_LAUNCH 0).toNat ≤ t.toNat →
      ∃ s', exec (.frameOpen v t stall) s = .next s' ∧
        (s'.core p).seq = { q with run := .issuing, pc := q.pc + 1, frameOpen := true, cur := latched } ∧
        (s'.core p).fld .SEQ_NEXT_SEL 0 16 16 = 0 ∧
        ∃ f, (s'.core p).frames = c.frames ++ [f] ∧ f.closed = false ∧ f.epoch = (c.reg .SEQ_NEXT_EPOCH 0).toNat) ∧
    (s.Issues v p → sel.toNat ≤ 3 → exec (.gete v sr sel) s = .next (s.ran p (q.wr sr (geteVal c sel.toNat)))) ∧
    (s.Issues v p → 3 < sel.toNat → exec (.gete v sr sel) s = .next (s.raised p 0x01)) ∧
    (s.Issues v p → q.frameOpen = false → ∃ s', exec (.epochend v t) s = .next s' ∧ (s'.core p).seq.run = .faulted) ∧
    (∀ f, s.Issues v p → q.frameOpen = true → c.frames = [f] → f.closed = false → f.left = [] → t.toNat + 64 ≤ f.next →
      ∃ s', exec (.epochend v t) s = .next s' ∧ (s'.core p).seq = { q with pc := q.pc + 1, frameOpen := false } ∧
        (s'.core p).frames = [])) ∧
  (∀ (s : State) (v : Fin 256) (p : Nat) (ev : Fin 16) (sr : Fin 32) (imm : BitVec 16) (t : U64),
    s.phys v = some p →
    let c := s.core p
    let q := c.seq
    let kept : SeqSt := { prog := q.prog, data := q.data, tmpl := q.tmpl, codeLen := q.codeLen, tmplCount := q.tmplCount }
    (s.Issues v p → q.Plain →
      exec (.nop v) s = .next (s.ran p q) ∧
      (imm = 0 → exec (.evrd v ev sr imm) s = .next (s.ran p (q.wr sr ((q.evc ev).setWidth 64)))) ∧
      (imm ≠ 0 → exec (.evrd v ev sr imm) s = .next (s.raised p 0x01)) ∧
      (c.fld .SEQ_CTRL 0 1 1 = 1 → q.asActive = false →
        exec (.rddrip v sr t) s = .next ((s.at' t.toNat).ran p (q.wr sr t))) ∧
      (c.fld .SEQ_CTRL 0 1 1 = 1 → ∃ s', exec (.halt v) s = .next s' ∧
        (s'.core p).seq = { q with run := .stopped } ∧ (s'.core p).fld .SEQ_CTRL 0 0 0 = 0) ∧
      (c.fld .SEQ_CTRL 0 1 1 = 0 → exec (.halt v) s = .next (s.raised p 0x01))) ∧
    (c.inReset = false → q.run ≠ .faulted → ∃ s', exec (.seqRunStart v) s = .next s' ∧
      (s'.core p).fld .SEQ_CTRL 0 0 0 = 1 ∧
      (s'.core p).seq = { kept with run := .issuing, pc := c.fld .SEQ_ENTRY 0 14 0 } ∧
      (∀ f ∈ (s'.core p).frames, f.closed = true) ∧ (∀ k, (s'.core p).queue k = c.queue k)) ∧
    (q.run ≠ .faulted → ∃ s', exec (.seqRunStop v) s = .next s' ∧
      (s'.core p).seq = { q with run := .stopped } ∧ (s'.core p).fld .SEQ_CTRL 0 0 0 = 0))

/-- R39, R53, R63, R72, R77, R101, R120, R127: control-state errors, of which a single-bit one is only counted, and the watchdog, with the
hardware-class exceptions they raise; the next-epoch write; the two signals; FLUSH and the two clears. -/
def Obligations.CoreEvents : Prop :=
  ∀ (s : State) (v : Fin 256) (p : Fin 288) (ev : Fin 16) (tag : BitVec 16) (t : U64),
    (s.phys v = some p.val → s.fenced p = false →
      exec (.peerEventSignal v ev) s =
        .next (s.setCore p { s.core p with seq := (s.core p).seq.setEvc ev ((s.core p).seq.evc ev + 1) })) ∧
    (s.phys v = some p.val → s.fenced p = true →
      ∃ t', exec (.peerEventSignal v ev) s = .next t' ∧ t'.cores = s.cores ∧
        t'.fld .MSH_ROUTER_STAT p 15 0 = satAdd 65535 (s.fld .MSH_ROUTER_STAT p 15 0) 1) ∧
    exec (.supervisorSignal v tag) s = .next (s.modQuad (v.val / 64) (fun x =>
      { x with sigQ := x.sigQ ++ [(tag.toNat, v.val, s.epoch (v.val / 64))] })) ∧
    (s.phys v = some p.val → exec (.sbPeakClr v) s =
      .next (s.setCore p ((s.core p).setFld .SB_STATUS 0 14 8 (s.core p).claimsUsed))) ∧
    (s.phys v = some p.val → exec (.lateClr v) s = .next (s.setCore p ((s.core p).setFld .CORE_EPOCH_STAT 0 47 0 0))) ∧
    (s.phys v = some p.val → (s.core p).seq.run = .stopped ∨ (s.core p).seq.run = .faulted ∨ (s.core p).anyHalted = true →
      ∃ s', exec (.flush v) s = .next s' ∧
        (∀ k, ((s'.core p).queue k).ents = [] ∧ ((s'.core p).queue k).halted = false) ∧ (s'.core p).slots = [] ∧
        (s'.core p).sram = (s.core p).sram ∧ (s'.core p).seq = (s.core p).seq) ∧
    (let s := s.at' t.toNat
     exec (.controlStateError p t true) s = .next ((s.runCore p (raiseSeq (s.core p) 0x10)).cordonCore p 2 false) ∧
     exec (.controlStateError p t false) s = .next (s.setCore p { s.core p with seqCorr := (s.core p).seqCorr + 1 })) ∧
    (s.phys v = some p.val →
     let s₁ := s.at' t.toNat
     let s₂ := s₁.modCore p (fun c => c.setFld .SEQ_STATUS 0 16 16 1)
     (s₁.watchdogDue p = true → exec (.sequencerWatchdog v t) s =
       .next ((s₂.runCore p (raiseSeq (s₂.core p) 0x11)).cordonCore p 3 false)) ∧
     (s₁.watchdogDue p = false → exec (.sequencerWatchdog v t) s = .next s₁)) ∧
    (s.phys v = some p.val →
     let s₁ := s.at' t.toNat
     let c := s₁.core p
     let k := s₁.nextEpochOf (v.val / 64) c t.toNat
     ∀ launch variant slot, s₁.nextValues (v.val / 64) k = (launch, variant, slot) →
     c.fld .SEQ_NEXT_SEL 0 16 16 = 0 → s₁.runs (v.val / 64) = true → s₁.heldAt launch = false → s₁.tbState ≠ 4 →
     ∃ s', exec (.nextEpochWrite v t) s = .next s' ∧
       (s'.core p).reg .SEQ_NEXT_EPOCH 0 = BitVec.ofNat 64 k ∧ (s'.core p).reg .SEQ_NEXT_LAUNCH 0 = BitVec.ofNat 64 launch ∧
       (s'.core p).fld .SEQ_NEXT_SEL 0 16 16 = 1 ∧ (s'.core p).fld .SEQ_NEXT_SEL 0 2 0 = variant % 8 ∧
       (s'.core p).fld .SEQ_NEXT_SEL 0 15 4 = slot % 4096)

/-! ### The engines -/

/-- R116, R117: a head that fails a check halts its queue with the record of the failing check, whichever start command of its
engine comes, and no other queue is touched.
R89, R98, R100, R152: a descriptor in execution that may complete, its tile's residues agreeing, leaves its queue; its writes become
visible, a SLOW_OUT's HBM bytes among them, the queue's completion count rises and its event is raised. One that may not stays.
R119, R123: the oldest record of the supervisor's queue is forwarded to the partition master and noticed to the host; a record of the
program class is a plan fault, which the master is told and every member sets PLAN_FAULT for.
Readings or choices of the model among them: log entry 20. -/
def Obligations.ChecksCompletionsAndReports : Prop :=
  (∀ (s : State) (v : Fin 256) (p pos : Nat) (w : U64) (bad : List Nat) (e : QEntry) (f : MemFault) (j : Judge)
    (found : HbmFinds) (cmds : List Instr),
    s.phys v = some p → (s.core p).head j.queue = some (pos, e) →
    sigReserved e.desc (j.check s (v.val / 64) (s.core p) e.desc) = some f →
    (j = matrixJudge ∧ cmds = [.mmul v w, .anchor v w, .wpadd v w]) ∨
    (j = vectorJudge ∧ cmds = [.vewAdd v w, .vewErf v w, .vcvt v w, .vredSum v w, .vredMax v w, .vredPsum v w, .vgather v w]) ∨
    (j = moveJudge ∧ cmds = [.copy v w, .fill v w, .slowIn v w found, .slowOut v w bad, .pull v w]) ∨
    (j = exchangeJudge ∧ cmds = [.send v w, .recv v w, .esend v w, .eread v w]) →
    (∀ c ∈ cmds, exec c s = .next (s.haltQueue p j.queue pos e f)) ∧
    ((s.haltQueue p j.queue pos e f).core p |>.queue j.queue).halted = true ∧
    (∀ k, k ≠ j.queue → ((s.haltQueue p j.queue pos e f).core p).queue k = (s.core p).queue k)) ∧
  (∀ (s : State) (v : Fin 256) (p : Nat) (k : Fin 4) (pos : Fin 8) (t : U64),
    s.phys v = some p →
    let s₁ := s.at' t.toNat
    let c := s₁.core p
    (s₁.mayComplete p k pos = none → exec (.descriptorComplete v k pos t) s = .next s₁) ∧
    (∀ e, s₁.mayComplete p k pos = some e → c.tileDisagrees k e = false →
      let r := (⟨c, t.toNat, none, [], []⟩ : Run).settle k e
      r.fault = none → ∃ t', exec (.descriptorComplete v k pos t) s = .next t' ∧
        (e.desc.sig = 0 → c.frames = [] →
          ((t'.core p).queue k).ents = (c.queue k).ents.filter (fun x => x.seqNo ≠ e.seqNo) ∧
          ((t'.core p).queue k).completed = ((c.queue k).completed + 1) % 2 ^ 32 ∧
          (t'.core p).sram = r.c.sram ∧
          (e.desc.f 0 12 12 = 1 → (t'.core p).seq.evc (e.desc.f 0 11 8) = r.c.seq.evc (e.desc.f 0 11 8) + 1) ∧
          (∀ a bs, e.hbm = some (a, bs) → (t'.quad (p / 72)).hbm = (s₁.quad (p / 72)).hbm.writeN a bs)))) ∧
  (∀ (s : State) (q : Fin 4) (ws : List U64) (rest : List (List U64)),
    (s.quad q).faultQ = ws :: rest →
    (∃ t, exec (.faultRecordForward q) s = .next t ∧ (t.quad q).faultQ = rest ∧
      t.out = s.out ++ [.message 4 (ws.map BitVec.toNat)] ++ (if programClass (wordAt ws 0) then [.message 1 [q.val, 1]] else []) ∧
      (programClass (wordAt ws 0) = true → t.bit .QD_RECOVERY q 3 = true) ∧
      (programClass (wordAt ws 0) = false → t.bit .QD_RECOVERY q 3 = s.bit .QD_RECOVERY q 3)) ∧
    (∃ t, exec (.planFaultNotice q) s = .next t ∧ t.bit .QD_RECOVERY q 3 = true ∧ t.cores = s.cores ∧ t.quads = s.quads ∧
      t.out = s.out))

/-- R104, R136 to R149, R88: each matrix command starts the head it names: the descriptor is in execution with the slot as it stood kept
for a replay and the anchor an ANCHOR will write, and a memory error halts queue 0. R152 to R154: a first mismatch of a matrix
descriptor in execution restores its slot (an ANCHOR has none), counts a replay, leaves a record of kind 0x07 with the tile's index, and
the descriptor executes once more; a second leaves the record of kind 0x08 and cordons the core. A completing descriptor whose residues
disagree meets the same. R155: an injection that waits is spent on the tile that starts. Readings or choices of the model among them:
log entries 22, 23, 30 and 114. -/
def Obligations.MatrixStartsAndResidue : Prop :=
  (∀ (s : State) (v : Fin 256) (p pos : Nat) (waited : U64) (e : QEntry) (op : Nat) (cmd : Instr),
    (op, cmd) ∈ [(0, Instr.mmul v waited), (1, Instr.anchor v waited), (2, Instr.wpadd v waited)] →
    s.MayStart v p pos matrixJudge e → e.desc.op = op →
    let x := matrixWork e.desc (s.workOn p waited.toNat 0 e)
    let e' := { e with saved := some (((s.addWait p waited.toNat).core p).slot e.desc.mxSlot) }
    ((s.core p).injectResidue = false →
      (x.1.fault = none → exec cmd s = .next (s.executing p waited.toNat 0 { e' with anchor := x.2 } x.1)) ∧
      (∀ m, x.1.fault = some m → exec cmd s = .next (s.halted p waited.toNat 0 pos e' x.1 m))) ∧
    (x.1.fault = none → exec cmd s = .next ((s.executing p waited.toNat 0 { e' with anchor := x.2 } x.1).injectTile p e'))) ∧
  (∀ (s : State) (v : Fin 256) (p pos : Nat) (i : Fin 2) (e : QEntry) (t : U64),
    s.phys v = some p → (((s.core p).queue 0).ents.zipIdx.filter (fun x => decide (x.1.st = .executing)))[i.val]? = some (e, pos) →
    let reps (c : CoreSt) : Nat := c.fld .CORE_MX_STAT 0 31 16
    let again : QEntry := { e with st := .waiting, pend := [], anchor := none, replays := e.replays + 1, rehearse := false }
    let replayed (o : Host.Outcome State Fault Refusal) (s : State) (rehearse : Bool) : Prop := ∃ s₁,
      o = .next (matrixGo s₁ p pos again) ∧
      (e.desc.op ≠ 1 → (s₁.core p).slot e.desc.mxSlot = e.saved.getD {}) ∧ (e.desc.op = 1 → (s₁.core p).slots = (s.core p).slots) ∧
      reps (s₁.core p) = (if rehearse then reps (s.core p) else satAdd 65535 (reps (s.core p)) 1) ∧
      (s₁.core p).reg .CORE_FAULT_RECORD 7 = BitVec.ofNat 64 (s.core p).tiles ∧
      natBits ((s₁.core p).reg .CORE_FAULT_RECORD 0).toNat 7 0 = 0x07
    let cordoned (s : State) : State :=
      (s.runCore p (s.core p, [.record (residueRecord 0x08 (s.core p).tiles pos e false)])).cordonCore p 1 false
    (e.replays = 0 → replayed (exec (.residueMismatch v i) s) s false) ∧
    (e.replays ≠ 0 → exec (.residueMismatch v i) s = .next (cordoned s)) ∧
    (∀ k : Fin 8, k.val = pos → (s.at' t.toNat).mayComplete p 0 k = some e → (s.core p).tileDisagrees 0 e = true →
      (e.replays = 0 → replayed (exec (.descriptorComplete v 0 k t) s) (s.at' t.toNat) e.rehearse) ∧
      (e.replays ≠ 0 → exec (.descriptorComplete v 0 k t) s = .next (cordoned (s.at' t.toNat)))))

/-- R168, R88: each element-wise command starts the VEW head that names its function code, and the descriptor's writes are those of
its rows under that function.
R171, R175, R177, R178, R88: VCVT, the reductions and VGATHER start the heads they name.
Readings or choices of the model among them: log entries 5, 27 and 28. -/
def Obligations.VectorStarts : Prop :=
  (∀ (s : State) (v : Fin 256) (p pos : Nat) (w : U64) (e : QEntry) (func : Nat) (cmd : Instr),
    (func, cmd) ∈
      [(0x00, Instr.vewAdd v w), (0x01, Instr.vewSub v w), (0x02, Instr.vewMul v w), (0x03, Instr.vewDiv v w),
       (0x04, Instr.vewFma v w), (0x05, Instr.vewFms v w), (0x06, Instr.vewFmai v w), (0x07, Instr.vewMaximum v w),
       (0x08, Instr.vewMinimum v w), (0x09, Instr.vewAbs v w), (0x0A, Instr.vewNeg v w), (0x0B, Instr.vewMov v w),
       (0x0C, Instr.vewMulfrac v w), (0x0D, Instr.vewSqrt v w), (0x10, Instr.vewExp2 v w), (0x11, Instr.vewLog2 v w),
       (0x12, Instr.vewRecip v w), (0x13, Instr.vewRsqrt v w), (0x14, Instr.vewSturn v w), (0x15, Instr.vewCturn v w),
       (0x16, Instr.vewTanh v w), (0x17, Instr.vewSigmoid v w), (0x18, Instr.vewErf v w), (0x19, Instr.vewSilu v w)] →
    s.MayStart v p pos vectorJudge e → e.desc.op = 0 → e.desc.vFunc = func →
    ∃ u, vewUses func = some u ∧
    let r := eachRow (vewRow e.desc func u) e.desc.vRows (s.workOn p w.toNat 1 e) 0
    (r.fault = none → exec cmd s = .next (s.executing p w.toNat 1 e r)) ∧
    (∀ m, r.fault = some m → exec cmd s = .next (s.halted p w.toNat 1 pos e r m))) ∧
  (∀ (s : State) (v : Fin 256) (p pos : Nat) (w : U64) (e : QEntry) (op func : Nat) (cmd : Instr) (work : Run → Desc → Run),
    (op, func, cmd, work) ∈
      [(1, e.desc.f 0 31 24, Instr.vcvt v w, vectorVcvt), (2, 0, .vredSum v w, vectorVred), (2, 1, .vredSumsq v w, vectorVred),
       (2, 2, .vredMax v w, vectorVred), (2, 3, .vredMin v w, vectorVred), (2, 4, .vredPsum v w, vectorVred),
       (3, e.desc.f 0 31 24, .vgather v w, vectorGather)] →
    s.MayStart v p pos vectorJudge e → e.desc.op = op → e.desc.f 0 31 24 = func →
    let r := work (s.workOn p w.toNat 1 e) e.desc
    (r.fault = none → exec cmd s = .next (s.executing p w.toNat 1 e r)) ∧
    (∀ m, r.fault = some m → exec cmd s = .next (s.halted p w.toNat 1 pos e r m)))

/-- R111, R683: COPY copies its rows in ascending order, each read whole before it is written, and FILL repeats its 64-bit pattern.
R220, R224, R684: SLOW_IN takes its HBM bytes to the sump and SLOW_OUT its sump bytes to HBM, written as each descriptor completes; PULL
sends its request to the peer, which reads the range and has it wait, as flits under the TAG of the reader's kind-5 flow, for its slots.
Readings or choices of the model among them: log entries 29, 30 and 132. -/
def Obligations.MovesAndPulls : Prop :=
  (∀ (s : State) (v : Fin 256) (p pos : Nat) (w : U64) (e : QEntry),
    s.MayStart v p pos moveJudge e →
    let r₀ := s.workOn p w.toNat 2 e
    let len := 64 * (e.desc.f 4 23 0 + 1)
    let pitch (x : Nat) : Nat := if x = 0 then len else 64 * x
    let row (r : Run) (i : Nat) : Run :=
      (r.read (e.desc.f 1 47 0 + i * pitch (e.desc.f 1 63 48)) len).1.write (e.desc.f 2 47 0 + i * pitch (e.desc.f 2 63 48))
        (r.read (e.desc.f 1 47 0 + i * pitch (e.desc.f 1 63 48)) len).2
    let copied := (List.range (e.desc.f 4 47 32 + 1)).foldl row r₀
    let filled := r₀.write (e.desc.f 2 47 0) ((List.range (8 * (e.desc.f 4 23 0 + 1))).flatMap (fun _ => leBytes 8 e.desc.w5.toNat))
    (e.desc.op = 0 →
      (copied.fault = none → exec (.copy v w) s = .next (s.executing p w.toNat 2 e copied)) ∧
      (∀ m, copied.fault = some m → exec (.copy v w) s = .next (s.halted p w.toNat 2 pos e copied m))) ∧
    (e.desc.op = 4 →
      (filled.fault = none → exec (.fill v w) s = .next (s.executing p w.toNat 2 e filled)) ∧
      (∀ m, filled.fault = some m → exec (.fill v w) s = .next (s.halted p w.toNat 2 pos e filled m)))) ∧
  (∀ (s : State) (v : Fin 256) (p pos : Nat) (w : U64) (e : QEntry) (bad : List Nat),
    s.MayStart v p pos moveJudge e →
    let q := p / 72
    let n := (e.desc.f 4 23 0 + 1) * 64
    let r₀ := s.workOn p w.toNat 2 e
    let starts (t : State) (holds : QEntry → Prop) : Prop :=
      ∃ x ∈ ((t.core p).queue 2).ents, x.seqNo = e.seqNo ∧ x.desc = e.desc ∧ x.st = .executing ∧ holds x
    (e.desc.op = 1 → (s.quad q).hbmBad = [] →
      let r := r₀.write (e.desc.f 2 47 0) ((s.quad q).hbm.readN (e.desc.f 1 39 0) n)
      r.fault = none → r.evs = [] → ∃ t, exec (.slowIn v w { sec := 0, ondie := 0, bad := [] }) s = .next t ∧
        starts t (fun x => x.pend = [⟨e.desc.f 2 47 0, (s.quad q).hbm.readN (e.desc.f 1 39 0) n, none, false⟩]) ∧
        (t.core p).sram = (s.core p).sram) ∧
    (e.desc.op = 2 → ∀ bs r, r₀.read (e.desc.f 1 47 0) n = (r, bs) → r.fault = none → r.evs = [] →
      ∃ t, exec (.slowOut v w bad) s = .next t ∧ starts t (fun x => x.pend = [] ∧ x.hbm = some (e.desc.f 2 39 0, bs)) ∧
        (t.quad q).hbm = (s.quad q).hbm) ∧
    (e.desc.op = 3 → r₀.fault = none → r₀.evs = [] → ∃ t, exec (.pull v w) s = .next t ∧ starts t (fun x => x.moved = 0) ∧
      t.out = s.out ++ [.pullRequest q p (e.desc.f 1 55 48) (e.desc.f 1 47 0) (e.desc.f 4 23 0 + 1)])) ∧
  (∀ (s : State) (v : Fin 256) (p pp pos f : Nat) (e : QEntry) (bs : List Byte) (r : Run),
    s.phys v = some p → (s.core p).pulling (fun x => decide (x.req = 0)) = some (e, pos) →
    s.phys (e.desc.f 1 55 48) = some pp → pp ≠ p →
    let tag := (s.core p).fld .MSH_FLOW f 9 0
    (s.fenced pp = false → (⟨s.core pp, s.now, none, [], []⟩ : Run).read (e.desc.f 1 47 0) ((e.desc.f 4 23 0 + 1) * 64) = (r, bs) →
      r.fault = none → r.evs = [] → (s.core p).pullFlow (e.desc.f 1 55 48) = some f →
      ∃ t, exec (.pullRequest v) s = .next t ∧ t.out = s.out ∧ (t.core pp).sram = (s.core pp).sram ∧
        Map.get (α := List Flit) (t.core pp).outbox tag [] = Map.get (α := List Flit) (s.core pp).outbox tag [] ++ planFlits tag bs ∧
        ∃ x ∈ ((t.core p).queue 2).ents, x = { e with req := 1 }) ∧
    (s.fenced pp = true → ∃ t, exec (.pullRequest v) s = .next t ∧ (t.core pp).outbox = (s.core pp).outbox ∧
      t.fld .MSH_ROUTER_STAT pp 15 0 = satAdd 65535 (s.fld .MSH_ROUTER_STAT pp 15 0) 1))

/-- R113, R114, R336, R343: SEND's bytes wait as flits under the flow's TAG; RECV takes the granules its flow's buffer holds; data that
arrives for a flow with no receiver is held as far as the buffer has room, and at a fenced core it is discarded and counted (R349).
R113, R416, R419: ESEND and EREAD start and their request enters the window that names the destination. Readings or choices of the model
among them: log entries 30 and 132. -/
def Obligations.ExchangeStarts : Prop :=
  (∀ (s : State) (v : Fin 256) (p pos : Nat) (w : U64) (e : QEntry) (flow : Fin 1024) (data : List Byte) (crc : BitVec 16)
    (held : List Granule),
    let starts (t : State) (holds : QEntry → Prop) : Prop :=
      ∃ x ∈ ((t.core p).queue 3).ents, x.seqNo = e.seqNo ∧ x.desc = e.desc ∧ x.st = .executing ∧ holds x
    let n := e.desc.f 4 23 0 + 1
    let buffer (s : State) (f : Nat) : List Granule := Map.get (α := List Granule) (s.core p).staged f []
    (s.MayStart v p pos exchangeJudge e → e.desc.op = 0 →
      ∀ bs r, (s.workOn p w.toNat 3 e).read (e.desc.f 1 47 0) (n * 64) = (r, bs) → r.fault = none → r.evs = [] →
      ∃ t, exec (.send v w) s = .next t ∧
        starts t (fun x => x.flits = planFlits ((s.core p).fld .MSH_FLOW e.desc.flow 9 0) bs ∧ x.pend = [])) ∧
    (s.MayStart v p pos exchangeJudge e → e.desc.op = 1 → buffer s e.desc.flow = held →
      (s.workOn p w.toNat 3 e).fault = none → (s.workOn p w.toNat 3 e).evs = [] → (((s.core p).queue 3).ents.map QEntry.seqNo).Nodup →
      (∀ x ∈ ((s.core p).queue 3).ents, x.st = .executing → x.desc.op ≠ 1 ∨ x.desc.flow ≠ e.desc.flow ∨ x.desc.granules ≤ x.moved) →
      ∃ t, exec (.recv v w) s = .next t ∧ buffer t e.desc.flow = held.drop n ∧
        starts t (fun x => x.moved = min held.length n ∧ x.pend =
          (held.take n).zipIdx.map (fun g => ⟨e.desc.f 3 47 0 + 64 * g.2, g.1.data, some g.1.crc, false⟩))) ∧
    (s.phys v = some p → s.fenced p = false → data.length = 64 →
      ((s.core p).queue 3).ents = [] → ((s.core p).queue 2).ents = [] → buffer s flow = held →
      held.length < 2 * (s.core p).fld .MSH_FLOW flow 27 16 →
      ∃ t, exec (.plannedDataArrival v flow data [crc]) s = .next t ∧ buffer t flow = held ++ [⟨data, crc.toNat⟩] ∧
        (t.core p).sram = (s.core p).sram) ∧
    (s.phys v = some p → s.fenced p = true → ∃ t, exec (.plannedDataArrival v flow data [crc]) s = .next t ∧ t.cores = s.cores ∧
      t.fld .MSH_ROUTER_STAT p 15 0 = satAdd 65535 (s.fld .MSH_ROUTER_STAT p 15 0) 1)) ∧
  (∀ (s : State) (v : Fin 256) (p pos wi : Nat) (w : U64) (e : QEntry),
    s.MayStart v p pos exchangeJudge e → (s.workOn p w.toNat 3 e).fault = none → (s.workOn p w.toNat 3 e).evs = [] →
    s.findWin (p / 72) e.desc.elaDst (e.desc.elaCore / 64) = some wi →
    (e.desc.op = 3 → ∃ t r, exec (.eread v w) s = .next t ∧ ((t.quad (p / 72)).win wi).reqs = ((s.quad (p / 72)).win wi).reqs ++ [r] ∧
      r.id = ((s.quad (p / 72)).win wi).nextId ∧ r.core = p ∧ r.write = false ∧ r.granules = e.desc.f 4 23 0 + 1) ∧
    (e.desc.op = 2 → ∀ bs x, (s.workOn p w.toNat 3 e).read (e.desc.f 1 47 0) ((e.desc.f 4 23 0 + 1) * 64) = (x, bs) →
      x.fault = none → x.evs = [] →
      ∃ t r, exec (.esend v w) s = .next t ∧ ((t.quad (p / 72)).win wi).reqs = ((s.quad (p / 72)).win wi).reqs ++ [r] ∧
      r.id = ((s.quad (p / 72)).win wi).nextId ∧ r.core = p ∧ r.write = true ∧ r.granules = e.desc.f 4 23 0 + 1))

/-! ### Core and HBM memory -/

/-- R196, R203, R226: with the core quiescent a region entry takes the value written, its reserved bits read 0, and the port shares take
a value that keeps their constraints; otherwise the write changes nothing but REG_REJ, except that the keeper may change an entry of a
quadrant that runs a plan between types 0 and 1 at the next launch. -/
def Obligations.RegionAndShareWrites : Prop :=
  ∀ (s : State) (v : Fin 256) (p : Nat) (i : Fin 16) (val : U64) (keeper : Bool),
    s.phys v = some p →
    let c := s.core p
    let w := val &&& 0xFFF7FFFFFFF
    let runs := keeper && s.runs (v.val / 64)
    let swap : Prop := (c.regType i = 0 ∧ bitsOf w 30 28 = 1) ∨ (c.regType i = 1 ∧ bitsOf w 30 28 = 0)
    let rejected (t : State) : Prop := (t.core p).fld .CORE_MEM_STAT 0 52 52 = 1 ∧ (t.core p).sram = c.sram ∧
      (∀ j : Fin 16, (t.core p).reg .CORE_REGION j = c.reg .CORE_REGION j) ∧
      (t.core p).reg .CORE_PORT_SHARE 0 = c.reg .CORE_PORT_SHARE 0 ∧ (t.core p).regionPend = c.regionPend
    (c.quiescent = true → ∃ t, exec (.coreRegionWrite v i val keeper) s = .next t ∧ (t.core p).reg .CORE_REGION i = w ∧
      ∀ j : Fin 16, j ≠ i → (t.core p).reg .CORE_REGION j = c.reg .CORE_REGION j) ∧
    (c.quiescent = false → runs = true → swap → ∃ t, exec (.coreRegionWrite v i val keeper) s = .next t ∧
      Map.get (α := U64) (t.core p).regionPend i 0 = w ∧ (t.core p).regs = c.regs) ∧
    (c.quiescent = false → ¬ (runs = true ∧ swap) → ∃ t, exec (.coreRegionWrite v i val keeper) s = .next t ∧ rejected t) ∧
    (c.quiescent = true → shareOk val = true → ∃ t, exec (.portShareWrite v val) s = .next t ∧
      (t.core p).reg .CORE_PORT_SHARE 0 = val &&& 0xFFFFFFFFFFFFFFF) ∧
    ((c.quiescent && shareOk val) = false → ∃ t, exec (.portShareWrite v val) s = .next t ∧ rejected t)

/-- R205 to R208, R682: the write-back of the oldest queued crystal unit rewrites one that decodes with a corrected symbol, leaves one
that is clean, and poisons one that has become uncorrectable, whose rows then wait for re-crystallisation. A unit that is no longer
crystal is not rewritten. R208: the poisoned unit of a crystal piece of one unit, of a position that has not moved, is rewritten from
the piece's sound backing copy, and the position waits for re-crystallisation no longer; while the backing copy itself has to be fetched
again, it waits on. R219, R223, R224: the refresh rate is as HOT tells; a patrol scrub counts its corrections and keeps and reports the
words it finds uncorrectable; the stack's contents stay as they are. Readings or choices of the model among them: log entries 25, 96 and
126. -/
def Obligations.CrystalAndHbmUpkeep : Prop :=
  (∀ (s : State) (p : Fin 288) (u : Nat) (rest : List Nat),
    let c := s.core p
    let cw := c.unitBytes u ++ (c.unit u).check
    c.wbq = u :: rest → (c.unit u).init = false → (c.unit u).poison = false →
    (c.unitType u ≠ 1 → ∃ t, exec (.crystalWriteBack p) s = .next t ∧ (t.core p).wbq = rest ∧ (t.core p).sram = c.sram ∧
      (t.core p).units = c.units) ∧
    (c.unitType u = 1 → ∃ t, exec (.crystalWriteBack p) s = .next t ∧ (t.core p).wbq = rest ∧
      (rsDecode cw = .clean → (t.core p).sram = c.sram ∧ (t.core p).unit u = c.unit u) ∧
      (∀ d, rsDecode cw = .corrected d →
        (t.core p).sram = c.sram.writeN (u * 64) (d.take 64) ∧ (t.core p).unit u = ⟨rsCheck (d.take 64), false, false⟩) ∧
      (rsDecode cw = .bad → (t.core p).sram = c.sram ∧ ((t.core p).unit u).poison = true ∧ (t.core p).fld .CORE_MEM_STAT 0 48 48 = 1 ∧
        ∀ v, s.virtOf p = some v → v ∈ (t.quad (p.val / 72)).recrys))) ∧
  (∀ (s : State) (v : Fin 256) (p idx k : Nat) (digest : List Byte) (r : ShardRec),
    let q := v.val / 64
    let found : HbmFinds := { bad := [], sec := 0, ondie := 0 }
    s.phys v = some p → Mem.wf (s.core p).sram = true → (s.quad q).recrys.contains v = true → (s.quad q).moved = [] →
    (s.quad q).shards = [r] → mfCrystal r.words = true → r.bad = false → r.pieces = [(v.val, idx, 64, 0, digest)] →
    ((s.quad q).hbmBad = [] → (s.core p).crystalAt idx = some k → ((s.core p).unit ((s.core p).regBase k / 64)).poison = true →
      ∃ t, exec (.recrystallisationDone v found) s = .next t ∧ v.val ∉ (t.quad q).recrys ∧
        (t.core p).sram.readN ((s.core p).regBase k) 64 = (s.quad q).hbm.readN (mfAddr r.words) 64) ∧
    ((s.quad q).hbmBad = [mfAddr r.words] → mfStaged r.words = false → (s.quad q).load = none →
      ∃ t l, exec (.recrystallisationDone v found) s = .next t ∧ (t.quad q).recrys = (s.quad q).recrys ∧ (t.core p).sram = (s.core p).sram ∧
        (t.quad q).load = some l ∧ l.refetch = true ∧ l.words = r.words)) ∧
  (∀ (s : State) (q : Fin 4) (hot : Bool) (sec ondie : Nat) (bad : List Nat),
    (∃ t, exec (.hbmRefresh q hot) s = .next t ∧ t.bit .QD_HBM_STAT q 49 = hot ∧ (t.quad q).hbm = (s.quad q).hbm) ∧
    (∃ t, exec (.patrolScrub q sec ondie bad) s = .next t ∧ (t.quad q).hbm = (s.quad q).hbm ∧
      t.fld .QD_HBM_STAT q 31 0 = satAdd (2 ^ 32 - 1) (s.fld .QD_HBM_STAT q 31 0) sec ∧
      t.fld .QD_HBM_STAT q 47 32 = satAdd (2 ^ 16 - 1) (s.fld .QD_HBM_STAT q 47 32) ondie ∧
      ∀ b ∈ bad, b / 8 * 8 < 0x600000000 → b / 8 * 8 ∈ (t.quad q).hbmBad ∧ t.fld .QD_HBM_STAT q 48 48 = 1))

/-- R205: the crystal code takes an intact unit as it is, and corrects any one symbol that differs. -/
def Obligations.CrystalCodeCorrects : Prop :=
  ∀ (d : List Byte) (k : Nat) (b : Byte),
    d.length = 64 → k < 67 →
    let cw := d ++ rsCheck d
    rsDecode cw = .clean ∧
    (b ≠ nthD cw k 0 → rsDecode (setNth cw k b) = .corrected cw)

/-! ### Fault records -/

/-! ### Ingest -/

/-- R231, R232, R237, R238: a LOAD that the idle engine takes and whose manifest passes every check asks for its stored form, or takes the
staging area; a malformed manifest ends it with status 0x04; while the engine is busy or disabled the command is held and waits.
R237, R238: storage data arrives in order; a mark halves the READ limit, and 100 µs without one raise it by 1; the oldest READ is
sent again after its timeout or a negative acknowledgement, up to 7 times; a frame the port does not support is counted and discarded.
Readings or choices of the model among them: log entries 121, 122 and 138. -/
def Obligations.LoadsAndStorageReads : Prop :=
  (∀ (s : State) (q : Fin 4) (entry : Entry) (block : List Byte) (places : List U64),
    let ws := entryWords entry
    let m := wordsOf block
    let target := wf m 0 55 52
    let waits := (s.func q).fetched.any (fun e => e.words.any ingestOp)
    placesOf ws ≤ (s.func q).placesFree →
    (s.ingestIdle q = true → waits = false → cmdOk ws [2 ^ 64 - 64] = true →
      (manifestOk m = true → s.mfPlaces q m = some places → places.all (s.placeOk q m) = true →
        (mfCrystal m = true → coverAll (mfUnits m) 0 places = true) → s.homeOk q m places = true → mfHome m < 2 →
        (mfStaged m = true → (wordAt m 4).toNat + mfStored m ≤ (s.staging q).2 →
          ∃ t l, exec (.load q entry (some block)) s = .next t ∧ (t.quad q).load = some l ∧ l.words = m ∧ l.places = places ∧
            l.cid = cmdCid ws ∧ l.tag = cmdTag ws ∧ t.bit .ING_STAT q 0 = true ∧ t.bit .ING_STAT q 1 = true ∧ t.out = s.out) ∧
        (mfStaged m = false → s.targetValid target = true → s.power.lost.contains 38 = false → s.keeper.block = none →
          ∃ t l r, exec (.load q entry (some block)) s = .next t ∧ (t.quad q).load = some l ∧ l.words = m ∧ l.places = places ∧
            t.bit .ING_STAT q 0 = true ∧ l.asked = min (2 ^ 24) (mfStored m) ∧ t.out[s.out.length]? = some (.storage r) ∧
            r.port = s.loadPort q target ∧ r.target = target ∧ r.rkey = wf m 5 31 0 ∧ r.addr = (wordAt m 4).toNat ∧
            r.len = min (2 ^ 20) (mfStored m))) ∧
      (manifestOk m = false → s.bit .HIF_CTRL q 0 = true → (s.quad q).refetch = [] →
        ∃ t a0, exec (.load q entry (some block)) s = .next t ∧ (t.quad q).load = none ∧
          (t.func q).queue = (s.func q).queue ++ [answerOf q 6 0x04 ws a0 0])) ∧
    (s.ingestIdle q = false ∨ waits = true → ∃ t e, exec (.load q entry (some block)) s = .next t ∧ t.quads = s.quads ∧
      (t.func q).queue = (s.func q).queue ∧ e ∈ (t.func q).fetched ∧ e.words = some ws ∧ e.block = some block)) ∧
  (∀ (s : State) (q : Fin 4) (port : Fin 2) (data : List Byte) (frame : StorageFrame) (t : U64) (l : LoadSt),
    (s.quad q).load = some l → mfStaged l.words = false → l.ready = none → mfStored l.words ≤ l.asked →
    let stored := l.stored ++ data.take (l.asked - l.stored.length)
    let target := wf l.words 0 55 52
    (storageFrameOk frame = true → frame.pdu = .readResponse data → l.port = port →
      ∃ s' l', exec (.storageReadResponse q port frame t) s = .next s' ∧
        (s'.quad q).load = some l' ∧ l'.stored = stored ∧ l'.limit = (if frame.ce then max 1 (l.limit / 2) else l.limit) ∧
        l'.words = l.words ∧ (s'.quad q).hbm = (s.quad q).hbm ∧
        s'.out = s.out ++ (if frame.ce then [.storageCnp port target (bitsOf l.pair.cfg 23 0)] else [])) ∧
    (storageFrameOk frame = false → ∃ s', exec (.storageReadResponse q port frame t) s = .next s' ∧ (s'.quad q).load = some l ∧
      s'.fld .ING_PORT_STAT port 31 16 = satAdd (2 ^ 16 - 1) (s.fld .ING_PORT_STAT port 31 16) 1) ∧
    (∀ off len n rest, l.outst = (off, len, n) :: rest → n < 7 →
      let again (o : Host.Outcome State Fault Refusal) : Prop := ∃ s' r, o = .next s' ∧
        (s'.quad q).load = some { l with outst := (off, len, n + 1) :: rest } ∧ s'.out = s.out ++ [.storage r] ∧
        r.port = l.port ∧ r.target = target ∧ r.addr = (wordAt l.words 4).toNat + off ∧ r.len = len
      again (exec (.storageReadTimeout q) s) ∧
      (storageFrameOk frame = true → frame.pdu = .nak → l.port = port → again (exec (.storageReadResponse q port frame t) s))) ∧
    (∀ m, l.marked = some m → m + 100000 ≤ t.toNat → l.limit < 16 → ∃ s', exec (.outstandingLimitRaise q t) s = .next s' ∧
      (s'.quad q).load = some { l with limit := l.limit + 1, marked := some t.toNat }))

/-- R232, R244 to R248: when the whole stored form has come, its decoded and converted form is written at HOME_ADDR. With the stored
digest as it should be, HOME is read back and the record waits for the next launch of the plan that runs; with another the load ends
with status 0x01. A codec error ends it with 0x02 and its offset, a weight that cannot be converted with 0x03, and neither writes HOME.
R250, R251: with RECHECK_EN a recheck begins once the period is over, or is counted late while the last one goes on. It ends with every
live shard's record counted; a resident form of HBM that matches its digest has the drip as its last match, and one that does not is
damaged and fetched from storage again. Readings or choices of the model among them: log entries 85, 119 and 125. -/
def Obligations.LoadsFinishAndRecheck : Prop :=
  (∀ (s : State) (q : Fin 4) (l : LoadSt) (dec : List Byte) (conv : List Nat × List Nat) (off : Nat),
    let found : HbmFinds := { bad := [], sec := 0, ondie := 0 }
    let decoded := decodeStored (mfDecoded l.words) l.stored
    let converted := convertAll (mfSrc l.words) (mfDst l.words) dec (mfElems l.words)
    (s.quad q).load = some l → l.ready = none → l.refetch = false → mfStaged l.words = false →
    l.stored.length = mfStored l.words → (s.quad q).hbmBad = [] →
    let ps := shardPieces l.words l.places conv
    let written := (s.quad q).hbm.writeN (mfAddr l.words) (homeImage l.words ps)
    let ends (status a1 : Nat) (hbm : Mem) : Prop := ∃ t c, exec (.ingestStreamDone q found) s = .next t ∧ (t.quad q).load = none ∧
      (t.quad q).hbm = hbm ∧ (t.func q).queue = (s.func q).queue ++ [c] ∧ c.kind = 6 ∧ c.status = status ∧ c.cid = l.cid ∧ c.tag = l.tag ∧
      c.arg1 = a1
    (decoded = .ok dec → converted = some conv → sha256 l.stored = mfDigest l.words 8 →
      (mfDigest l.words 12).any (· ≠ 0) = false → s.runs q = true →
      ∃ t l' r, exec (.ingestStreamDone q found) s = .next t ∧ (t.quad q).load = some l' ∧ l'.ready = some r ∧ r.words = l.words ∧
        r.pieces = recordPieces l.words l.places (t.readHome q (mfAddr l.words) (ps.map (fun p => (p.1.length, p.2.length)))) ∧
        (t.quad q).hbm = written ∧ (t.quad q).shards = (s.quad q).shards) ∧
    (l.slot = none → s.bit .HIF_CTRL q 0 = true → (s.quad q).refetch = [] →
      (decoded = .ok dec → converted = some conv → sha256 l.stored ≠ mfDigest l.words 8 → ends 0x01 0 written) ∧
      (decoded = .bad off → ends 0x02 off (s.quad q).hbm) ∧
      (decoded = .ok dec → converted = none → ends 0x03 0 (s.quad q).hbm))) ∧
  (∀ (s : State) (q : Fin 4) (t : U64) (r : ShardRec) (core d sc : Nat) (digest : List Byte) (began : Nat),
    let found : HbmFinds := { bad := [], sec := 0, ondie := 0 }
    let enabled := s.bit .ING_CTRL q 1
    let due : Prop := ∀ a, (s.quad q).recheckAt = some a → a + max 1000 (s.fld .ING_RECHECK q 31 0) * 1000000 ≤ t.toNat
    (enabled = true → due → (s.quad q).recheck = none → ∃ s', exec (.digestRecheck q t) s = .next s' ∧
      (s'.quad q).recheck = some t.toNat ∧ (s'.quad q).recheckAt = some t.toNat) ∧
    (enabled = true → due → (s.quad q).recheck = some began → ∃ s', exec (.digestRecheck q t) s = .next s' ∧
      (s'.quad q).recheck = some began ∧ s'.fld .ING_STAT q 55 48 = satAdd 255 (s.fld .ING_STAT q 55 48) 1) ∧
    (enabled = false ∨ ¬ due → ∃ s', exec (.digestRecheck q t) s = .next s' ∧ s'.quads = s.quads) ∧
    ((s.quad q).recheck = some began → (s.quad q).recheckDue = false → (s.quad q).shards = [r] → r.live = true →
      (s.quad q).hbmBad = [] → mfCrystal r.words = false → r.pieces = [(core, 0, d, sc, digest)] →
      let sound : Prop := imageDigest (s.hbmRead q) (mfAddr r.words) d sc = digest
      ∃ s', exec (.recheckDone q t found) s = .next s' ∧ (s'.quad q).recheck = none ∧
        (sound → (s'.quad q).shards = [{ r with rechecks := r.rechecks + 1, checked := max s.now t.toNat }]) ∧
        (¬ sound → (s'.quad q).shards = [{ r with rechecks := r.rechecks + 1, bad := true }] ∧
          s'.fld .ING_STAT q 47 32 = satAdd (2 ^ 16 - 1) (s.fld .ING_STAT q 47 32) 1 ∧
          (mfStaged r.words = false → (s.quad q).load = none → ∃ l, (s'.quad q).load = some l ∧ l.refetch = true ∧ l.words = r.words))))

/-- R239, R252, R255, R516: the staging window reads and writes the quadrant's staging area while it belongs to no load; UNLOAD frees a
resident shard that no running plan uses and refuses one in use with 0x0E, and waits while the engine is busy; RETIRE makes a LIVE
version RETIRING and refuses another with 0x09. -/
def Obligations.StagingUnloadRetire : Prop :=
  ∀ (s : State) (q : Fin 4) (off : BitVec 32) (data : List Byte) (len : Fin 4097) (entry : Entry),
    let ws := entryWords entry
    let a := (s.staging q).1 + off.toNat
    let room := min (s.staging q).2 (2 ^ 32)
    let id := wf ws 1 31 0
    let gen := wf ws 1 47 32
    let pfx : Bool := decide (wf ws 1 48 48 = 1)
    let named (r : ShardRec) : Bool := mfId r.words = id && mfGen r.words = gen && mfHome r.words < 2
    let live := (s.slotsOf q pfx id).find? (fun k => s.slotVersion pfx k = gen && s.slotState pfx k = 2)
    (s.bit .ING_STAT q 1 = false → off.toNat + data.length ≤ room → ∃ t, exec (.bar2Write q off data) s = .next t ∧
      (t.quad q).hbm = (s.quad q).hbm.writeN a data) ∧
    (s.bit .ING_STAT q 1 = true → ∃ t, exec (.bar2Write q off data) s = .next t ∧ (t.quad q).hbm = (s.quad q).hbm ∧
      t.bit .ING_STAT q 2 = true) ∧
    (off.toNat + len ≤ room → (s.quad q).hbmBad = [] → ∃ t, exec (.bar2Read q off len { bad := [], sec := 0, ondie := 0 }) s = .next t ∧
      t.out = s.out ++ [.readData "BAR2" ((s.quad q).hbm.readN a len)] ∧ (t.quad q).hbm = (s.quad q).hbm) ∧
    (s.ingestIdle q = true → (s.func q).fetched.any (fun e => e.words.any ingestOp) = false → placesOf ws ≤ (s.func q).placesFree → cmdOk ws [0xFFFFFFFFFFFF] = true →
      s.bit .HIF_CTRL q 0 = true → (s.quad q).shards.any named = true →
      ∃ t, exec (.unload q entry) s = .next t ∧
        (s.shardInUse q id gen = false → (t.quad q).shards = (s.quad q).shards.filter (fun r => !named r) ∧
          (t.func q).queue = (s.func q).queue ++ [answerOf q 6 0 ws (loadArg id gen 0 false) 0]) ∧
        (s.shardInUse q id gen = true → (t.quad q).shards = (s.quad q).shards ∧
          (t.func q).queue = (s.func q).queue ++ [answerOf q 6 0x0E ws (loadArg id gen 0 false) 0])) ∧
    (s.ingestIdle q = false → placesOf ws ≤ (s.func q).placesFree → ∃ t e, exec (.unload q entry) s = .next t ∧ t.quads = s.quads ∧
      (t.func q).queue = (s.func q).queue ∧ e ∈ (t.func q).fetched ∧ e.words = some ws) ∧
    (placesOf ws ≤ (s.func q).placesFree → cmdOk ws [0x1FFFFFFFFFFFF] = true → (s.slotRange q pfx).2 ≠ 0 →
      s.bit .HIF_CTRL q 0 = true → s.runs q = true →
      ∃ t, exec (.retire q entry) s = .next t ∧
        (∀ k, live = some k → t.slotState pfx k = 3 ∧ (t.func q).queue = (s.func q).queue ++ [answerOf q 1 0 ws 0 0]) ∧
        (live = none → t.regs = s.regs ∧ (t.func q).queue = (s.func q).queue ++ [answerOf q 1 0x09 ws 0 0]))

/-! ### Serving -/

/-- R298, R300, R521, R523, R528, R532: the ring, account and variant commands of a quadrant function, each with a free place for its
completion. CREATE_RING makes the ring its operands give, or completes with 0x33 on an illegal size and 0x32 on a ring that is there;
DELETE_RING removes an unbound ring, or completes with 0x32; BIND_RINGS gives a restored slot its free rings; ACCT_SET and ACCT_CREDIT set
and credit an account the quadrant owns, or complete with 0x34; VARIANT_REQ keeps or withdraws the host's request at the running partition
master. -/
def Obligations.RingAccountCommands : Prop :=
  ∀ (s : State) (q : Fin 4) (entry : Entry),
    let ws := entryWords entry
    let ring := wf ws 1 7 0
    let acct := wf ws 1 12 0
    let n := wf ws 1 6 0
    let answers (o : Host.Outcome State Fault Refusal) (status : Nat) (holds : State → Prop) : Prop := ∃ t, o = .next t ∧ holds t ∧
      (t.func q).queue = (s.func q).queue ++ [answerOf q 1 status ws 0 0]
    placesOf ws = 1 → 1 ≤ (s.func q).placesFree → s.bit .HIF_CTRL q 0 = true →
    (cmdOk ws [0x1FFFFFFFF, 2 ^ 64 - 1, 2 ^ 64 - 1] = true → (wordAt ws 2).toNat % 4096 = 0 → (wordAt ws 3).toNat % 4096 = 0 →
      (wf ws 1 8 8 = 1 ∨ wordAt ws 3 = 0) →
      (s.ring q ring = none → ringSizeOk (wf ws 1 32 16) = true → answers (exec (.createRing q entry) s) 0 (fun t =>
        t.ring q ring = some { output := decide (wf ws 1 8 8 = 1), irq := decide (wf ws 1 9 9 = 1), vector := wf ws 1 15 10,
                               size := wf ws 1 32 16, base := (wordAt ws 2).toNat, payload := (wordAt ws 3).toNat })) ∧
      (s.ring q ring = none → ringSizeOk (wf ws 1 32 16) = false → answers (exec (.createRing q entry) s) 0x33 (fun t =>
        t.ring q ring = none)) ∧
      (∀ r, s.ring q ring = some r → answers (exec (.createRing q entry) s) 0x32 (fun t => t.ring q ring = some r))) ∧
    (cmdOk ws [0xFF] = true →
      (∀ r, s.ring q ring = some r → r.bound = none → answers (exec (.deleteRing q entry) s) 0 (fun t =>
        (t.func q).rings = Map.del (α := Ring) (s.func q).rings ring)) ∧
      (∀ r k, s.ring q ring = some r → r.bound = some k → answers (exec (.deleteRing q entry) s) 0x32 (fun t =>
        t.ring q ring = some r)) ∧
      (s.ring q ring = none → answers (exec (.deleteRing q entry) s) 0x32 (fun t => t.ring q ring = none))) ∧
    (cmdOk ws [0xFFFF7F] = true → s.tagged q ws = true → ((s.quad q).slot n).restored = true →
      s.ringFree q false (ringId (wf ws 1 15 8)) = true → s.ringFree q true (ringId (wf ws 1 23 16)) = true →
      answers (exec (.bindRings q entry) s) 0 (fun t => (t.quad q).slot n =
        { (s.quad q).slot n with inRing := ringId (wf ws 1 15 8), outRing := ringId (wf ws 1 23 16), restored := false })) ∧
    (cmdOk ws [0x1FFF, 0xFFFFFFFF, 0xFFFFFFFFFF, 0xFFFFFFFF] = true →
      (s.ownsAccount q acct = true → answers (exec (.acctSet q entry) s) 0 (fun t => t.fld .BUD_CFG acct 31 0 = wf ws 4 31 0 ∧
        t.fld .BUD_CFG acct 63 32 = wf ws 2 31 0 ∧ t.fld .BUD_CAP acct 39 0 = wf ws 3 39 0 ∧ t.balance acct = s.balance acct)) ∧
      (s.ownsAccount q acct = false → answers (exec (.acctSet q entry) s) 0x34 (fun t => t.regs = s.regs))) ∧
    (cmdOk ws [0x1FFF, 0xFFFFFFFFFF] = true →
      (s.ownsAccount q acct = true → answers (exec (.acctCredit q entry) s) 0 (fun t =>
        t.balance acct = min (2 ^ 40 - 1) (s.balance acct + wf ws 2 39 0))) ∧
      (s.ownsAccount q acct = false → answers (exec (.acctCredit q entry) s) 0x34 (fun t => t.regs = s.regs))) ∧
    (cmdOk ws [0xFF] = true → (s.quad q).master = true → s.runs q = true →
      (ring ≤ 7 → answers (exec (.variantReq q entry) s) 0 (fun t => (t.quad q).request = some ring)) ∧
      (ring = 0xFF → answers (exec (.variantReq q entry) s) 0 (fun t => (t.quad q).request = none)))

/-- R277, R278, R287 to R289, R325 to R327: ADMIT puts an entry of its block at the lowest free place of the admission queue, or completes
with 0x1B while no plan runs or ADM_CTRL bit 0 is 0; CANCEL removes the one entry of its tag with a completion of its own; END and ABORT
end a sequence at once, or wait for the step in flight; CUT waits for the step in flight, changes nothing from the present position on, is
refused with 0x20 below DECODE's start or the token log's end, and else sets the slot back to its step. -/
def Obligations.SequenceCommands : Prop :=
  ∀ (s : State) (q : Fin 4) (entry : Entry) (b : List Byte) (i : Nat) (e : AdmEntry),
    let ws := entryWords entry
    let n := wf ws 1 6 0
    let x := (s.quad q).slot n
    let p := (s.quad q).params
    let c := wf ws 2 23 0
    let k := (c - x.d0) / p.np
    let queue := (s.func q).queue
    placesOf ws = 1 → 1 ≤ (s.func q).placesFree → s.bit .HIF_CTRL q 0 = true →
    (cmdOk ws [2 ^ 64 - 64] = true → s.runs q = true → s.bit .ADM_CTRL q 0 = true → blockClean b = true → (samplerOf b).ok = true →
      i < 1024 → Map.find (α := AdmEntry) (s.quad q).adm i = none →
      (∀ j < i, Map.find (α := AdmEntry) (s.quad q).adm j ≠ none) →
      ∃ t, exec (.admitSequence q entry (some b)) s = .next t ∧ (t.func q).queue = queue ∧
        Map.find (α := AdmEntry) (t.quad q).adm i = some (admEntryOf (cmdCid ws) (cmdTag ws) (s.quad q).admits (s.epoch q) b)) ∧
    (cmdOk ws [2 ^ 64 - 64] = true → (s.runs q = false ∨ s.bit .ADM_CTRL q 0 = false) →
      ∃ t, exec (.admitSequence q entry (some b)) s = .next t ∧ t.quads = s.quads ∧
        (t.func q).queue = queue ++ [answerOf q 2 0x1B ws 0 0]) ∧
    (cmdOk ws [0xFFFFFFFF] = true → (s.quad q).adm.filter (fun a => a.2.tag = wf ws 1 31 0) = [(i, e)] →
      ∃ t, exec (.cancel q entry) s = .next t ∧ (t.quad q).adm = Map.del (α := AdmEntry) (s.quad q).adm i ∧
        (t.func q).queue = queue ++
          [{ kind := 2, quad := q, status := 0x19, cid := e.cid, tag := e.tag, reserved := true }, answerOf q 1 0 ws 0 0]) ∧
    (∀ (cmd : Instr) (reason : Nat), (cmd, reason) ∈ [(Instr.endSequence q entry, 2), (.abort q entry, 3)] →
      cmdOk ws [0x7F] = true → s.tagged q ws = true → x.state = 1 ∨ x.state = 2 →
      (x.inStep = true → ∃ t, exec cmd s = .next t ∧ (t.quad q).slot n = { x with ending := some reason } ∧
        (t.func q).queue = queue ++ [answerOf q 1 0 ws 0 0]) ∧
      (x.inStep = false → x.ended = false → x.cut = none → ∃ t, exec cmd s = .next t ∧
        (t.quad q).slot n = { x with state := 3, reason := reason, ending := none, ended := true } ∧
        (t.func q).queue = queue ++ [answerOf q 1 0 ws 0 0, endedOf q n x.tag x.posWord reason])) ∧
    (cmdOk ws [0x7F, 0xFFFFFF] = true → s.tagged q ws = true → x.state = 2 →
      (x.inStep = true → x.cut = none → ∃ t, exec (.cut q entry) s = .next t ∧ (t.func q).queue = queue ∧
        (t.quad q).slot n = { x with cut := some (c, cmdCid ws), hold := 5 }) ∧
      (x.inStep = false → x.pos ≤ c → ∃ t, exec (.cut q entry) s = .next t ∧ t.quads = s.quads ∧
        (t.func q).queue = queue ++ [answerOf q 5 0 ws x.posWord x.frame]) ∧
      (x.inStep = false → c < x.pos → (c < x.d0 ∨ k < x.evict) → ∃ t, exec (.cut q entry) s = .next t ∧ t.quads = s.quads ∧
        (t.func q).queue = queue ++ [answerOf q 5 0x20 ws x.posWord x.frame]) ∧
      (x.inStep = false → c < x.pos → x.d0 ≤ c → x.evict ≤ k → ∃ t, exec (.cut q entry) s = .next t ∧
        ((t.quad q).slot n).step = k ∧ ((t.quad q).slot n).pos = x.d0 + k * p.np ∧ ((t.quad q).slot n).frame = k * p.cadenceIn ∧
        ((t.quad q).slot n).log = x.log.filter (fun r => decide (r.2 < k)) ∧ ((t.quad q).slot n).state = 2))

/-- R274, R279, R280, R518, R685: a fetched input entry waits in its ring's order with its words, its payload and whether its launch has
passed; applied, one that the plan takes and whose index comes next leaves its frame to the gateway, and another is a stream error that
releases its ring entry; the gateway writes the oldest applied frame into the input buffer of a plan with one reading core and releases its
entry; a prompt chunk that was asked for is written once into the prompt buffer, with zeros after it.
Readings or choices of the model among them: log entries 26, 84, 129 and 140. -/
def Obligations.InputAndPrompts : Prop :=
  ∀ (s : State) (q : Fin 4) (ring : Fin 256) (entry : Entry) (payload : List Byte) (r : Ring) (n : Fin 128) (c : Fin 16384)
    (buf : Buffers) (core : Nat) (e : RingFetch),
    let ws := entryWords entry
    let p := (s.quad q).params
    let x := (s.quad q).slot n
    let idx := (wordAt ws 1).toNat
    let released (t : State) (i : Nat) (r : Ring) : Prop := t.ring q i = some { r with devCount := (r.devCount + 1) % 2 ^ 32 }
    (∀ done rest, s.ring q ring = some r → r.asked = done ++ e :: rest → (∀ d ∈ done, d.words ≠ none) → e.words = none →
      ∃ t, exec (.inputFrame q ring entry payload) s = .next t ∧ t.quads = s.quads ∧ t.ring q ring = some { r with
        asked := done ++ { e with words := some ws, payload := payload, late := decide (e.due ≤ s.launchedAt q) } :: rest }) ∧
    (s.ring q ring = some r → e.words = some ws → e.late = false → e.written = false →
      let t := s.applyFrame q ring n e
      (frameOk p ws = true → idx = x.frame →
        ((t.quad q).slot n).frame = x.frame + 1 ∧ ((t.quad q).slot n).gate = x.gate ++ [(idx, framePayload ws e.payload)] ∧
        ((t.quad q).slot n).inClosed = (x.inClosed || decide (wf ws 0 8 8 = 1)) ∧ t.ring q ring = some r) ∧
      (s.bit .HIF_CTRL q 0 = true → 0 < (s.func q).placesFree → (frameOk p ws = false ∨ idx ≠ x.frame) →
        (t.quad q).slot n = x ∧ released t ring r ∧ (t.func q).queue = (s.func q).queue ++
          [streamErrorOf q (if frameOk p ws then 0x40 else 0x41) (ring + n * 2 ^ 8) idx])) ∧
    (∀ f b rest i, x.gate = (f, b) :: rest → x.inRing = some i → s.ring q i = some r → f < (x.step + 2) * p.cadenceIn →
      s.keeper.block ≠ some (4, q.val) → p.buffers = [buf] → buf.inBuf ≠ 0 → s.phys buf.core = some core →
      ∃ t, exec (.gatewayFrameWrite q n) s = .next t ∧ ((t.quad q).slot n).gate = rest ∧ f ∈ ((t.quad q).slot n).frames ∧
        released t i r ∧ t.core core = (s.core core).hwWrite s.now
          (buf.inBuf + (n * 2 * p.cadenceIn + f % (2 * p.cadenceIn)) * p.frameRoom) (padUnits b)) ∧
    (∀ due, Map.find (α := Nat) x.chunkDue c = some due → c.val ∉ x.chunks → p.buffers = [buf] → buf.prompt ≠ 0 →
      s.phys buf.core = some core →
      let b := payload.take (4 * min p.chunk (x.promptLen - c * p.chunk))
      ∃ t, exec (.promptChunkWrite q n c payload) s = .next t ∧ ((t.quad q).slot n).chunks = x.chunks ++ [c.val] ∧
        t.core core = (s.core core).hwWrite s.now (buf.prompt + (n * 2 + c % 2) * (4 * p.chunk))
          (b ++ List.replicate (4 * p.chunk - b.length) 0))

/-- R288, R290, R293, R299, R304: a read of ADM_HEAD delivers the first entry of the order by class and arrival and takes it out of the
order, a return puts it back, the watermarks keep low below high, and the partition master keeps the load reports.
R322: a counted token's count rises by 1 and its step is logged, the oldest of 4,096 logged leaving with the step it bars cuts below;
a token not in a full table stays uncounted and marks it. -/
def Obligations.AdmissionAndTokenCounts : Prop :=
  (∀ (s : State) (q : Fin 4) (val k : U64) (metrics : List (BitVec 32)),
    let adm := (s.quad q).adm
    (∀ i e, admNext adm = some (i, e) →
      (i, e) ∈ adm ∧ e.inOrder = true ∧ (∀ a ∈ adm, a.2.inOrder = true → admBefore a.2 e = true → False) ∧
      ∃ t, exec (.admHeadRead q) s = .next t ∧ Map.find (α := AdmEntry) (t.quad q).adm i = some { e with inOrder := false } ∧
        t.out = s.out ++ [.readData "ADM_HEAD" (leBytes 8 (i + e.dclass * 2 ^ 10 + 2 ^ 12))]) ∧
    ((∀ a ∈ adm, a.2.inOrder = false) → exec (.admHeadRead q) s = .next (s.send (.readData "ADM_HEAD" (leBytes 8 0)))) ∧
    (∃ t, exec (.admReturn q val) s = .next t ∧ (t.quad q).adm.length = adm.length ∧
      ∀ a ∈ adm, (a.1, { a.2 with inOrder := a.2.inOrder || decide (a.1 = bitsOf val 9 0) }) ∈ (t.quad q).adm) ∧
    (bitsOf val 26 16 < bitsOf val 10 0 → ∃ t, exec (.admWmarkWrite q val) s = .next t ∧
      t.fld .ADM_WMARK q 10 0 = bitsOf val 10 0 ∧ t.fld .ADM_WMARK q 26 16 = bitsOf val 26 16) ∧
    (bitsOf val 10 0 ≤ bitsOf val 26 16 → ∃ t, exec (.admWmarkWrite q val) s = .next t ∧ t.reg .ADM_WMARK q = s.reg .ADM_WMARK q ∧
      t.bit .ADM_STAT q 12 = true) ∧
    ((s.quad q).master = true → metrics.length = 6 → ∃ t, exec (.loadReport q k metrics) s = .next t ∧
      (t.quad q).reports = (s.quad q).reports ++ [(k.toNat, metrics.map BitVec.toNat)])) ∧
  (∀ (x : SlotSt) (step tok : Nat),
    let count := Map.get (α := Nat) x.counts tok 0
    let y := (x.countToken step tok).1
    Map.wf (α := Nat) x.counts = true → x.log.length ≤ 4096 →
    (count ≠ 0 ∨ x.counts.length < 4096 →
      Map.get (α := Nat) y.counts tok 0 = count + 1 ∧ (∀ k, k ≠ tok → Map.get (α := Nat) y.counts k 0 = Map.get (α := Nat) x.counts k 0) ∧
      y.log.length = min 4096 (x.log.length + 1) ∧ y.log.getLast? = some (tok, step) ∧
      (x.log.length < 4096 → y.evict = x.evict ∧ y.log = x.log ++ [(tok, step)]) ∧
      (∀ o r, x.log = o :: r → x.log.length = 4096 → y.evict = o.2 + 1 ∧ y.log = r ++ [(tok, step)])) ∧
    (count = 0 → 4096 ≤ x.counts.length → (x.countToken step tok).2 = true ∧ y = { x with full := true }))

/-- R25, R45, R272 to R275, R520, R521: a boundary snapshot, no switch being pending, enters the epoch of its launch, and nothing happens at
a launch that does not take place; an idle poll takes the host's consumer count and asks for the new submission entries, at most 256, and
takes place only at a multiple of 2,048 drips; a fetched entry is kept with the places it needs reserved, or CQ_HELD reads 1.
Readings or choices of the model among them: log entry 91. -/
def Obligations.SnapshotsAndPolls : Prop :=
  ∀ (s : State) (q : Fin 4) (f : Fin 5) (poll : HostPoll) (no : List (Fin 1024)) (t : U64) (entry : Entry) (block : Option (List Byte))
    (e : Fetched) (v : Variant),
    let x := s.func f
    let new := ahead poll.sqProd.toNat x.sqCount
    let ws := entryWords entry
    (s.launches q = true → (s.quad q).unload = none → (s.quad q).notice = none →
      (s.quad q).variants[(s.quad q).rule.variant]? = some v →
      ∃ t, exec (.boundarySnapshot q poll no) s = .next t ∧ t.reg .QD_EPOCH_INDEX q = BitVec.ofNat 64 (s.launchEpoch q) ∧
        (t.quad q).begun = true) ∧
    (s.launches q = false → exec (.boundarySnapshot q poll no) s = .next s) ∧
    (t.toNat % 2048 = 0 → s.live f = true → (f.val = 4 → s.restarting = false) →
      (f.val < 4 → s.runs f = false ∧ (s.quad f).asleep = false ∧ (s.quad f).heldReset = false) →
      s.trace.dump = none → x.fetched = [] → ahead x.cqCount poll.cqCons.toNat ≤ s.cqSize f → new ≤ s.sqSize f →
      ∃ t', exec (.idlePoll f poll t) s = .next t' ∧ (t'.func f).cqHost = poll.cqCons.toNat ∧
        (t'.func f).fetched = (rangeFrom x.sqCount (min 256 new)).map (fun n => { no := n % 2 ^ 32, due := t.toNat + 1 })) ∧
    (t.toNat % 2048 ≠ 0 → exec (.idlePoll f poll t) s = .next (s.at' t.toNat)) ∧
    (s.live f = true → x.fetched = [e] → e.words = none →
      (placesOf ws ≤ x.placesFree → ∃ t' e', exec (.hostFetchComplete f entry block) s = .next t' ∧ (t'.func f).fetched = [e'] ∧
        e'.no = e.no ∧ e'.words = some ws ∧ e'.block = block ∧ (t'.func f).sqCount = (x.sqCount + 1) % 2 ^ 32 ∧
        (t'.func f).reserved = x.reserved + placesOf ws) ∧
      (x.placesFree < placesOf ws → ∃ t', exec (.hostFetchComplete f entry block) s = .next t' ∧ t'.bit .HIF_STAT f 4 = true ∧
        (t'.func f).fetched = []))

/-- R314, R315, R319, R321: step writes and draw requests join the open group of their row, and one that names no open member of it is
discarded with SIG_ERR; the sampler draws a text token from binary32 logits for the oldest request; the drawn id is written at RESULT with
REV raised by 1 and joins its group; and a complete group leaves its row and takes effect in its slot, a group that is not complete nothing.
Readings or choices of the model among them: log entry 93. -/
def Obligations.SamplerAndCommits : Prop :=
  ∀ (s : State) (v : Fin 256) (tag : BitVec 16) (q : Fin 4) (row : Fin 256) (t : U64) (e : SigEntry) (g : Group) (p : Nat)
    (rest : List Nat),
    let x := s.quad q
    let params := x.params
    let sl := x.slot g.slot
    let group (t : State) (n : Nat) : Option Group := Map.find (α := Group) (t.quad q).groups n
    let dropped (o : Host.Outcome State Fault Refusal) : Prop := ∃ t, o = .next t ∧ t.bit .HUB_COMMIT_STAT q 48 = true ∧
      (t.quad q).groups = x.groups ∧ (t.quad q).drawQ = x.drawQ
    (v.val / 64 = q → x.signal tag.toNat = some e → group s e.row = some g →
      (e.kind = 0 → e.index < g.writeCount params → e.index ∉ g.writes → ∃ t, exec (.commitSignal v tag) s = .next t ∧
        group t e.row = some { g with writes := g.writes ++ [e.index] }) ∧
      (e.kind = 0 → g.writeCount params ≤ e.index ∨ e.index ∈ g.writes → dropped (exec (.commitSignal v tag) s)) ∧
      (e.kind = 1 → e.index < g.drawCount params → e.index ∉ g.draws → ∃ t, exec (.drawRequest v tag) s = .next t ∧
        group t e.row = some { g with draws := g.draws ++ [e.index] } ∧ (t.quad q).drawQ = x.drawQ ++ [tag.toNat]) ∧
      (e.kind = 1 → g.drawCount params ≤ e.index ∨ e.index ∈ g.draws → dropped (exec (.drawRequest v tag) s))) ∧
    (∀ c bs, x.serving = none → x.drawQ = tag.toNat :: rest → x.signal tag.toNat = some e → group s e.row = some g → e.index ∈ g.draws →
      s.vFenced e.lcore = false → s.vFenced e.rcore = false → s.phys e.lcore = some p → e.bf16 = false → params.outKind ≠ 1 →
      (s.core p).hwRead s.now e.logits (e.vlen * 4) = (c, some bs) →
      ∃ t, exec (.samplerDraw q) s = .next t ∧ (t.quad q).drawQ = rest ∧ (t.quad q).groups = x.groups ∧ (t.quad q).serving =
        some (tag.toNat, some (drawToken sl.sampler sl.counts ((chunks 4 bs).map ofLe) (generator sl.seed sl.step e.index)).id)) ∧
    (∀ id, x.serving = some (tag.toNat, some id) → x.signal tag.toNat = some e → group s e.row = some g → e.index ∈ g.draws →
      s.phys e.rcore = some p → s.vFenced e.lcore = false → s.vFenced e.rcore = false →
      let r := (⟨s.core p, s.now, none, [], []⟩ : Run).poke e.result (leBytes 4 id)
      r.fault = none → ∃ t, exec (.drawComplete q) s = .next t ∧ (t.quad q).serving = none ∧ (t.core p).sram = r.c.sram ∧
        (t.core p).seq.evc e.rev = r.c.seq.evc e.rev + 1 ∧
        group t e.row = some { g with results := Map.set (α := Nat) g.results e.index id }) ∧
    (group s row = some g → g.complete params = true → Map.wf (α := Group) x.groups = true →
      ∃ t' a, exec (.commitApply q row t) s = .next t' ∧ group t' row = none ∧ ((t'.quad q).slot g.slot).applied = some a ∧
        a.at' = t.toNat ∧ a.chunk = g.chunk ∧ a.step = sl.step ∧ ((t'.quad q).slot g.slot).pos = sl.pos + g.npos ∧
        ((t'.quad q).slot g.slot).step = (if g.chunk then sl.step else sl.step + 1) ∧
        ((t'.quad q).slot g.slot).left = (if g.chunk then sl.left - g.npos else sl.left)) ∧
    (∀ g', group s row = some g' → g'.complete params = false → exec (.commitApply q row t) s = .next (s.at' t.toNat))

/-! ### Mesh -/

/-- R340, R343, R345, R346, R349, R351 to R353, R357, R371, R405, R417: a planned flit leaves by the one output whose slot names its input and TAG, and is
discarded and counted where no entry takes it, where the core is fenced or where its lane carries no flits; an elastic flit waits at its
input with the output it routes to, unless its channel holds 8, and a service flit waits too; a flit whose parity fails is counted and
aborts the quadrant's groups; a planned slot injects the next flit of the core's flow, an elastic or service slot carries the flit whose
turn it is, and at a port an elastic packet goes on with one hop fewer, unless it has none left or the port does not hold its key; the banks swap at the frame boundary of their count. Readings or choices of the model among them: log entry 131. -/
def Obligations.MeshForwarding : Prop :=
  ∀ (s : State) (p : Fin 288) (inp o : Fin 5) (cycle : U64) (f g : Flit) (response : Bool) (user : ServiceUser) (exit : Fin 5) (q : Fin 4)
    (count t : U64) (m : MeshFlit) (rest : List MeshFlit) (s' : State) (port : Nat),
    let b := s.meshBank (p / 72)
    let n := cycle.toNat % 1024
    let h := cycle.toNat + hopCycles p inp
    let leaves (s : State) (f : Flit) : State := s.send (.mesh (p / 72) (p * 5 + o) f)
    let open' : Prop := o = 4 ∧ s.fenced p = false ∨ o ≠ 4 ∧ nextRouter p o ≠ none
    let arrives := exec (.meshFlitArrival p inp cycle f response user exit) s
    let turn := exec (.meshSlotTurn p o cycle) s
    let ent := s.liveEntry b p o n
    (flitParityOk f = true → (bridgeInput p inp = true → s.bridgeOpen p = true) →
      (flitClass f = 1 → s.tapTakes b p (h % 1024) (flitTag f) = false →
        (s.plannedOuts b p (h % 1024) inp (flitTag f) = [o.val] → open' → arrives = .next (leaves s f)) ∧
        (s.plannedOuts b p (h % 1024) inp (flitTag f) = [4] → s.fenced p = true → ∃ t, arrives = .next t ∧ t.out = s.out ∧
          t.fld .MSH_ROUTER_STAT p 15 0 = satAdd 65535 (s.fld .MSH_ROUTER_STAT p 15 0) 1) ∧
        (s.plannedOuts b p (h % 1024) inp (flitTag f) = [] → ∃ t, arrives = .next t ∧ t.out = s.out ∧
          t.fld .MSH_ROUTER_STAT p 31 16 = satAdd 65535 (s.fld .MSH_ROUTER_STAT p 31 16) 1)) ∧
      (let ch := s.elasticChannel p inp n f response
       let x := s.elasticExit p inp ch f
       flitClass f = 2 → x ≠ 5 → ∃ t, arrives = .next t ∧ t.out = s.out ∧
        t.buf p inp ch = if (s.buf p inp ch).length < 8 then s.buf p inp ch ++ [⟨f, x, h, .other⟩] else s.buf p inp ch) ∧
      (flitClass f = 3 → ∃ t, arrives = .next t ∧ t.buf p inp 2 = s.buf p inp 2 ++ [⟨f, exit, h, user⟩])) ∧
    (flitParityOk f = true → bridgeInput p inp = true → s.bridgeOpen p = false → ∃ t, arrives = .next t ∧ t.out = s.out ∧
      t.mesh = s.mesh ∧ t.fld .MSH_ROUTER_STAT p 31 16 = satAdd 65535 (s.fld .MSH_ROUTER_STAT p 31 16) 1) ∧
    (flitParityOk f = false → Map.wf (α := Group) (s.quad (p / 72)).groups = true → ∃ t, arrives = .next t ∧ t.out = s.out ∧
      (t.quad (p / 72)).groups = [] ∧ t.fld .MSH_ROUTER_STAT p 47 32 = satAdd 65535 (s.fld .MSH_ROUTER_STAT p 47 32) 1) ∧
    (entKind ent = 1 → entIn ent = 4 → (s.plannedOuts b p n 4 (entTag ent)).head? = some o.val →
      (s.coreInjects p (entTag ent) = some (g, s') → turn = .next (s'.forward b p 4 n g)) ∧
      (s.coreInjects p (entTag ent) = none → turn = .next s)) ∧
    (let e := s.kindBefore b p o 2 n
     let ch := e / 5 % 2
     Map.wf (α := List MeshFlit) s.mesh = true → entKind ent = 2 → s.buf p (e % 5) ch = m :: rest →
      (m.exit = o → m.ready ≤ cycle.toNat → s.roomBeyond p o ch = true → s.channelFree p o ch (e % 5) = true → open' →
        ∃ t, turn = .next t ∧ t.buf p (e % 5) ch = rest ∧ t.out = (leaves s m.flit).out) ∧
      (m.exit = o → m.ready ≤ cycle.toNat → s.roomBeyond p o ch = true → s.channelFree p o ch (e % 5) = true →
        nextRouter p o = none → edgeOf p o = some (.port port) → flitParityOk m.flit = true → flitClass m.flit = 2 → flitFirst m.flit = true →
        let k := packetOf m.flit.data
        let discards (c : Nat) : Prop := ∃ t, turn = .next t ∧ (t.port port).elastic = (s.port port).elastic ∧
          t.fld .LNK_FAB_COUNT (port * 8 + c) 63 0 = (s.fld .LNK_FAB_COUNT (port * 8 + c) 63 0 + 1) % 2 ^ 64
        (pkHops k = 0 → discards 5) ∧ (pkHops k ≠ 0 → s.keyIn port (pkKey k) = false → discards 2) ∧
        (pkHops k ≠ 0 → s.keyIn port (pkKey k) = true → ∃ t, turn = .next t ∧
          (t.port port).elastic = ((s.port port).queueElastic ch (hopTaken m.flit)).elastic)) ∧
      (m.exit ≠ o ∨ s.roomBeyond p o ch = false → turn = .next s)) ∧
    (let i := s.kindBefore b p o 3 n % 5
     let due := (s.buf p i 2).filter (fun (m : MeshFlit) => decide (m.exit = o ∧ m.ready ≤ cycle.toNat))
     Map.wf (α := List MeshFlit) s.mesh = true → entKind ent = 3 →
      (firstServed due = some m → open' →
        ∃ t, turn = .next t ∧ t.buf p i 2 = (s.buf p i 2).erase m ∧ t.out = (leaves s m.flit).out) ∧
      (due = [] → turn = .next s)) ∧
    (∃ t, exec (.mshSwapArm q count) s = .next t ∧ t.reg .MSH_SWAP_AT q = count ∧ t.bit .MSH_CTRL q 1 = decide (count ≠ 0) ∧
      t.meshBank q = s.meshBank q) ∧
    (s.bit .MSH_CTRL q 1 = true → frameFrom (s.reg .MSH_SWAP_AT q).toNat ≤ t.toNat → ∃ t', exec (.meshBankSwap q t) s = .next t' ∧
      t'.meshBank q = 1 - s.meshBank q ∧ t'.bit .MSH_CTRL q 1 = false) ∧
    (s.bit .MSH_CTRL q 1 = false ∨ t.toNat < frameFrom (s.reg .MSH_SWAP_AT q).toNat → exec (.meshBankSwap q t) s = .next (s.at' t.toNat))

/-! ### Jalben links -/

/-- R365, R366: a unit's bytes give back its number, class, item, payload and mask kind. -/
def Obligations.UnitRoundTrip : Prop :=
  ∀ (seq cls lk lv k : Nat) (payload : List Byte),
    seq < 65536 → cls < 4 → lk < 4 → lv < 4096 → k < 3 → payload.length = 128 →
    let b := unitBytes seq cls lk lv k payload false
    let w := ofLe (b.take 4)
    b.length = 136 ∧ maskOf b = some k ∧ natBits w 15 0 = seq ∧ natBits w 17 16 = cls ∧ natBits w 19 18 = lk ∧
    natBits w 31 20 = lv ∧ (b.drop 4).take 128 = payload

/-- R362, R370 to R376, R378: an ACTIVE port with no item to carry sends the oldest flit of the slot's flow as its next sequenced unit, the
one replay queued in a control slot, and an idle unit where the slot's owner has nothing, and a group of codewords leaves whenever one is
whole; of the units that come, the one whose number is next moves the acknowledgement point and is released, one with a byte of an
uncorrectable codeword leaves its slot to be judged, and none is taken before all its bytes are there or outside the states that take units;
ACKs and replays follow their timers. -/
def Obligations.LinkUnits : Prop :=
  ∀ (s : State) (port : Fin 12) (t : U64) (fl seq cls k lv : Nat) (f : Flit) (rest : List (Nat × Flit)) (u : TxUnit)
    (payload : List Byte) (timed : Bool) (words : List LaneWord) (bytes more : List (Byte × Bool)),
    let p := s.port port
    let owner := slotStream (s.txEntry port) (p.txSlot % 4096)
    let room := 640 * s.lanes port
    let sends (bs : List Byte) (holds : PortSt → Prop) : Prop := ∃ t' os, exec (.linkUnitTransmit port t) s = .next t' ∧
      t'.out = s.out ++ .unit port bs :: os ∧ (p.stream.length + 136 < room → os = []) ∧
      (room ≤ p.stream.length + 136 → ∃ ws, os = [.group port ws] ∧ ws.length = s.lanes port) ∧
      (t'.port port).txSlot = p.txSlot + 1 ∧ holds (t'.port port)
    let takes := exec (.linkUnitReceive port words t) s
    (s.linkState port = 5 → p.nakQ = [] → p.ackQ = [] →
      (owner = .planned fl → p.planned = (fl, f) :: rest → p.buffer.length < 8192 → p.corrupt = 0 →
        sends (unitBytes p.nextSeq 1 0 0 (flitUnit f).1 (flitUnit f).2 false) (fun x => x.planned = rest ∧
          x.nextSeq = (p.nextSeq + 1) % 65536 ∧
          ∃ u, x.buffer = p.buffer ++ [u] ∧ u.seq = p.nextSeq ∧ u.cls = 1 ∧ u.payload = (flitUnit f).2)) ∧
      (owner = .planned fl → p.planned = [] → sends (unitBytes p.nextSeq 0 0 0 0 [] false) (fun x => x.buffer = p.buffer)) ∧
      (owner = .nobody → sends (unitBytes p.nextSeq 0 0 0 0 [] false) (fun x => x.buffer = p.buffer)) ∧
      (owner = .control → p.replayQ = [(u.seq, lv, timed)] → p.buffer = [u] → u.replays < 7 →
        sends (unitBytes u.seq u.cls 3 lv u.mask u.payload false) (fun x => x.replayQ = [] ∧
          x.buffer = [{ u with replays := u.replays + 1, sentAt := t.toNat }]))) ∧
    (let own := slotStream (s.rxEntry port) (p.rxSlot % 4096)
     s.linkState port = 5 → words = [] → p.headGroup (s.lanes port) = none → p.rxSwap = false → p.bad = [] → p.held = [] → p.got = [] →
      p.point = seq →
      seq < 65536 → k < 3 → payload.length = 128 →
      p.rxStream = (unitBytes seq cls 0 0 k payload false).map (fun b => (b, false)) ++ more →
      (own = .planned fl ∧ cls = 1 ∧ s.bit .LNK_STATE port 16 = false) ∨ (own = .control ∧ cls = 3) →
      ∃ t', takes = .next t' ∧ (t'.port port).rxStream = more ∧ (t'.port port).point = (seq + 1) % 65536 ∧
        (t'.port port).expected = (seq + 1) % 65536 ∧ (t'.port port).held = [] ∧
        t'.fld .LNK_COUNT (port * 16 + 1) 63 0 = (s.fld .LNK_COUNT (port * 16 + 1) 63 0 + 1) % 2 ^ 64) ∧
    (s.linkState port = 5 → words = [] → p.headGroup (s.lanes port) = none →
      (p.rxStream = bytes ++ more → bytes.length = 136 → bytes.any (·.2) = true → p.rxSwap = false → ∃ t', takes = .next t' ∧
        (t'.port port).bad = p.bad ++ [⟨p.rxSlot % 4096, p.expected, slotStream (s.rxEntry port) (p.rxSlot % 4096), none⟩] ∧
        (t'.port port).point = p.point ∧ (t'.port port).rxStream = more ∧ t'.out = s.out) ∧
      (p.rxStream.length < 136 → takes = .next (s.at' t.toNat))) ∧
    (s.linkState port < 4 ∨ s.linkState port = 7 → takes = .next (s.at' t.toNat)) ∧
    (p.lastAckAt + 400 ≤ t.toNat → p.point ≠ p.lastAck → ∃ t', exec (.ackTimer port t) s = .next t' ∧
      (t'.port port).ackQ = p.ackQ ++ [p.point] ∧ (t'.port port).lastAck = p.point) ∧
    (p.lastAckAt + 400 > t.toNat ∨ p.point = p.lastAck → exec (.ackTimer port t) s = .next s) ∧
    (p.buffer = [u] → p.replayQ = [] → u.sentAt + s.fld .LNK_RTT port 15 0 + 600 ≤ t.toNat →
      ∃ t', exec (.replayTimeout port t) s = .next t' ∧ (t'.port port).replayQ = [(u.seq, u.slot.getD 0, true)]) ∧
    (p.buffer = [u] → t.toNat < u.sentAt + s.fld .LNK_RTT port 15 0 + 600 → exec (.replayTimeout port t) s = .next (s.at' t.toNat))

/-- R362, R381 to R386, R394, R399: training goes from DETECT through ACQUIRE, ALIGN and EXCHANGE to ACTIVE, or to a retrain's CATCHUP where
one completes as a full training; a timeout, too large a skew and too long a round trip leave their states; a port is enabled, disabled and
taken to DETECT by a loss of signal, with nothing kept in its replay buffer, and in DOWN a loss of signal darkens its lasers.
Readings or choices of the model among them: log entries 86 and 137. -/
def Obligations.LinkTraining : Prop :=
  ∀ (s : State) (port : Fin 12) (t : U64) (lanes : BitVec 8) (id : BitVec 20) (valid : Bool) (factory : U64) (peerPort : Fin 16)
    (dA dI : BitVec 32) (point skew : BitVec 16) (w : Nat),
    let st := s.linkState port
    let p := s.port port
    let goes (o : Host.Outcome State Fault Refusal) (to' : Nat) : Prop := ∃ t', o = .next t' ∧ t'.linkState port = to'
    let goesFor (o : Host.Outcome State Fault Refusal) (to' reason : Nat) : Prop := ∃ t', o = .next t' ∧ t'.linkState port = to' ∧
      t'.fld .LNK_STATE port 27 24 = reason
    (st = 1 → exec (.probeBurst port) s = .next (s.send (.symbol port 5 [0]))) ∧
    (st = 1 → (exec (.probeReceive port false) s = .next (s.modPort port (fun p => { p with probes := 0 }))) ∧
      (p.probes = 0 → exec (.probeReceive port true) s = .next (s.modPort port (fun p => { p with probes := 1 }))) ∧
      (1 ≤ p.probes → goes (exec (.probeReceive port true) s) 2)) ∧
    (st = 2 → s.widthFor port (s.wantWidth port) lanes.toNat = some w → w < 4 → ∃ t', exec (.lanesLocked port lanes) s = .next t' ∧ t'.linkState port = 3 ∧
      t'.fld .LNK_STATE port 4 3 = w ∧ t'.fld .LNK_STATE port 13 6 = lanes.toNat) ∧
    (st = 2 → s.widthFor port (s.wantWidth port) lanes.toNat = none → goes (exec (.lanesLocked port lanes) s) 2) ∧
    (st = 2 → goesFor (exec (.acquireTimeout port) s) 1 9) ∧
    (st = 3 → goes (exec (.alignTimeout port) s) 2) ∧
    (st = 3 → 160 < skew.toNat → exec (.alignDone port skew) s = .next s) ∧
    (st = 3 → skew.toNat ≤ 160 → ∃ t' m, exec (.alignDone port skew) s = .next t' ∧ t'.linkState port = 4 ∧ (t'.port port).control = p.control ++ [m] ∧
      m.take 1 = [1]) ∧
    (st = 4 → goesFor (exec (.exchangeTimeout port) s) 1 9) ∧
    (st = 4 → ∃ t' m, exec (.ident port id valid factory peerPort dA dI) s = .next t' ∧ t'.linkState port = 4 ∧
      t'.fld .LNK_PEER port 19 0 = id.toNat ∧ t'.reg .LNK_PEER_FACTORY port = factory ∧ t'.bit .LNK_STATE port 15 = true ∧
      (t'.port port).syncOut = true ∧ (t'.port port).control = p.control ++ [m] ∧ m.take 1 = [2]) ∧
    (st = 4 → p.syncOut = true → s.rttTooLong port = false → p.paused = false → goes (exec (.sync port point t) s) 5) ∧
    (st = 4 → p.syncOut = true → s.rttTooLong port = false → p.paused = true → ∃ t', exec (.sync port point t) s = .next t' ∧
      t'.linkState port = 6 ∧ (t'.port port).phase = some .catchup) ∧
    (st = 4 → p.syncOut = true → s.rttTooLong port = true → goesFor (exec (.sync port point t) s) 1 8) ∧
    (st = 4 → p.syncOut = false → ∃ t', exec (.sync port point t) s = .next t' ∧ t'.linkState port = 4 ∧
      (t'.port port).syncIn = true ∧ (t'.port port).buffer = p.buffer.filter (fun u => !seqBelow u.seq point.toNat)) ∧
    (st = 0 → ∃ t', exec (.linkEnable port) s = .next t' ∧ t'.linkState port = 1 ∧ t'.bit .LNK_CTRL port 0 = true) ∧
    (∃ t', exec (.linkDisable port t) s = .next t' ∧ t'.linkState port = 0 ∧ t'.bit .LNK_CTRL port 0 = false ∧
      (t'.port port).buffer = []) ∧
    (st = 5 ∨ st = 6 → ∃ t', exec (.lossOfSignal port t) s = .next t' ∧ t'.linkState port = 1 ∧ t'.fld .LNK_STATE port 27 24 = 6 ∧
      (t'.port port).buffer = []) ∧
    (st = 7 → exec (.lossOfSignal port t) s = .next (s.setBit .LNK_STATE port 21 false))

/-- R362, R387 to R392, R397: an ACTIVE link retrains for a lost lane, a RETRAIN symbol, a window with too many uncorrectable codewords or a
command, each with its reason, and the third retrain in 10 s that counts declares it down; the phases follow each other to ACTIVE, the lanes
aligned at the width that was decided and every unit resent; a follower obeys a reconfiguration and the leader decides one, in a retrain too
until its ALIGN is done; the transmit bank swaps at a frame boundary from its count on, and the receive bank at the first frame boundary after
the toggle. -/
def Obligations.RetrainsAndBanks : Prop :=
  ∀ (s : State) (port : Fin 12) (t count : U64) (lanes : BitVec 8) (skew : BitVec 16) (data : BitVec 4) (digest : BitVec 32)
    (cmd : Instr) (reason w : Nat) (bytes more : List (Byte × Bool)),
    let st := s.linkState port
    let p := s.port port
    let want := (p.target.map (· % 4)).getD (s.fld .LNK_STATE port 4 3)
    let recent := p.retrains.filter (fun x => decide (t.toNat < x + 10000000000))
    let phase (t : State) : Option Phase := (t.port port).phase
    let done := exec (.retrainPhaseDone port lanes skew t) s
    let begins (o : Host.Outcome State Fault Refusal) (reason : Nat) : Prop := ∃ t', o = .next t' ∧ t'.linkState port = 6 ∧
      t'.fld .LNK_STATE port 27 24 = reason ∧ phase t' = some .pause
    (st = 5 → ((cmd, reason) ∈ [(Instr.laneLost port t, 3), (.retrainSymbol port t, 4)] ∨
        (cmd = .errorWindow port t ∧ reason = 2 ∧ s.errorLimit port < p.uncorr)) →
      (recent.length < 2 → begins (exec cmd s) reason) ∧
      (2 ≤ recent.length → ∃ t', exec cmd s = .next t' ∧ t'.linkState port = 7 ∧ t'.fld .LNK_STATE port 27 24 = 7 ∧
        (t'.port port).buffer = [])) ∧
    (p.uncorr ≤ s.errorLimit port → exec (.errorWindow port t) s = .next ((s.at' t.toNat).modPort port (fun p => { p with uncorr := 0 }))) ∧
    (st = 5 → begins (exec (.retrain port t) s) 5) ∧
    (st = 7 → ∃ t', exec (.retrain port t) s = .next t' ∧ t'.linkState port = 2 ∧ (t'.port port).retrains = []) ∧
    (st = 6 →
      (p.phase = some .pause → ∃ t', done = .next t' ∧ phase t' = some .align) ∧
      (p.phase = some .align → skew.toNat ≤ 160 → s.widthFor port want lanes.toNat = some w → ∃ t', done = .next t' ∧
        phase t' = some .sync ∧ (t'.port port).syncOut = true ∧ t'.fld .LNK_STATE port 4 3 = w ∧ t'.fld .LNK_STATE port 13 6 = lanes.toNat) ∧
      (p.phase = some .align → skew.toNat ≤ 160 → s.widthFor port want lanes.toNat = none → ∃ t', done = .next t' ∧ t'.linkState port = 2) ∧
      (p.phase = some .align → 160 < skew.toNat → done = .next (s.at' t.toNat)) ∧
      (p.phase = some .sync → p.syncIn = true → ∃ t', done = .next t' ∧ phase t' = some .catchup) ∧
      (p.phase = some .catchup → p.caughtUp = true → ∃ t', done = .next t' ∧ phase t' = none ∧ t'.linkState port = 5) ∧
      (p.phase = some .sync ∧ p.syncIn = false ∨ p.phase = some .catchup ∧ p.caughtUp = false → done = .next (s.at' t.toNat)) ∧
      (∃ t', exec (.retrainPhaseTimeout port) s = .next t' ∧ t'.linkState port = 2 ∧ t'.fld .LNK_STATE port 27 24 = 9)) ∧
    (st = 5 → data.toNat / 8 % 2 = 1 → ∃ t', exec (.reconfigSymbol port data) s = .next t' ∧ t'.linkState port = 6 ∧
      (t'.port port).target = some (data.toNat % 8)) ∧
    (st = 5 → data.toNat / 8 % 2 = 0 → s.bit .LNK_STATE port 14 = true → p.request = false →
      ∃ t', exec (.reconfigSymbol port data) s = .next t' ∧ t'.linkState port = 6 ∧ (t'.port port).target = some (data.toNat % 8) ∧
        (2, data.toNat % 8 + 8) ∈ (t'.port port).symQ) ∧
    (st = 6 → p.phase = some .pause ∨ p.phase = some .align → data.toNat / 8 % 2 = 1 → ∃ t', exec (.reconfigSymbol port data) s = .next t' ∧
      t'.linkState port = 6 ∧ (t'.port port).target = some (data.toNat % 8) ∧ phase t' = p.phase) ∧
    (st = 5 → ∃ t', exec (.apply port) s = .next t' ∧
      (s.bit .LNK_STATE port 14 = true → t'.linkState port = 6) ∧
      (s.bit .LNK_STATE port 14 = false → t'.linkState port = 5 ∧ (t'.port port).request = true)) ∧
    (∃ t', exec (.digest port digest) s = .next t' ∧ Map.get (α := Nat) (t'.port port).peerDigest 1 0 = digest.toNat) ∧
    (∃ t', exec (.lnkSwapArm port count) s = .next t' ∧ t'.reg .LNK_SWAP_AT port = count ∧
      (t'.port port).armedBank = decide (count ≠ 0)) ∧
    (st = 5 → p.armedBank = true → (s.reg .LNK_SWAP_AT port).toNat ≤ t.toNat → p.txSlot % 4096 = 0 → ∃ t', exec (.linkBankSwap port t) s = .next t' ∧
      t'.fld .LNK_STATE port 19 19 = 1 - s.fld .LNK_STATE port 19 19 ∧ (t'.port port).armedBank = false) ∧
    (st ≠ 5 ∨ p.armedBank = false ∨ t.toNat < (s.reg .LNK_SWAP_AT port).toNat ∨ p.txSlot % 4096 ≠ 0 →
      exec (.linkBankSwap port t) s = .next s) ∧
    (st = 5 → exec (.txBankToggle port) s = .next (s.modPort port (fun p => { p with rxSwap := true }))) ∧
    (st ≠ 5 → exec (.txBankToggle port) s = .next s) ∧
    (st = 5 → p.rxSwap = true → p.headGroup (s.lanes port) = none → p.rxStream = bytes ++ more → bytes.length = 136 →
      bytes.any (·.2) = true → ∃ t', exec (.linkUnitReceive port [] t) s = .next t' ∧
      (p.rxSlot % 4096 = 0 → t'.fld .LNK_STATE port 20 20 = 1 - s.fld .LNK_STATE port 20 20 ∧ (t'.port port).rxSwap = false) ∧
      (p.rxSlot % 4096 ≠ 0 → t'.fld .LNK_STATE port 20 20 = s.fld .LNK_STATE port 20 20 ∧ (t'.port port).rxSwap = true))

/-! ### Elastic traffic -/

/-- R337, R345, R405, R417, R419 to R428: a packet whose key the port does not hold is discarded and counted; one for this device enters the
mesh at the port's edge router toward its core, one for another device toward the port of its route, and one that finds no port is counted;
a write of one packet is written and remembered, and a duplicate changes no
core and is counted; a flagged request held too long is written, remembered and counted; an acknowledgement ends its request, a timeout
gives it the next open route or drops it as lost, and a waiting request is sent when its window has room.
Readings or choices of the model among them: log entries 21 and 87. -/
def Obligations.ElasticTraffic : Prop :=
  ∀ (s : State) (port out' : Fin 12) (q : Fin 4) (v : Fin 256) (win : Fin 1024) (t : U64) (pkt : Packet) (p k : Nat) (h : HeldReq)
    (r : ElaReq),
    let w := (s.quad q).win (pkWin pkt)
    let count (t : State) (r : Reg) (i : Nat) : Nat := t.fld r i 63 0
    let edge := edgeRouter port
    let ch := if 2 ≤ pkType pkt then 1 else 0
    let enters (x : Nat × Nat × Nat) : Prop := ∃ t', exec (.elasticPacketReceive port pkt) s = .next t' ∧ t'.out = s.out ∧
      t'.buf edge 1 ch = s.buf edge 1 ch ++ (packetFlitList pkt).map (fun f => { flit := f, exit := dimensionOrder edge x, ready := 0 })
    (s.keyIn port (pkKey pkt) = false → ∃ t', exec (.elasticPacketReceive port pkt) s = .next t' ∧ t'.out = s.out ∧
      count t' .LNK_FAB_COUNT (port * 8 + 1) = (count s .LNK_FAB_COUNT (port * 8 + 1) + 1) % 2 ^ 64) ∧
    (s.keyIn port (pkKey pkt) = true → pkDst pkt = s.globalId → s.bit .KPR_QUAD_STAT (pkDstCore pkt / 64) 1 = false →
      pkWin pkt ≠ 1023 → s.phys (pkDstCore pkt) = some p →
      enters (leaveBy (portQuad port) (pkDstCore pkt / 64) (p % 72 / 9, p % 9, 4))) ∧
    (s.keyIn port (pkKey pkt) = true → pkDst pkt = s.globalId → s.bit .KPR_QUAD_STAT (pkDstCore pkt / 64) 1 = false →
      pkWin pkt = 1023 → enters (leaveBy (portQuad port) (pkDstCore pkt / 64) (0, 7, 0))) ∧
    (s.keyIn port (pkKey pkt) = true → pkDst pkt = s.globalId → s.bit .KPR_QUAD_STAT (pkDstCore pkt / 64) 1 = true →
      ∃ t', exec (.elasticPacketReceive port pkt) s = .next t' ∧ t'.mesh = s.mesh ∧
      count t' .LNK_FAB_COUNT (port * 8 + 6) = (count s .LNK_FAB_COUNT (port * 8 + 6) + 1) % 2 ^ 64) ∧
    (s.keyIn port (pkKey pkt) = true → pkDst pkt ≠ s.globalId → pkDst pkt / 65536 = s.globalId / 65536 →
      (s.routePort (portQuad port) (pkDst pkt % 65536) (pkRoute pkt) = some out'.val →
        enters (leaveBy (portQuad port) (portQuad out') (portRow out', 8, 1))) ∧
      (s.routePort (portQuad port) (pkDst pkt % 65536) (pkRoute pkt) = none → ∃ t', exec (.elasticPacketReceive port pkt) s = .next t' ∧
        t'.mesh = s.mesh ∧ count t' .LNK_FAB_COUNT (port * 8 + 4) = (count s .LNK_FAB_COUNT (port * 8 + 4) + 1) % 2 ^ 64)) ∧
    (pkType pkt = 0 → pkDst pkt = s.globalId → pkDstCore pkt / 64 = q → s.winAccepts q pkt = true → s.phys (pkDstCore pkt) = some p →
      s.fenced p = false → (s.core p).serves pkt = true → pkMember pkt = false → pkFlagged pkt = false → pkLen pkt ≤ 64 →
      pkIndex pkt = 0 → w.arrival (pkReq pkt) 0 = .fresh true → w.part = [] →
      (s.core p).held = [] →
      ∃ t', exec (.elasticTargetArrival q pkt t) s = .next t' ∧
        t'.core p = (s.core p).hwWrite t.toNat (pkAddr pkt) pkt.data ∧ pkReq pkt ∈ ((t'.quad q).win (pkWin pkt)).delivered) ∧
    (pkType pkt = 0 → pkDst pkt = s.globalId → pkDstCore pkt / 64 = q → s.winAccepts q pkt = true → s.phys (pkDstCore pkt) = some p →
      s.fenced p = false → (s.core p).serves pkt = true → w.arrival (pkReq pkt) (pkIndex pkt) = .duplicate →
      ∃ t', exec (.elasticTargetArrival q pkt t) s = .next t' ∧ t'.cores = s.cores ∧
        count t' .QD_ELA_COUNT (q * 8 + 3) = (count s .QD_ELA_COUNT (q * 8 + 3) + 1) % 2 ^ 64) ∧
    (v.val / 64 = q → s.phys v = some p → (s.core p).held = [h] → h.win = win → pkWin h.pkt = win →
      h.since + s.orderDrips q ≤ t.toNat →
      ∃ t', exec (.flaggedHoldTimeout v win (BitVec.ofNat 16 (pkReq h.pkt)) t) s = .next t' ∧ (t'.core p).held = [] ∧
        (t'.core p).sram = ((s.core p).hwWrite t.toNat (pkAddr h.pkt) h.pkt.data).sram ∧
        pkReq h.pkt ∈ ((t'.quad q).win win).delivered ∧
        count t' .QD_ELA_COUNT (q * 8 + 4) = (count s .QD_ELA_COUNT (q * 8 + 4) + 1) % 2 ^ 64) ∧
    (pkType pkt = 2 → pkStatus pkt = 0 → s.winAccepts q pkt = true → w.reqs = [r] → r.id = pkReq pkt → r.waiting = none → r.write = true →
      ∃ t', exec (.elasticResponse q pkt t) s = .next t' ∧ ((t'.quad q).win (pkWin pkt)).reqs = []) ∧
    (((s.quad q).win win).reqs = [r] → r.waiting = none → r.id < 65536 → r.sentAt + s.retryDrips q ≤ t.toNat →
      (s.nextRoute q r = some k → ∃ t' r', exec (.elasticRetryTimeout q win (BitVec.ofNat 16 r.id) t) s = .next t' ∧
        ((t'.quad q).win win).reqs = [r'] ∧ r'.id = r.id ∧ r'.route = k ∧ r'.sentAt = t.toNat) ∧
      (s.nextRoute q r = none → ∃ t', exec (.elasticRetryTimeout q win (BitVec.ofNat 16 r.id) t) s = .next t' ∧
        ((t'.quad q).win win).reqs = [] ∧ count t' .QD_ELA_COUNT (q * 8 + 2) = (count s .QD_ELA_COUNT (q * 8 + 2) + 1) % 2 ^ 64)) ∧
    (∀ since, ((s.quad q).win win).reqs = [r] → r.waiting = some since → s.winRoom q win r = true →
      ∃ t' r', exec (.windowWaitEnd q win t) s = .next t' ∧ ((t'.quad q).win win).reqs = [r'] ∧ r'.waiting = none ∧ r'.id = r.id ∧
        r'.sentAt = t.toNat)

/-! ### Time -/

/-- R451, R453 to R459, R467, R681: a mark that falls due waits for a group, and the group that carries it gives its departure with the
transmit figure; its arrival is kept less the receive figure; its TIME message is queued once, from 20 to 200 µs after it; a valid exchange
gives the port's delay and an invalid one is counted; the stratum hold, the wait for a key, HOLDOVER and a parent's retrain end at their
times; a lost reference takes a follower's storage links down.
Readings or choices of the model among them: log entries 78 and 79. -/
def Obligations.TimeTransfer : Prop :=
  ∀ (s : State) (port : Fin 12) (mark frac : Fin 64) (t : U64) (b : List Byte) (m since e : Nat) (t1 t2 t3 t4 : Int),
    let st := s.linkState port
    let p := s.port port
    let d := Map.get (α := Nat) p.marksOut m 0
    let now := t.toNat
    (st = 5 → p.markAt = none → ∃ t', exec (.timeMarkSend port t frac) s = .next t' ∧
      (t'.port port).symQ = p.symQ ++ [(4, p.markNo)] ∧ (t'.port port).markAt = some (5 * (now * 64 + frac)) ∧
      (t'.port port).markNo = (p.markNo + 1) % 64) ∧
    (∀ (cal x : Nat) (half bank : Bool), nextSymbol p.symQ = some (4, m) → p.markAt = some x →
      let y := p.startGroup cal half bank
      y.symQ = p.symQ.erase (4, m) ∧ Map.get (α := Nat) y.marksOut m 0 = x / 5 + cal ∧ y.lastOut = some m ∧ y.told = false ∧
        y.markAt = none) ∧
    (4 ≤ st → st ≤ 6 → ∃ t', exec (.timeMarkReceive port mark t frac) s = .next t' ∧
      Map.get (α := Nat) (t'.port port).marksIn mark 0 = now * 64 + frac - s.portCal port true ∧ (t'.port port).lastIn = some mark.val) ∧
    (p.lastOut = some m → p.told = false → d + 20000 * 64 ≤ now * 64 → now * 64 ≤ d + 200000 * 64 →
      ∃ t' x, exec (.timeMessageSend port t) s = .next t' ∧ (t'.port port).control = p.control ++ [x] ∧ x.length = 128 ∧ x.take 1 = [3] ∧
        (t'.port port).told = true) ∧
    (p.lastOut = some m → p.told = true ∨ now * 64 < d + 20000 * 64 ∨ d + 200000 * 64 < now * 64 →
      exec (.timeMessageSend port t) s = .next s) ∧
    (4 ≤ st → st ≤ 6 → b.headD 0 = 3 →
      (p.exchange b = some (t1, t2, t3, t4) → ∃ t', exec (.timeMessage port b t) s = .next t' ∧
        (t'.port port).delay = some ((((t2 - t1) + (t4 - t3) + 127) / 128).toNat)) ∧
      (p.exchange b = none → ∃ t', exec (.timeMessage port b t) s = .next t' ∧
        t'.fld .TB_PORT_TIME port 58 43 = satAdd 65535 (s.fld .TB_PORT_TIME port 58 43) 1)) ∧
    (s.time.hold = some e →
      (e ≤ now → ∃ t', exec (.stratumHoldExpiry t) s = .next t' ∧ t'.time.hold = none) ∧
      (now < e → exec (.stratumHoldExpiry t) s = .next s)) ∧
    (s.candidate = true → s.keyPorts = [] → s.isGm = false → s.tbParent = 15 → s.time.keySeen + 3000000 ≤ now →
      ∃ t', exec (.gmElectionTimeout t) s = .next t' ∧ t'.isGm = true ∧ t'.tbState = 2 ∧ t'.tbParent = 15) ∧
    (s.tbState = 3 → ∃ x, s.bound now = some x ∧
      (928000 < x → ∃ t', exec (.holdoverLimit t) s = .next t' ∧ t'.tbState = 4 ∧ t'.bit .TB_STAT 0 16 = true) ∧
      (x ≤ 928000 → ∃ t', exec (.holdoverLimit t) s = .next t' ∧ t'.tbState = 3 ∧
        t'.fld .TB_STAT 0 47 32 = min 0xFFFF (ceilDiv x 1000))) ∧
    (s.time.retrain = some (m, since) →
      (since + 100000000 < now → ∃ t', exec (.parentRetrainTimeout t) s = .next t' ∧ t'.time.retrain = none ∧ t'.tbParent = 15 ∧
        t'.time.hold = some (now + max 1 (s.fld .TB_CFG 0 28 21) * 1000000)) ∧
      (now ≤ since + 100000000 → exec (.parentRetrainTimeout t) s = .next s)) ∧
    (s.tbState = 1 ∨ s.tbState = 2 → s.isGm = false → s.bit .TB_CFG 0 0 = false → ∃ t', exec (.referenceLoss t) s = .next t' ∧
      t'.time.refLost = true ∧ t'.bit .ING_PORT_STAT 0 0 = false ∧ t'.bit .ING_PORT_STAT 1 0 = false ∧ t'.tbState = s.tbState)

/-- R24, R462 to R466, R494, R648, no start of this device's keeper being pending: ARRIVE is queued for the parent once every child has
arrived; a RELEASE, an EPOCH0 or a hold that comes in time is kept for its event count and one seen before is dropped; a hold cancels the
notices and restarts of the quadrants that run plans and, when it fires, empties their cores' queues; an epoch zero gives the quadrants that
take part their launch 1,048,576 drips on.
Readings or choices of the model among them: log entries 77, 79 and 94. -/
def Obligations.SnapBarrier : Prop :=
  ∀ (s : State) (port : Fin 12) (code : Fin 64) (t drip : U64) (id : BitVec 20) (mask : BitVec 4) (n p : Nat) (q : Fin 4),
    let now := t.toNat
    let children := maskPorts (s.fld .TB_SNAP_CFG 0 27 16)
    let up := s.fld .TB_SNAP_CFG 0 15 12
    let here := s.fld .TB_SNAP_STAT 0 5 0
    let own := (s.at' now).eventCount
    let event := countOf code now
    let held (t : State) : Prop := t.bit .TB_SNAP_STAT 0 7 = true ∧
      (∀ j : Fin 4, s.runs j = true → t.bit .QD_VARIANT j 8 = true ∧ (t.quad j).notice = none ∧ (t.quad j).restart = none)
    (s.bit .TB_SNAP_STAT 0 6 = false → s.readyToArrive = true → s.keeper.window' ≤ now →
      (children.all s.time.arrived.contains = false → ∃ t', exec (.arrive t) s = .next t' ∧ t'.bit .TB_SNAP_STAT 0 6 = true ∧
        t'.time = s.time) ∧
      (children.all s.time.arrived.contains = true → s.time.release = none → up ≠ 15 → 3 ≤ s.linkState up →
        ∃ t', exec (.arrive t) s = .next t' ∧ t'.bit .TB_SNAP_STAT 0 6 = true ∧
        (t'.port up).symQ = (s.port up).symQ ++ [(3, here)])) ∧
    (s.readyToArrive = false → exec (.arrive t) s = .next (s.at' now)) ∧
    (here = code → s.bit .TB_SNAP_CFG 0 (16 + port) = true → port.val ∉ s.time.arrived → s.bit .TB_SNAP_STAT 0 6 = false →
      ∃ t', exec (.arriveSymbol port code t) s = .next t' ∧ t'.time.arrived = s.time.arrived ++ [port.val]) ∧
    (s.keeper.start = none → s.bit .TB_SNAP_STAT 0 7 = false → ∃ t', exec (.epoch0 t) s = .next t' ∧ t'.time.epoch0 = some own ∧
      t'.bit .TB_SNAP_STAT 0 8 = true) ∧
    (s.keeper.start = none → ∃ t', exec (.hold t) s = .next t' ∧ held t' ∧ t'.time.holdNow = true) ∧
    (s.seenSnap 1 code now = false → now ≤ event → ∃ t', exec (.releaseSymbol port code t) s = .next t' ∧ t'.time.release = some event) ∧
    (s.seenSnap 2 code now = false → now ≤ event → s.bit .TB_SNAP_STAT 0 7 = false → ∃ t', exec (.epoch0Symbol port code t) s = .next t' ∧
      t'.time.epoch0 = some event ∧ t'.bit .TB_SNAP_STAT 0 8 = true) ∧
    (s.seenSnap 2 code now = false → event < now → ∃ t', exec (.epoch0Symbol port code t) s = .next t' ∧
      t'.time.epoch0 = s.time.epoch0 ∧ t'.bit .TB_SNAP_STAT 0 9 = true) ∧
    (s.seenSnap 3 code now = false → now ≤ event → s.keeper.start = none → ∃ t', exec (.holdSymbol port code t) s = .next t' ∧ held t') ∧
    (∀ e, e ∈ [1, 2, 3] → s.seenSnap e code now = true → s.keeper.start = none →
      exec (match e with | 1 => .releaseSymbol port code t | 2 => .epoch0Symbol port code t | _ => .holdSymbol port code t) s =
        .next (s.at' now)) ∧
    (s.keeper.start = none → ∃ t', exec (.loadLateMessage id mask drip) s = .next t' ∧
      t'.time.loadLate = s.time.loadLate ++ [(id.toNat, mask.toNat, drip.toNat)]) ∧
    (s.time.release = some n → n ≤ now → s.keeper.start = none → ∃ t', exec (.releaseFire t) s = .next t' ∧ t'.time.release = none ∧
      t'.reg .TB_SNAP_FIRE 0 = BitVec.ofNat 64 n ∧ .message 9 [n] ∈ t'.out) ∧
    (s.time.epoch0 = some n → n ≤ now → s.keeper.start = none → ∃ t', exec (.epoch0Fire t) s = .next t' ∧ t'.time.epoch0 = none ∧
      t'.reg .TB_EPOCH0 0 = BitVec.ofNat 64 (n + 1048576) ∧
      (s.takesPart q = true → t'.reg .QD_LAUNCH_NEXT q = BitVec.ofNat 64 (n + 1048576) ∧ t'.runs q = true)) ∧
    (s.bit .TB_SNAP_STAT 0 7 = true → (s.reg .TB_HOLD_AT 0).toNat ≤ now → s.time.holdFired = false → s.keeper.start = none →
      (∀ j, (s.quad j).moved = []) → ∃ t', exec (.holdFire t) s = .next t' ∧ t'.time.holdFired = true ∧
        (s.runs q = true → p / 72 = q → ∀ k, ((t'.core p).queue k).ents = []))

/-! ### Variants and core clocks -/

/-- R41 to R44: a variant notice in time is pending and shown, a late one raises the hold; the confirmation writes a higher floor ahead and
raises the hold without its notice; at the switch count the new rule is in force.
Readings or choices of the model among them: log entry 74. -/
def Obligations.VariantSwitches : Prop :=
  ∀ (s : State) (q : Fin 4) (v : Fin 8) (ks count t : U64) (n : VarNotice) (w x : Variant) (core : Fin 256) (p : Nat),
    let held (t : State) : Prop := t.bit .QD_VARIANT q 9 = true ∧ t.bit .TB_SNAP_STAT 0 7 = true
    (s.runs q = true → (s.quad q).notice = none →
      (t.toNat < count.toNat → ((s.quad q).begun = false ∨ s.epoch q + 1 < ks.toNat) →
        ∃ t', exec (.variantNotice q v ks count t) s = .next t' ∧ (t'.quad q).notice = some ⟨v, ks.toNat, count.toNat⟩ ∧
          t'.fld .QD_VARIANT q 6 4 = v ∧ t'.bit .QD_VARIANT q 7 = true ∧ t'.reg .QD_SWITCH_COUNT q = count) ∧
      (count.toNat ≤ t.toNat → ∃ t', exec (.variantNotice q v ks count t) s = .next t' ∧ held t') ∧
      ((s.quad q).begun = true → ks.toNat ≤ s.epoch q + 1 → ∃ t', exec (.variantNotice q v ks count t) s = .next t' ∧ held t') ∧
      (∃ t', exec (.switchConfirm q ks t) s = .next t' ∧ held t')) ∧
    (s.runs q = true → (s.quad q).notice = some n → n.ks = ks.toNat → (s.quad q).variants[n.target]? = some w → s.variant q = some x →
      (x.floor < w.floor → core.val / 64 = q → s.phys core = some p → ∃ t', exec (.switchConfirm q ks t) s = .next t' ∧
        (t'.core p).fld .CLK_CORE_CTRL 0 17 12 = floorStep w.floor % 64) ∧
      (w.floor ≤ x.floor → exec (.switchConfirm q ks t) s = .next (s.at' t.toNat))) ∧
    ((s.quad q).notice = some n →
      (n.count = (s.reg .QD_LAUNCH_NEXT q).toNat → ∃ t', exec (.variantSwitch q) s = .next t' ∧ (t'.quad q).notice = none ∧
        (t'.quad q).rule = ⟨n.ks, n.count, n.target⟩ ∧ t'.fld .QD_VARIANT q 2 0 = n.target % 8 ∧ t'.bit .QD_VARIANT q 7 = false ∧
        t'.fld .QD_VARIANT q 47 16 = satAdd (2 ^ 32 - 1) (s.fld .QD_VARIANT q 47 16) 1) ∧
      (n.count ≠ (s.reg .QD_LAUNCH_NEXT q).toNat → exec (.variantSwitch q) s = .next s))

/-- R443 to R447, R472: the commanded step follows the request one step at a time; a warning takes a stretch or lowers the margin step M, a
quiet time raises it; a margin that has failed at M = 0 and a lost lock cordon the core; a target below the floor is ignored while a plan
runs.
Readings or choices of the model among them: log entry 76. -/
def Obligations.CoreClocks : Prop :=
  ∀ (s : State) (v : Fin 256) (p win : Nat) (val : U64),
    s.phys v = some p →
    let c := s.core p
    let stat (c : CoreSt) (hi lo : Nat) : Nat := c.fld .CLK_CORE_STAT 0 hi lo
    let step := stat c 5 0
    let m := stat c 11 6
    let lands (o : Host.Outcome State Fault Refusal) (holds : CoreSt → Prop) : Prop := ∃ t, o = .next t ∧ holds (t.core p)
    lands (exec (.clockStep v) s) (fun x => stat x 11 6 = m ∧
      (step < c.request → stat x 5 0 = step + 1) ∧ (c.request < step → stat x 5 0 = step - 1) ∧
      (step = c.request → stat x 5 0 = step)) ∧
    lands (exec (.monitorWarning v win) s) (fun x => stat x 12 12 = 1 ∧
      (c.stretchWin = win → c.stretchUsed < 64 → x.stretchUsed = c.stretchUsed + 1 ∧ stat x 11 6 = m) ∧
      (c.stretchWin = win → 64 ≤ c.stretchUsed → x.stretchUsed = c.stretchUsed ∧ stat x 11 6 = m - 1) ∧
      (c.stretchWin ≠ win → x.stretchUsed = 1 ∧ x.stretchWin = win)) ∧
    lands (exec (.marginRaise v) s) (fun x => stat x 12 12 = 0 ∧ stat x 11 6 = min 40 (m + 1)) ∧
    (stat c 12 12 = 1 → 64 ≤ c.stretchUsed →
      (m ≠ 0 → lands (exec (.marginFall v) s) (fun x => stat x 11 6 = m - 1)) ∧
      (m = 0 → c.warnCycles < 3072 → lands (exec (.marginFall v) s) (fun x => x.warnCycles = c.warnCycles + 1024)) ∧
      (m = 0 → 3072 ≤ c.warnCycles → exec (.marginFall v) s = .next (((s.setCore p
        ({ c with warnCycles := 0 }.setFld .CLK_CORE_STAT 0 14 14 1)).cordonCore p 4 false).judgeClock v))) ∧
    (exec (.coreClockLockLoss v) s = .next ((s.setCore p (c.setFld .CLK_CORE_STAT 0 15 15 1)).cordonCore p 5 false)) ∧
    lands (exec (.clockTargetWrite v val) s) (fun x => x.fld .CLK_CORE_CTRL 0 11 6 = min 40 (bitsOf val 11 6) ∧
      (s.runs (v.val / 64) = true → min 40 (bitsOf val 5 0) < c.fld .CLK_CORE_CTRL 0 17 12 →
        x.fld .CLK_CORE_CTRL 0 5 0 = c.fld .CLK_CORE_CTRL 0 5 0) ∧
      (s.runs (v.val / 64) = false ∨ c.fld .CLK_CORE_CTRL 0 17 12 ≤ min 40 (bitsOf val 5 0) →
        x.fld .CLK_CORE_CTRL 0 5 0 = min 40 (bitsOf val 5 0)))

/-! ### Cordons and recovery -/

/-- R475 to R480, R505, R508: a cordon by command marks its unit failed, isolates it and takes a spare for a core of the grid; a release
ends it once the unit has passed its test, and a command is refused with REJ while one is in progress or has nothing to release.
Readings or choices of the model among them: log entries 43 and 71. -/
def Obligations.CordonsAndReleases : Prop :=
  ∀ (s : State) (p : Fin 288) (port : Fin 12) (q : Fin 4) (t : U64) (k : Nat) (pass : Bool) (e : Fin 63),
    let quad := p.val / 72
    let row := p.val % 72 / 9
    let col := p.val % 9
    let out := s.rowOut quad row
    let failed (s : State) : Bool := (s.rowFailed quad row).testBit col
    let rejected (o : Host.Outcome State Fault Refusal) : Prop := ∃ t', o = .next t' ∧ t'.bit .KPR_CORDON_STAT 0 18 = true ∧
      t'.cores = s.cores ∧ t'.quads = s.quads ∧ t'.ports = s.ports
    (s.bit .KPR_CORDON_STAT 0 17 = true →
      rejected (exec (.cordonCore p) s) ∧ rejected (exec (.cordonQuadrant q) s) ∧ rejected (exec (.cordonPort port t) s) ∧
      rejected (exec (.releaseCore p) s) ∧ rejected (exec (.releasePort port) s) ∧ rejected (exec (.releaseQuadrant q) s)) ∧
    (s.bit .KPR_CORDON_STAT 0 17 = false → s.restarting = false →
      (failed s = false → out.testBit col = true → ∃ t', exec (.cordonCore p) s = .next t' ∧ failed t' = true ∧
        (t'.core p).inReset = true ∧ (t'.core p).fenced = true ∧ t'.bit .MSH_ROUTER_STAT p 48 = true ∧ (t'.core p).queues = [] ∧
        t'.fld .KPR_CORDON_STAT 0 11 0 = p * 4 ∧ t'.fld .KPR_CORDON_STAT 0 15 12 = 6) ∧
      (failed s = false → out.testBit col = false → (s.quad quad).plan = none → s.runs quad = false →
        nearestSpare out (maskSet (s.rowFailed quad row) col true) col = some k → ∃ t', exec (.cordonCore p) s = .next t' ∧
        failed t' = true ∧ t'.outMask quad row = maskSet (maskSet out k false) col true) ∧
      (∃ t', exec (.cordonPort port t) s = .next t' ∧ t'.linkState port = 0 ∧ (t'.port port).cordoned = true ∧
        t'.bit .LNK_CTRL port 0 = false) ∧
      (∃ t', exec (.cordonQuadrant q) s = .next t' ∧ t'.bit .KPR_QUAD_STAT q 1 = true ∧ (t'.quad q).idled = true ∧
        t'.reg .KPR_SETUP_TAG 0 = 0 ∧ (portQuad port = q → t'.bit .LNK_PKEY (port * 64 + (e + 1)) 16 = false)) ∧
      (failed s = true → ∃ t', exec (.releaseCore p) s = .next t' ∧ t'.keeper.testing = [p.val] ∧ t'.bit .KPR_CORDON_STAT 0 17 = true) ∧
      (failed s = false → rejected (exec (.releaseCore p) s)) ∧
      ((s.port port).cordoned = true → s.linkState port = 0 → ∃ t', exec (.releasePort port) s = .next t' ∧ t'.linkState port = 1 ∧
        (t'.port port).cordoned = false) ∧
      ((s.port port).cordoned = false → rejected (exec (.releasePort port) s)) ∧
      (s.bit .KPR_QUAD_STAT q 1 = true → (s.quad q).plan = none → ∃ t', exec (.releaseQuadrant q) s = .next t' ∧
        t'.bit .KPR_QUAD_STAT q 1 = false ∧ (t'.quad q).idled = false) ∧
      (s.bit .KPR_QUAD_STAT q 1 = false ∨ (s.quad q).plan.isSome = true → rejected (exec (.releaseQuadrant q) s))) ∧
    (s.keeper.testing = [p.val] → ∃ t', exec (.coreSelfTestDone p pass) s = .next t' ∧ t'.keeper.testing = [] ∧
      t'.bit .KPR_CORDON_STAT 0 17 = false ∧ failed t' = (failed s && !pass))

/-- R119, R490 to R494, R503: reports at the partition master, the pending notice, the copies of moved positions, the restart with its
stop and its launch, a weight change, and a standby that takes a failed role or a quadrant whose mirror partner was replaced.
Readings or choices of the model among them: log entries 68, 69 and 74. -/
def Obligations.RestartsAndReplacement : Prop :=
  ∀ (s : State) (q : Fin 4) (src : BitVec 22) (kr kw t k : U64) (m : BitVec 16) (v : Fin 256) (mv : Moved) (fill : List RangeCopy)
    (a b p : Nat) (role : BitVec 32) (w : Fin 8) (device : BitVec 20) (quad : Fin 4) (old new : Plan) (tb : Map Nat)
    (kv : U64),
    let x := s.quad q
    let restartAt (t : State) : U64 := t.reg .QD_RESTART_AT q
    (x.master = true → s.runs q = true →
      (∃ t', exec (.recoveryEventReport q src 0) s = .next t' ∧ t'.out = s.out ++ [.message 13 [q]] ∧
        (t'.quad q).repairs = x.repairs.filter (fun r => r.1 ≠ src.toNat) ++ [(src.toNat, false)]) ∧
      (exec (.recoveryEventReport q src 1) s = .next (s.send (.message 14 [q]))) ∧
      (x.repairs = [(src.toNat, false)] → x.restartPoint (s.epoch q) = some (a, b) → ∃ t',
        exec (.recoveryEventReport q src 2) s = .next t' ∧ (t'.quad q).repairs = [] ∧ t'.out = s.out ++ [.message 15 [q, a + b, b]])) ∧
    (s.runs q = true → s.bit .QD_RECOVERY q 0 = false → ∃ t', exec (.recoveryPendingNotice q) s = .next t' ∧
      t'.bit .QD_RECOVERY q 0 = true ∧ t'.quad q = { x with rehearsed := false }) ∧
    (v.val / 64 = q → x.moved = [mv] → mv.v = v → mv.flow = true → ∃ t', exec (.flowCopyDone v fill true) s = .next t' ∧
      (t'.quad q).moved = [{ mv with flow := false, fill := fill.map (fun f => (f.addr.toNat, f.data)) }]) ∧
    (s.runs q = true →
      (s.launchEpoch q + m.toNat ≤ kr.toNat → ∃ t', exec (.restartNotice q kr m) s = .next t' ∧
        (t'.quad q).restart = some (kr.toNat, m.toNat) ∧ t'.bit .QD_RECOVERY q 1 = true ∧
        restartAt t' = BitVec.ofNat 64 (s.nextValues q kr.toNat).1) ∧
      (kr.toNat < s.launchEpoch q + m.toNat → ∃ t', exec (.restartNotice q kr m) s = .next t' ∧ t'.bit .TB_SNAP_STAT 0 7 = true) ∧
      (s.launchEpoch q + 1 ≤ kw.toNat → ∃ t', exec (.weightChangeNotice q kw) s = .next t' ∧ (t'.quad q).weight = some kw.toNat) ∧
      (kw.toNat < s.launchEpoch q + 1 → ∃ t', exec (.weightChangeNotice q kw) s = .next t' ∧ t'.bit .TB_SNAP_STAT 0 7 = true)) ∧
    (x.restart = some (a, b) → s.bit .QD_RECOVERY q 1 = true →
      (s.runs q = true → s.epoch q + b = a → x.moved = [] → p / 72 = q → ∃ t', exec (.restartStop q) s = .next t' ∧
        ∀ k, ((t'.core p).queue k).ents = []) ∧
      ((restartAt s).toNat ≤ t.toNat → ∃ t', exec (.restartLaunch q t) s = .next t' ∧ (t'.quad q).restart = none ∧ restartAt t' = 0 ∧
        t'.bit .QD_RECOVERY q 1 = false ∧ t'.bit .QD_RECOVERY q 0 = (!x.moved.isEmpty || !x.recrys.isEmpty)) ∧
      (t.toNat < (restartAt s).toNat → exec (.restartLaunch q t) s = .next s)) ∧
    (x.weight = some a → (s.nextValues q a).1 ≤ t.toNat → ∃ t', exec (.weightChange q t) s = .next t' ∧ (t'.quad q).weight = none ∧
      ∀ row g, Map.wf (α := Group) x.groups = true → Map.find (α := Group) x.groups row = some g → g.launch < (s.nextValues q a).1 →
        Map.find (α := Group) (t'.quad q).groups row = none) ∧
    (s.bit .KPR_QUAD_STAT q 2 = false → s.runs q = true → s.bit .QD_MIRROR q 23 = true →
      ∃ t', exec (.standbyRestoreDone q role w k kv [] fill device quad) s = .next t' ∧ t'.bit .QD_MIRROR q 23 = false ∧
        t'.fld .QD_MIRROR q 19 0 = device.toNat ∧ t'.fld .QD_MIRROR q 21 20 = quad) ∧
    (let pos := ((old.roles[role.toNat]?).map (·.pos)).getD 0
     let taken := planOf old.image role.toNat q (setNth old.placement pos s.globalId)
     let base := { taken with standby := false, loadFn := old.loadFn, reportAt := old.reportAt }
     s.bit .KPR_QUAD_STAT q 2 = true → x.plan = some old → s.relocate q base.reloc 0 base = .inl new →
      new.meshTable (fun r => s.rowOut q r) = some tb → ∃ t', exec (.standbyRestoreDone q role w k kv [] [] device quad) s = .next t' ∧
        (t'.quad q).rule = ⟨k.toNat, 0, w⟩ ∧ (t'.quad q).kv = kv.toNat ∧ t'.reg .QD_EPOCH_INDEX q = BitVec.ofNat 64 (k.toNat - 1) ∧ t'.runs q = true ∧
        t'.bit .QD_VARIANT q 8 = true)

/-- R484 to R488, R500 to R502: a delta record in order is applied to its entry and acknowledged, one out of order is reported; the
acknowledgement brings the mirror in step and a gap report loses it. A rehearsal entry that is due injects its fault and is DONE, is
skipped while a recovery is pending, and does nothing when it is not due or a lower one due at the same epoch is still to come.
Readings or choices of the model among them: log entries 70 and 73. -/
def Obligations.MirrorsAndRehearsals : Prop :=
  ∀ (s : State) (q : Fin 4) (record : List Byte) (slot : Fin 128) (dseq : BitVec 32) (i : Fin 64) (t : U64) (copy : MirrorCopy)
    (e : MirrorEntry) (kind : Nat) (cmd : Instr),
    let x := s.quad q
    let d := deltaOf record
    let entry (t : State) (n : Nat) : Option MirrorEntry := Map.find (α := MirrorEntry) (t.quad q).mirrors n
    let acks (t : State) : Prop := t.out = s.out ++ [.message 16 d.ackWords]
    let target := s.rehTarget i
    let port := target % 12
    let core := target % 288
    let home := match kind with | 0 => portQuad port | 1 => portQuad port | 5 => target % 4 | _ => core / 72
    let open' := s.bit .KPR_REH_CTRL 0 0 && s.bit .KPR_REH_ENTRY i 3 && decide (s.fld .KPR_REH_ENTRY i 2 0 = kind) &&
      !s.bit .KPR_REH_ENTRY i 4 && !s.bit .KPR_REH_ENTRY i 5
    let due := open' && s.runs home && decide (s.reg .KPR_REH_AT i = s.reg .QD_EPOCH_INDEX home) &&
      (List.range i).all (fun j => !(s.rehDue j && decide (s.reg .KPR_REH_AT j = s.reg .KPR_REH_AT i)))
    (entry s d.slot = some e → d.kind < 3 → d.dseq = (e.dseq + 1) % 2 ^ 32 → ∃ t', exec (.mirrorDelta q record) s = .next t' ∧
      entry t' d.slot = some (e.take d) ∧ acks t') ∧
    (entry s d.slot = none → d.kind = 3 → d.dseq = 0 → ∃ t' e', exec (.mirrorDelta q record) s = .next t' ∧ entry t' d.slot = some e' ∧
      e'.block = d.block ∧ e'.step = d.step ∧ acks t') ∧
    (entry s d.slot = some e → d.kind = 4 → d.dseq = (e.dseq + 1) % 2 ^ 32 → Map.wf (α := MirrorEntry) x.mirrors = true →
      ∃ t', exec (.mirrorDelta q record) s = .next t' ∧ entry t' d.slot = none ∧ acks t') ∧
    (entry s d.slot = some e → d.kind < 5 → d.dseq ≠ (e.dseq + 1) % 2 ^ 32 →
      exec (.mirrorDelta q record) s = .next (s.send (.message 17 [d.slot, d.id, d.quad]))) ∧
    (s.mirrorState q slot = 2 → s.fld .HUB_SEQ_MIRROR (q * 128 + slot) 39 16 = dseq.toNat % 2 ^ 24 → (x.slot slot).state ≠ 0 →
      ∃ t', exec (.mirrorAck q slot dseq) s = .next t' ∧ t'.mirrorState q slot = 1 ∧
        t'.fld .HUB_SEQ_MIRROR (q * 128 + slot) 63 40 = dseq.toNat % 2 ^ 24) ∧
    (s.mirrorState q slot ≠ 0 → ∃ t', exec (.mirrorGapReport q slot) s = .next t' ∧ t'.mirrorState q slot = 3 ∧
      t'.bit .QD_MIRROR q 23 = true) ∧
    ((kind, cmd) ∈ [(0, Instr.linkUnitCorruption i), (1, .forcedRetrain i t), (2, .residueInjection i), (3, .crystalSymbolError i),
        (4, .rehearsalCordon i), (5, .mirrorPromotion i copy)] →
      (due = false → exec cmd s = .next (if kind = 1 then s.at' t.toNat else s)) ∧
      (due = true → s.bit .QD_RECOVERY home 0 = true ∨ s.bit .TB_SNAP_STAT 0 7 = true → ∃ t', exec cmd s = .next t' ∧
        t'.bit .KPR_REH_ENTRY i 5 = true ∧ t'.cores = s.cores ∧ t'.quads = s.quads ∧ t'.ports = s.ports) ∧
      (due = true → s.bit .QD_RECOVERY home 0 = false → s.bit .TB_SNAP_STAT 0 7 = false →
        (kind = 4 → (nearestSpare (s.rowOut home (core % 72 / 9)) (s.rowFailed home (core % 72 / 9)) (core % 9)).isSome = true) →
        (kind = 5 → s.mirrorState home (s.rehArg i % 128) = 1) → ∃ t', exec cmd s = .next t' ∧ t'.bit .KPR_REH_ENTRY i 4 = true ∧
        t'.fld .KPR_REH_CTRL 0 31 16 = satAdd 65535 (s.fld .KPR_REH_CTRL 0 31 16) 1 ∧
        (kind = 0 → (t'.port port).corrupt = min 1024 (s.rehArg i)) ∧
        (kind = 1 → s.linkState port = 5 → t'.linkState port = 6) ∧
        (kind = 2 → (t'.core core).injectResidue = true) ∧
        (kind = 3 → Mem.wf (s.core core).sram = true → let a := 64 * (s.rehArg i / 64)
          (t'.core core).sram.read a = ~~~ (s.core core).sram.read a ∧ s.rehArg i / 64 ∈ (t'.core core).rehearsed)))

/-! ### The host functions and the sideband -/

/-- R514, R534, R535, R540, R559: enabling a function with legal ring sizes starts its command rings at count 0, disabling empties its
queues, an illegal size or a running plan refuses either; a request error marks the function; a reset of the management function
restores its registers; and PERST# takes a link down and up.
Readings or choices of the model among them: log entries 8 and 49. -/
def Obligations.HostFunctions : Prop :=
  ∀ (s : State) (f : Fin 5) (link : Fin 4) (rate : Fin 7) (width : Fin 17) (flit : Bool),
    let on (t : State) : Bool := t.bit .HIF_CTRL f 0
    let sizes := ringSizeOk (s.sqSize f) && ringSizeOk (s.cqSize f)
    (on s = false → sizes = true → ∃ t, exec (.functionEnable f) s = .next t ∧ on t = true ∧ t.bit .HIF_STAT f 0 = true ∧
      t.func f = { s.func f with sqCount := 0, cqCount := 0, cqHost := 0, queue := [], reserved := 0, fetched := [] }) ∧
    (on s = false → sizes = false → ∃ t, exec (.functionEnable f) s = .next t ∧ on t = false ∧ t.bit .HIF_STAT f 2 = true ∧
      t.funcs = s.funcs) ∧
    (on s = true → (f.val = 4 ∨ s.runs f = false) → ∃ t, exec (.functionDisable f) s = .next t ∧ on t = false ∧
      t.bit .HIF_STAT f 0 = false ∧ t.func f = { s.func f with queue := [], reserved := 0, fetched := [] }) ∧
    (on s = true → f.val < 4 → s.runs f = true → ∃ t, exec (.functionDisable f) s = .next t ∧ on t = true ∧
      t.bit .HIF_STAT f 2 = true ∧ t.funcs = s.funcs) ∧
    (∃ t, exec (.hostRequestError f) s = .next t ∧ t.live f = false ∧ t.funcs = s.funcs ∧ (∀ g : Fin 5, g ≠ f → t.live g = s.live g)) ∧
    (Map.wf s.funcs = true → ∃ t, exec (.functionLevelReset 4) s = .next t ∧ t.func 4 = {} ∧ t.reg .HIF_CTRL 4 = 0 ∧ t.cores = s.cores ∧
      t.quads = s.quads ∧ ∀ g : Fin 4, t.func g = s.func g) ∧
    (Map.wf s.regs = true → ∃ t, exec (.perst link) s = .next t ∧ t.reg .HIF_LINK_STAT link = 0) ∧
    (let v := 1 + rate.val * 2 + width.val * 16 + (if flit then 512 else 0)
     s.keeper.t0 = true → link.val < pcieLinks (s.fld .KPR_BOOT 0 3 0) → ∃ t, exec (.perstRelease link rate width flit) s = .next t ∧
      t.reg .HIF_LINK_STAT link = BitVec.ofNat 64 v) ∧
    (s.keeper.t0 = false → ∃ t, exec (.perstRelease link rate width flit) s = .next t ∧ t.regs = s.regs)

/-- R538, R539: the I3C common commands on a target that answers, private transfers over its map, and the requests; a sideband without
power, or whose keeper restarts, does nothing. What GETSTATUS sends is two bytes the spec does not give.
Readings or choices of the model among them: log entries 37 and 54. -/
def Obligations.Sideband : Prop :=
  ∀ (s : State) (addr static : BitVec 7) (ev o : Byte) (n : BitVec 16) (b : Byte),
    let x := s.keeper.side
    let answers (o : Host.Outcome State Fault Refusal) (l : List Byte) : Prop := o = .next (s.send (.sideband l))
    (s.sideLive = true →
      (x.addr = none → ∃ t l, exec (.entdaa addr) s = .next t ∧ t.keeper.side.addr = some addr.toNat ∧
        t.out = s.out ++ .sideband (s.pidBytes ++ [Config.i3cBcr, Config.i3cDcr]) :: l) ∧
      (x.addr = none → static.toNat = s.staticAddr → ∃ t, exec (.setdasa static addr) s = .next t ∧
        t.keeper.side.addr = some addr.toNat) ∧
      (x.addr.isSome = true → exec (.entdaa addr) s = .next s ∧ exec (.setdasa static addr) s = .next s) ∧
      (∃ t, exec .rstdaa s = .next t ∧ t.keeper.side.addr = none) ∧
      (ev.getLsbD 0 = true → (∃ t, exec (.enec ev) s = .next t ∧ t.keeper.side.ibi = true) ∧
        ∃ t, exec (.disec ev) s = .next t ∧ t.keeper.side.ibi = false) ∧
      (x.addr.isSome = true → answers (exec .getpid s) s.pidBytes ∧ answers (exec .getbcr s) [Config.i3cBcr] ∧
        answers (exec .getdcr s) [Config.i3cDcr] ∧
        ∃ t l, exec .getstatus s = .next t ∧ l.length = 2 ∧ t.out = s.out ++ [.sideband l]) ∧
      (o.toNat + n.toNat ≤ 0x1A → exec (.sidebandTransfer o [] n) s = .next (s.send (.sideband ((s.sideMap.drop o.toNat).take n.toNat)))) ∧
      (∃ t, exec (.sidebandTransfer 0x20 [b] 0) s = .next t ∧ t.keeper.side.causes = x.causes &&& (2 ^ 32 - 1 - b.toNat)) ∧
      (∃ t, exec (.sidebandTransfer 0x24 [b] 0) s = .next t ∧ t.keeper.side.enables = b.toNat % 32) ∧
      exec (.sidebandTransfer 0x28 [1] 0) s = exec .warmResetRequest s ∧
      (∃ t, exec .bootImageB s = .next t ∧ exec (.sidebandTransfer 0x28 [2] 0) s = .next t ∧ t.fld .KPR_BOOT 0 9 8 = 2) ∧
      (∃ t, exec .bootImageA s = .next t ∧ exec (.sidebandTransfer 0x28 [3] 0) s = .next t ∧ t.fld .KPR_BOOT 0 9 8 = 1)) ∧
    (s.sideLive = false → ∀ c ∈ [Instr.entdaa addr, .setdasa static addr, .rstdaa, .enec ev, .disec ev, .getpid, .getbcr, .getdcr,
        .warmResetRequest, .bootImageA, .bootImageB, .sidebandTransfer o [b] n], exec c s = .next s)

/-! ### Resets -/

/-- R440, R548, R549, R551, R552, R555, R562, R574, R575: every source of a device reset records its code and scope in RST_CAUSE. A cold
reset empties the cores, quadrants, functions, ports and routers and keeps the flash; a warm one keeps the bytes of core memory and,
where it cuts no SLOW_OUT off, of the HBM, and drops the plans; one that arrives while flash is programmed or erased is held behind it.
Readings or choices of the model among them: log entries 33, 41 and 48. -/
def Obligations.DeviceResets : Prop :=
  ∀ (s : State) (ns : BitVec 32) (t : U64),
    let cold : List (Instr × Nat) := [(.sysRstN ns, 2), (.deviceColdReset, 8), (.timebaseLockLoss t, 7)]
    let warm : List (Instr × Nat) := [(.keeperWatchdog, 5), (.deviceWarmReset, 8), (.warmResetRequest, 9)]
    let caused (t' : State) (code scope : Nat) : Prop := t'.fld .RST_CAUSE 0 3 0 = code ∧ t'.fld .RST_CAUSE 0 6 4 = scope ∧
      t'.fld .RST_CAUSE 0 47 32 = satAdd 65535 (s.fld .RST_CAUSE 0 47 32) 1 ∧ t'.pending = s.pending ∧ t'.keeper.flash = s.keeper.flash
    let uncut : Prop := ∀ p, ∀ e ∈ ((s.core p).queue 2).ents, e.hbm = none
    Map.wf s.regs = true → 2000 ≤ ns.toNat → s.keeper.powered = true → s.restarting = false →
    (s.keeper.flashOp = none →
      (∀ c ∈ cold, ∃ t', exec c.1 s = .next t' ∧ caused t' c.2 0 ∧ t'.cores = [] ∧ t'.quads = [] ∧ t'.funcs = [] ∧ t'.ports = [] ∧
        t'.mesh = []) ∧
      (∀ c ∈ warm, ∃ t', exec c.1 s = .next t' ∧ caused t' c.2 1 ∧ t'.funcs = [] ∧ (∀ p, (t'.core p).sram = (s.core p).sram) ∧
        ∀ q : Fin 4, (t'.quad q).plan = none ∧ (uncut → (t'.quad q).hbm = (s.quad q).hbm))) ∧
    (s.keeper.flashOp.isSome = true → s.keeper.held = none →
      (∀ c ∈ cold, ∃ t', exec c.1 s = .next t' ∧ t'.cores = s.cores ∧ t'.quads = s.quads ∧ ∃ r, t'.keeper.held = some r ∧ r.code = c.2 ∧
        r.scope = 0) ∧
      (∀ c ∈ warm, exec c.1 s = .next (s.modKeeper (fun k => { k with held := some { code := c.2, scope := 1 } })))) ∧
    (∀ short : BitVec 32, short.toNat < 1000 → exec (.sysRstN short) s = .next s)

/-- R353, R535, R548, R549, R553, R575: a quadrant reset by RST_CMD, a function-level reset, a slot-table parity error or an authentic
remote message of scope 2 records its cause, ends the quadrant's plan, resets its function and, where it cuts no SLOW_OUT off, keeps the
HBM; an authentic one of scope 1 resets the device; one of another scope changes no core, no quadrant and nothing of the keeper.
R554, R575: a block reset starts on an idle controller for a unit that exists and runs no plan, and is refused with REJ otherwise. It
waits until the block is idle, or its timeout forces it; a core then is as `CoreSt.reset` leaves it.
Readings or choices of the model among them: log entries 34, 40 and 45. -/
def Obligations.QuadrantRemoteAndBlockResets : Prop :=
  (∀ (s : State) (q : Fin 4) (mask : BitVec 4) (msg : List Byte) (t : U64),
    let at' (a n : Nat) : Nat := ofLe ((msg.drop a).take n)
    let reset (o : Host.Outcome State Fault Refusal) (code : Nat) (qs : List Nat) : Prop := ∃ t', o = .next t' ∧
      t'.fld .RST_CAUSE 0 3 0 = code ∧ t'.fld .RST_CAUSE 0 6 4 = 2 ∧
      ∀ k ∈ qs, (t'.quad k).plan = none ∧ t'.func k = {} ∧
        ((∀ p, ∀ e ∈ ((s.core p).queue 2).ents, e.hbm = none) → (t'.quad k).hbm = (s.quad k).hbm)
    let key := ((s.keeper.flash.install.use).map (·.resetKey)).getD []
    let nonce := at' 8 8
    let now := max s.now t.toNat
    Map.wf s.regs = true → Map.wf s.funcs = true →
    (mask.toNat ≠ 0 → reset (exec (.quadrantReset mask) s) 8 (maskQuads mask.toNat)) ∧
    (mask.toNat = 0 → exec (.quadrantReset mask) s = .next s) ∧
    reset (exec (.functionLevelReset ⟨q.val, by omega⟩) s) 4 [q.val] ∧
    reset (exec (.slotTableParityError q) s) 7 [q.val] ∧
    (msg.length = 128 → ecdsaOk key (msg.drop 32) (sha384 (msg.take 32)) = true → at' 0 4 % 2 ^ 20 = s.globalId → s.tbState = 2 →
      nonce ≤ now + 2 ^ 30 → now ≤ nonce + 2 ^ 30 → (∀ n, s.keeper.nonce = some n → n < nonce) →
      (at' 4 1 = 1 → s.keeper.flashOp = none → ∃ t', exec (.remoteReset msg t) s = .next t' ∧ t'.fld .RST_CAUSE 0 3 0 = 10 ∧
        t'.fld .RST_CAUSE 0 6 4 = 1 ∧ t'.keeper.nonce = some nonce) ∧
      (at' 4 1 = 2 → at' 5 1 % 16 ≠ 0 → reset (exec (.remoteReset msg t) s) 10 (maskQuads (at' 5 1)))) ∧
    (at' 4 1 ≠ 1 → at' 4 1 ≠ 2 → ∃ t', exec (.remoteReset msg t) s = .next t' ∧ t'.cores = s.cores ∧ t'.quads = s.quads ∧
      t'.keeper = s.keeper)) ∧
  (∀ (s : State) (block : BitVec 4) (index : BitVec 9) (timeout : BitVec 16) (p b i : Nat),
    let refused : Prop := s.keeper.block.isSome = true ∨ blockUnits block.toNat ≤ index.toNat ∨
      ∃ q, blockQuad block.toNat index.toNat = some q ∧ s.runs q = true
    let c := s.core p
    let quiet : Prop := (c.seq.run = .stopped ∨ c.seq.run = .faulted) ∧ c.queues.all (fun q => q.2.ents.isEmpty) = true
    (refused → ∃ t, exec (.blockReset block index timeout) s = .next t ∧ t.bit .RST_BLOCK 0 16 = true ∧ t.keeper = s.keeper ∧
      t.cores = s.cores ∧ t.quads = s.quads) ∧
    (¬ refused → ∃ t, exec (.blockReset block index timeout) s = .next t ∧ t.bit .RST_BLOCK 0 14 = true ∧
      t.keeper.block = some (block.toNat, index.toNat) ∧ t.fld .RST_BLOCK 0 47 32 = timeout.toNat) ∧
    (s.keeper.block = some (0, p) →
      (quiet → ∃ t, exec .blockIdle s = .next t ∧ t.core p = c.reset ∧ t.keeper.block = none ∧ t.bit .RST_BLOCK 0 14 = false ∧
        t.bit .RST_BLOCK 0 15 = s.bit .RST_BLOCK 0 15) ∧
      (¬ quiet → exec .blockIdle s = .next s ∧ ∃ t, exec .blockResetTimeout s = .next t ∧ t.core p = c.reset ∧ t.keeper.block = none ∧
        t.bit .RST_BLOCK 0 14 = false ∧ t.bit .RST_BLOCK 0 15 = true)) ∧
    (Map.wf s.regs = true → s.keeper.block = some (b, i) → s.blockIdle b i = true → ∃ t, exec .blockIdle s = .next t ∧ exec .blockResetTimeout s = .next t ∧
      t.fld .RST_CAUSE 0 3 0 = 8 ∧ t.fld .RST_CAUSE 0 6 4 = (if b = 0 then 3 else 4)) ∧
    (s.keeper.block = none → exec .blockIdle s = .next s ∧ exec .blockResetTimeout s = .next s))

/-! ### Bring-up and firmware -/

/-- R546, R549, R556 to R561, R567, R568, R576, R603: power-on reads the pin and empties the device; T0 starts the first two domains, and
the keeper when an image runs; the other domains start in their order; the supervisor image decides between READY and safe service; and a
waiting ROM runs a valid image of the host's window or of the network.
Readings or choices of the model among them: log entries 41 and 42. -/
def Obligations.BringUp : Prop :=
  ∀ (s : State) (uv : BitVec 24) (d : Fin 40) (i : Fin 524288) (val : U64) (k img : List Byte) (b : Nat),
    let dom (t : State) (d : Nat) : Nat := t.fld .PWR_DOMAIN_STAT d 1 0
    let brought : List Byte := s.keeper.window.readN 0 (min (256 + ofLe (s.keeper.window.readN 16 4)) 0x400000)
    let runs (o : Host.Outcome State Fault Refusal) (img : List Byte) : Prop :=
      (s.imageValid 1 img = true → ∃ t, o = .next t ∧ t.keeper.image = some (imgWhole img) ∧ t.stage = 2 ∧ t.bit .KPR_LOCK 0 0 = true) ∧
      (s.imageValid 1 img = false → ∃ t, o = .next t ∧ t.keeper.image = none ∧ t.stage = 1)
    (∃ t, exec (.powerOn uv) s = .next t ∧ t.keeper.powered = true ∧ t.fld .KPR_BOOT 0 3 0 = cfgCode uv.toNat ∧
      t.fld .KPR_BOOT 0 5 4 = bootSource (cfgCode uv.toNat) ∧ t.reg .RST_CAUSE 0 = 1 ∧ t.cores = [] ∧ t.quads = [] ∧ t.keeper.nonce = none) ∧
    (s.keeper.powered = true → s.keeper.t0 = false →
      (s.power.tripped = true → exec .t0Reached s = .next s) ∧
      (s.power.tripped = false → ∃ t, exec .t0Reached s = .next t ∧ t.keeper.t0 = true ∧ dom t 33 = 2 ∧ dom t 34 = 2 ∧
        (s.keeper.image = some k → s.stage < 2 → t.stage = 2 ∧ t.fld .KPR_FW_STAT 0 15 0 = imgGen k % 2 ^ 16 ∧
          t.bit .KPR_LOCK 0 0 = true))) ∧
    (s.stage = 2 →
      (domainOrder[s.keeper.started]? = some d.val → s.keeper.warm = false → ∃ t, exec (.domainStart d) s = .next t ∧ dom t d = 2 ∧
        t.keeper.started = s.keeper.started + 1 ∧ t.stage = if s.keeper.started = 36 then 3 else 2) ∧
      (domainOrder[s.keeper.started]? = some d.val → s.keeper.warm = true → dom s d ≠ 1 → ∃ t, exec (.domainStart d) s = .next t ∧
        dom t d = 2 ∧ t.keeper.started = s.keeper.started + 1 ∧ t.cores = s.cores) ∧
      (domainOrder[s.keeper.started]? ≠ some d.val → exec (.domainStart d) s = .next s)) ∧
    (s.keeper.image = some k → s.stage = 3 →
      (s.findSup k = some (b, img) → ∃ t, exec .hbmTrained s = .next t ∧ t.keeper.supImage = some img ∧
        t.stage = (if s.bit .KPR_FW_STAT 0 22 = true then 5 else 4)) ∧
      (s.findSup k = none → ∃ t, exec .hbmTrained s = .next t ∧ t.stage = 5 ∧ t.bit .KPR_FW_STAT 0 22 = true)) ∧
    (s.romWaits = false → exec (.hostLoadedImageWrite i val) s = .next s ∧ exec .loadGo s = .next s ∧
      exec (.networkBootRetry (some img) none) s = .next s) ∧
    (s.romWaits = true → (∃ t, exec (.hostLoadedImageWrite i val) s = .next t ∧
      t.keeper.window = s.keeper.window.writeN (8 * i.val) (leBytes 8 val.toNat)) ∧
      (s.keeper.t0 = true → runs (exec .loadGo s) brought ∧
        (s.fld .KPR_BOOT 0 5 4 = 3 → runs (exec (.networkBootRetry (some img) none) s) img ∧
          runs (exec (.networkBootRetry none (some img)) s) img ∧
          ∃ t, exec (.networkBootRetry none none) s = .next t ∧ t.stage = 1)))

/-- R546, R552, R570, R571, R661: staging an image, activating staged banks, committing the security version, and the end of a flash
operation, with the completion each has; a reset held behind the operation takes effect when it ends.
Readings or choices of the model among them: log entry 51. -/
def Obligations.FirmwareCommands : Prop :=
  ∀ (s : State) (entry : Entry) (img : List Byte) (ok : Bool) (op : FlashOp) (held : ResetReq),
    let ws := entryWords entry
    let image := img.take (wf ws 2 31 0)
    let kind := imgField image 4 1
    let named (n : Nat) : Bool := bitAt (wordAt ws 1) n
    let queue := (s.func 4).queue
    let ready : Prop := placesOf ws = 1 ∧ 1 ≤ (s.func 4).placesFree ∧ s.bit .HIF_CTRL 4 0 = true ∧ s.keeper.loads.contains (4, ws) = false ∧
      s.restarting = false
    let answers (o : Host.Outcome State Fault Refusal) (status : Nat) : Prop := ∃ t, o = .next t ∧
      (t.func 4).queue = queue ++ [answerOf 4 1 status ws 0 0]
    (ready → s.keeper.flashOp = none →
      (cmdOk ws [2 ^ 64 - 4096, 2 ^ 32 - 1] = true → kind = 1 ∨ kind = 2 →
        (imageStatus s.svnFuse kind image = 0 → ∃ t, exec (.fwStage entry (some img)) s = .next t ∧ (t.func 4).queue = queue ∧
          t.isStaged (kind - 1) = false ∧ t.keeper.flashOp =
            some (.image (kind - 1) (1 - s.bootBank (kind - 1)) (imgWhole image) (cmdCid ws) (cmdTag ws))) ∧
        (imageStatus s.svnFuse kind image ≠ 0 → answers (exec (.fwStage entry (some img)) s) (imageStatus s.svnFuse kind image))) ∧
      (cmdOk ws [2 ^ 64 - 4096, 2 ^ 32 - 1] = true → answers (exec (.fwStage entry none) s) 0x50) ∧
      (cmdOk ws [7] = true → named 0 = true ∨ named 1 = true →
        ((named 0 = true ∧ s.isStaged 0 = false) ∨ (named 1 = true ∧ s.isStaged 1 = false) →
          answers (exec (.fwActivate entry) s) 0x56) ∧
        ((named 0 = true → s.isStaged 0 = true) → (named 1 = true → s.isStaged 1 = true) → named 2 = false →
          (pairs (s.nextKeeper (named 0)) (s.nextSup (named 1)) = true → ∃ t, exec (.fwActivate entry) s = .next t ∧
            (t.func 4).queue = queue ∧ t.keeper.flashOp = some (.record (s.bootWith (named 0) (named 1)) (cmdCid ws) (cmdTag ws))) ∧
          (pairs (s.nextKeeper (named 0)) (s.nextSup (named 1)) = false → answers (exec (.fwActivate entry) s) 0x52)))) ∧
    (ready → cmdOk ws [] = true → s.bit .KPR_FW_STAT 0 22 = false →
      let svn := min (imgSvn (s.keeper.image.getD [])) (imgSvn (s.keeper.supImage.getD []))
      ∃ t, exec (.fwCommit entry) s = .next t ∧ t.svnFuse = max s.svnFuse svn % 64 ∧
        (t.func 4).queue = queue ++ [answerOf 4 1 0 ws 0 0]) ∧
    (s.keeper.flashOp = none → exec (.flashOperationDone ok) s = .next s) ∧
    (s.keeper.flashOp = some op → s.keeper.held = some held → ∃ t, exec (.flashOperationDone ok) s = .next t ∧ t.keeper.flashOp = none ∧
      t.keeper.held = none ∧ (Map.wf s.regs = true → t.bit .RST_CAUSE 0 8 = true ∧ t.fld .RST_CAUSE 0 3 0 = held.code % 16)) ∧
    (s.keeper.held = none → s.bit .HIF_CTRL 4 0 = true → ∀ (cid tag : Nat) (t : State), exec (.flashOperationDone ok) s = .next t →
      let done (status : Nat) : Prop := t.keeper.flashOp = none ∧ (t.func 4).queue = queue ++
        [{ kind := 1, quad := 0, status := status, cid := cid, tag := tag, reserved := true }]
      (∀ kind < 2, ∀ bank < 2, s.keeper.flashOp = some (.image kind bank img cid tag) →
        (ok = true → done 0 ∧ t.keeper.flash.image kind bank = img ∧ t.isStaged kind = true) ∧ (ok = false → done 0x55)) ∧
      (∀ r, s.keeper.flashOp = some (.record r cid tag) → s.keeperNext = false →
        (ok = true → done 0 ∧ t.keeper.flash.boot = s.keeper.flash.boot.put r) ∧ (ok = false → done 0x55))) ∧
    ∃ t, exec (.flashOperationDone ok) s = .next t

/-- R572, R573, R661: a live update. The supervisors change bank at the switch epoch, the last of them makes the new image the running
one; the keeper asks its partition master for a window, restarts when it is granted, and runs the new image when the restart is done. The
lock of the set-up registers is set by firmware.
Readings or choices of the model among them: log entries 52 and 53. -/
def Obligations.LiveUpdates : Prop :=
  ∀ (s : State) (q : Fin 4) (kf t : U64) (id : BitVec 20) (x : LiveSt) (n : Nat),
    let open' := s.bit .TB_SNAP_STAT 0 6 || !s.time.arrived.isEmpty || s.time.release.isSome
    let asks (x : LiveSt) : Prop := x.keeper = true ∧ x.sup = false ∧ x.asked = false ∧ s.keeper.flashOp = none
    (s.keeper.live = some x →
      (x.sup = true → x.kf = none → ∃ t', exec (.liveSupervisorUpdate kf) s = .next t' ∧
        t'.keeper.live = some { x with kf := some (max kf.toNat s.bankEpoch) }) ∧
      (x.sup = true → x.kf = some n → x.changed.contains q.val = false → (s.runs q = true → n ≤ s.epoch q) →
        ((List.range 4).all (x.changed ++ [q.val]).contains = false → ∃ t', exec (.supervisorBankChange q) s = .next t' ∧
          t'.keeper.live = some { x with changed := x.changed ++ [q.val] } ∧ t'.regs = s.regs) ∧
        ((List.range 4).all (x.changed ++ [q.val]).contains = true → ∃ t', exec (.supervisorBankChange q) s = .next t' ∧
          t'.keeper.supImage = some (s.staged 1) ∧ t'.bootBank 1 = 1 - s.bootBank 1 ∧ t'.isStaged 1 = false ∧
          t'.keeper.flashOp = some (.record (s.bootWith false true) x.cid x.tag))) ∧
      (x.kf = some n → s.runs q = true → s.epoch q < n → exec (.supervisorBankChange q) s = .next s) ∧
      (asks x → s.ownMaster = false → ∃ t', exec (.liveKeeperUpdate t) s = .next t' ∧ t'.keeper.live = some { x with asked := true } ∧
        t'.out = s.out ++ [.message 20 [s.globalId]]) ∧
      (asks x → s.ownMaster = true → open' = false → s.keeper.window' ≤ t.toNat → x.restart = false → s.liveBlocked = false →
        ∃ t', exec (.liveKeeperUpdate t) s = .next t' ∧ t'.restarting = true) ∧
      (x.asked = true → x.restart = false → s.bit .HIF_CTRL 4 0 = true →
        (s.liveBlocked = false → ∃ t', exec (.updateWindowGrant true) s = .next t' ∧ t'.restarting = true) ∧
        (∃ t', exec (.updateWindowGrant false) s = .next t' ∧ t'.keeper.live = none ∧ t'.bit .KPR_FW_STAT 0 28 = false ∧
          (t'.func 4).queue = (s.func 4).queue ++
            [{ kind := 1, quad := 0, status := 0x54, cid := x.cid, tag := x.tag, reserved := true }])) ∧
      (x.restart = true → s.keeper.due = [] → ∃ t', exec .liveKeeperRestartDone s = .next t' ∧ t'.restarting = false ∧
        t'.keeper.image = some (s.staged 0) ∧ t'.bootBank 0 = 1 - s.bootBank 0 ∧ t'.isStaged 0 = false ∧
        t'.keeper.flashOp = some (.record (s.bootWith true false) x.cid x.tag))) ∧
    (s.restarting = false → (∃ k : Fin 4, (s.quad k).master = true) →
      (open' = false → s.keeper.window' ≤ t.toNat → ∃ t', exec (.updateWindowRequest id t) s = .next t' ∧
        t'.keeper.window' = t.toNat + 1000000000 ∧ t'.out = s.out ++ [.message 21 [id.toNat, 1]]) ∧
      (open' = true ∨ t.toNat < s.keeper.window' → ∃ t', exec (.updateWindowRequest id t) s = .next t' ∧
        t'.keeper.window' = s.keeper.window' ∧ t'.out = s.out ++ [.message 21 [id.toNat, 0]])) ∧
    (∃ t', exec .kprLockSet s = .next t' ∧ t'.bit .KPR_LOCK 0 0 = true ∧ t'.cores = s.cores ∧ t'.quads = s.quads)

/-! ### Power, cooling and low power -/

/-- R562, R563, R577: a quadrant that runs nothing sleeps and wakes, deep idle is entered when all four sleep and left by turning its
domains on; an entry the state does not allow is refused and marked.
R588, R589, R593, R679, R681: a VIN48 shutdown takes a device cold reset; the loss of the auxiliary supply leaves the flash, the fuses
and what the board drives; a domain's fault is marked, and what the domain carried is held in reset, cordoned, off or lost.
Readings or choices of the model among them: log entries 33, 35 and 47. -/
def Obligations.LowPowerAndFaults : Prop :=
  (∀ (s : State) (q : Fin 4),
    let busy := s.runs q || s.bit .ING_STAT q 0
    let deep := s.bit .PWR_LP_STAT 0 4
    let dom (t : State) (d : Nat) : Nat := t.fld .PWR_DOMAIN_STAT d 1 0
    ((s.quad q).asleep = true → exec (.quadrantSleep q) s = .next s) ∧
    ((s.quad q).asleep = false →
      (busy = true → exec (.quadrantSleep q) s = .next (s.setBit .PWR_LP_STAT 0 5 true)) ∧
      (busy = false → ∃ t, exec (.quadrantSleep q) s = .next t ∧ (t.quad q).asleep = true ∧ t.bit .PWR_LP_STAT 0 q = true ∧
        t.bit .PWR_LP_CTRL 0 q = true ∧ (∀ d ∈ sleepDomains q, dom t d = 3) ∧ ∀ p, (t.core p).sram = (s.core p).sram)) ∧
    ((s.quad q).asleep = true → deep = false → ∃ t, exec (.quadrantWake q) s = .next t ∧ (t.quad q).asleep = false ∧
      (t.quad q).mustCheck = true ∧ t.bit .PWR_LP_STAT 0 q = false ∧ (∀ d ∈ sleepDomains q, dom t d = 2) ∧ t.cores = s.cores) ∧
    ((s.quad q).asleep = false ∨ deep = true → exec (.quadrantWake q) s = .next s) ∧
    (deep = false →
      ((∀ k : Fin 4, (s.quad k).asleep = true) → ∃ t, exec .deepIdleEnter s = .next t ∧ t.bit .PWR_LP_STAT 0 4 = true ∧
        t.bit .PWR_LP_CTRL 0 4 = true ∧ (∀ p, (t.core p).sram = []) ∧ (∀ d ∈ deepDomains, dom t d = 0) ∧
        ∀ p : Fin 12, t.linkState p = 0 ∧ t.bit .LNK_CTRL p 0 = s.bit .LNK_CTRL p 0) ∧
      ((s.quad q).asleep = false → exec .deepIdleEnter s = .next (s.setBit .PWR_LP_STAT 0 5 true)) ∧
      exec .deepIdleExit s = .next s) ∧
    (deep = true → exec .deepIdleEnter s = .next s ∧ ∃ t, exec .deepIdleExit s = .next t ∧ t.bit .PWR_LP_STAT 0 4 = false ∧
      t.bit .PWR_LP_CTRL 0 4 = false)) ∧
  (∀ (s : State) (v : BitVec 16) (d : Fin 40) (t : U64) (p : Fin 12) (k : Fin 2),
    let n := d.val
    let fault (holds : State → Prop) : Prop := ∃ t', exec (.domainFault d t) s = .next t' ∧ holds t'
    let marked (t' : State) : Prop := t'.bit .PWR_DOMAIN_STAT d 2 = true ∧ t'.fld .PWR_DOMAIN_STAT d 1 0 = 0 ∧
      t'.keeper.side.causes.testBit 4 = true
    (3800 ≤ v.toNat ∧ v.toNat ≤ 6200 → exec (.vinShutdown v) s = exec (.vinOutOfRange v) s) ∧
    (v.toNat < 3800 ∨ 6200 < v.toNat → s.keeper.flashOp = none → Map.wf s.regs = true → ∃ t', exec (.vinShutdown v) s = .next t' ∧
      t'.cores = [] ∧ t'.quads = [] ∧ t'.funcs = [] ∧ t'.fld .RST_CAUSE 0 6 4 = 0 ∧ t'.keeper.flash = s.keeper.flash) ∧
    (∃ t', exec .vauxLoss s = .next t' ∧ t'.keeper.powered = false ∧ t'.cores = [] ∧ t'.quads = [] ∧ t'.funcs = [] ∧
      t'.svnFuse = s.svnFuse ∧ t'.keeper.links = s.keeper.links ∧ (s.keeper.flashOp = none → t'.keeper.flash = s.keeper.flash)) ∧
    (n < 32 → s.restarting = false → Map.wf s.regs = true → fault (fun t' => marked t' ∧ (t'.quad (n / 8)).heldReset = true ∧
      (t'.quad (n / 8)).plan = none ∧ t'.bit .KPR_QUAD_STAT (n / 8) 1 = true ∧ (n % 8 = 0 → (t'.quad (n / 8)).hbm = []))) ∧
    (n = 32 → fault (fun t' => t'.keeper.powered = false ∧ t'.cores = [])) ∧
    (n = 33 → s.keeper.flashOp = none → Map.wf s.regs = true → fault (fun t' => t'.fld .RST_CAUSE 0 3 0 = 7 ∧ t'.cores = [])) ∧
    (n = 34 → fault (fun t' => marked t' ∧ t'.stage = 5 ∧ t'.bit .KPR_FW_STAT 0 22 = true)) ∧
    (35 ≤ n → n ≤ 37 → p.val / 4 = n - 35 → fault (fun t' => marked t' ∧ t'.linkState p = 0 ∧ t'.bit .LNK_CTRL p 0 = false)) ∧
    (n = 38 → fault (fun t' => marked t' ∧ t'.bit .ING_PORT_STAT k 0 = false ∧ 38 ∈ t'.power.lost)) ∧
    (n = 39 → fault (fun t' => marked t' ∧ t'.trace.mems = [] ∧ 39 ∈ t'.power.lost)))

/-- R589, R594, R596 to R598, R606 to R608: the current governor follows demand within its slew, down through ballast and up without
it, and lowers the device cap by one step while demand rises faster; the ceiling governor steps the cap down above the ceiling and up
after 10 ms below 95 % of it; the input monitor marks a voltage outside its limits.
Readings or choices of the model among them: log entries 46 and 50. -/
def Obligations.CurrentAndCeiling : Prop :=
  ∀ (s : State) (demand : BitVec 24) (phases : List (BitVec 16)) (watts v : BitVec 16),
    let d := demand.toNat
    let last := s.power.current
    let fast : Prop := last + s.slew < d
    let w := watts.toNat
    let c := s.ceiling
    let marks (t : State) : Prop := t.fld .PWR_IN_STAT 0 15 0 = v.toNat ∧
      (v.toNat < 3900 → t.bit .PWR_IN_STAT 0 32 = true ∧ t.keeper.side.causes.testBit 3 = true) ∧
      (6100 < v.toNat → t.bit .PWR_IN_STAT 0 33 = true ∧ t.keeper.side.causes.testBit 3 = true)
    (∃ t, exec (.governorSample demand phases) s = .next t ∧ t.power.current = d + t.power.ballast ∧
      (s.bit .PWR_GOV_CFG 0 0 = false → t.power.ballast = 0) ∧
      (s.bit .PWR_GOV_CFG 0 0 = true → s.power.target = 0 → t.power.current = max d (last - s.slew)) ∧
      (fast → t.power.back = min 40 (s.power.back + 1) ∧ t.bit .PWR_GOV_STAT 0 38 = true ∧
        t.fld .PWR_GOV_STAT 0 37 32 = 40 - (min 40 (s.power.back + 1) + s.power.ceil)) ∧
      (¬ fast → s.power.calm + 1 ≠ 100 → t.power.back = s.power.back ∧ t.power.calm = s.power.calm + 1 ∧ t.cores = s.cores) ∧
      (¬ fast → s.power.calm + 1 = 100 → t.power.back = s.power.back - 1 ∧ t.power.calm = 0)) ∧
    (∃ t, exec (.ceilingCompare watts v) s = .next t ∧ marks t ∧ t.fld .PWR_IN_STAT 0 31 16 = w ∧
      (c < w → t.power.ceil = min 40 (s.power.ceil + 1) ∧ t.bit .PWR_GOV_STAT 0 39 = true ∧ t.power.below = 0) ∧
      (w ≤ c → 95 * c ≤ 100 * w → t.power.ceil = s.power.ceil ∧ t.power.below = 0) ∧
      (w ≤ c → 100 * w < 95 * c → s.power.below + 1 < 10 → t.power.ceil = s.power.ceil ∧ t.power.below = s.power.below + 1) ∧
      (w ≤ c → 100 * w < 95 * c → 10 ≤ s.power.below + 1 → t.power.ceil = s.power.ceil - 1 ∧ t.power.below = 0)) ∧
    (∃ t, exec (.vinOutOfRange v) s = .next t ∧ marks t ∧ t.cores = s.cores ∧ t.quads = s.quads)

/-- R599 to R604, R610, R611: a sensor's reading with its peak and its limit marks; a failed self-check; two readings in a row at the trip
limit, which turn the domains off, latch and reset the device; the latch cleared when the diodes are cool; and a thermal scope's cap,
lowered at the limit and raised 3 °C below it.
Readings or choices of the model among them: log entry 50. -/
def Obligations.Thermal : Prop :=
  ∀ (s : State) (n : Fin 64) (temp : BitVec 16) (k : Fin 21),
    let x := temp.toInt
    let hits := (s.throttleAt n).any (fun l => decide (l ≤ x))
    let cap (t : State) : Nat := Map.get (α := Nat) t.power.caps k 40
    let ns := (scopeSensors k).filter (fun n => s.bit .PWR_TEMP n 32)
    let within (margin : Int) : Bool := ns.any (fun n => (s.throttleAt n).any (fun l => decide (l - margin ≤ s.temp n)))
    (x < tripAt n → ∃ t, exec (.sensorReading n temp true) s = .next t ∧ t.fld .PWR_TEMP n 15 0 = temp.toNat ∧
      t.bit .PWR_TEMP n 32 = true ∧ t.bit .PWR_TEMP n 33 = hits ∧
      sext 16 (t.fld .PWR_TEMP n 31 16) = max x (sext 16 (s.fld .PWR_TEMP n 31 16)) ∧ t.power.hot.contains n.val = false) ∧
    (tripAt n ≤ x → s.power.hot.contains n.val = false → ∃ t, exec (.sensorReading n temp true) s = .next t ∧
      t.power.hot = n.val :: s.power.hot ∧ t.power.tripped = s.power.tripped) ∧
    (tripAt n ≤ x → s.power.hot.contains n.val = true → s.keeper.flashOp = none → Map.wf s.regs = true → ∃ t,
      exec (.sensorReading n temp true) s = .next t ∧ t.power.tripped = true ∧ t.fld .RST_CAUSE 0 3 0 = 6 ∧ t.cores = [] ∧
      t.fld .PWR_THERM_STAT 0 5 0 = n ∧ t.bit .PWR_THERM_STAT 0 6 = true ∧ t.keeper.side.causes.testBit 1 = true) ∧
    (∃ t, exec (.sensorReading n temp false) s = .next t ∧ t.bit .PWR_TEMP n 32 = false ∧ t.power.invalid.contains n.val = true ∧
      t.fld .PWR_TEMP n 15 0 = s.fld .PWR_TEMP n 15 0 ∧ t.keeper.side.causes.testBit 0 = true) ∧
    ((∀ d ∈ [60, 61, 62, 63], s.bit .PWR_TEMP d 32 = true ∧ s.temp d < 80 * 256) → ∃ t, exec .tripLatchClear s = .next t ∧
      t.power.tripped = false ∧ t.regs = s.regs) ∧
    ((∃ d ∈ [60, 61, 62, 63], ¬ (s.bit .PWR_TEMP d 32 = true ∧ s.temp d < 80 * 256)) → exec .tripLatchClear s = .next s) ∧
    (∃ t, exec (.tempPeakClr n) s = .next t ∧ t.fld .PWR_TEMP n 31 16 = s.fld .PWR_TEMP n 15 0 ∧
      t.fld .PWR_TEMP n 15 0 = s.fld .PWR_TEMP n 15 0) ∧
    (ns ≠ [] →
      (within 0 = true → 0 < cap s → ∃ t, exec (.thermalCapStep k) s = .next t ∧ cap t = cap s - 1 ∧
        t.fld .PWR_THERM_STAT 0 47 32 = satAdd 65535 (s.fld .PWR_THERM_STAT 0 47 32) 1 ∧ t.keeper.side.causes.testBit 0 = true) ∧
      (within 0 = true → cap s = 0 → exec (.thermalCapStep k) s = .next s) ∧
      (within 0 = false → within (3 * 256) = true → exec (.thermalCapStep k) s = .next s) ∧
      (within (3 * 256) = false → within 0 = false → cap s ≠ 40 → ∃ t, exec (.thermalCapStep k) s = .next t ∧ cap t = cap s + 1) ∧
      (within (3 * 256) = false → within 0 = false → cap s = 40 → exec (.thermalCapStep k) s = .next s)) ∧
    (ns = [] → exec (.thermalCapStep k) s = .next s)

/-! ### Observation -/

/-- R618 to R625, R634, R635: a selected record is put into its memory or counted as dropped; a trigger of an armed trace is recorded
with its drip and marks the memories; the window's end closes and freezes them; UNFREEZE and ARM make them ready again; and the port
sends the frame of the quadrant whose turn it is on four lanes.
Readings or choices of the model among them: log entry 57. -/
def Obligations.EchoTrace : Prop :=
  ∀ (s : State) (q : Fin 4) (w0 w1 w2 w3 t : U64) (waited : BitVec 4) (m : TraceMem) (k : Nat),
    let h := putBits w0 9 8 q
    let unit := bitsOf h 17 10
    let src := traceSource (bitsOf h 7 0) unit
    let taken : Bool := s.captures q && s.traceSelects (bitsOf h 7 0) unit && !(s.mem q).closed &&
      !((s.mem q).marked && decide (s.traceEnd < w1.toNat))
    let put := (s.mem q).put s.streaming [h, w1, w2, w3]
    let drops (t' : State) : Prop := t'.fld .ECHO_DROP q 63 0 = (s.fld .ECHO_DROP q 63 0 + 1) % 2 ^ 64 ∧
      ((t'.mem q).drops.map (·.1)).contains src = true ∧ (t'.mem q).ents = (s.mem q).ents
    let l := takePlaces 127 (s.traceWaiting k)
    let no := s.trace.frameNo
    (taken = false → ∀ lost, exec (.traceRecord q w0 w1 w2 w3 lost) s = .next s) ∧
    (taken = true → 6 ≤ bitsOf h 7 0 → ∃ t', exec (.traceRecord q w0 w1 w2 w3 true) s = .next t' ∧ drops t') ∧
    (taken = true → (s.mem q).drops = [] → s.traceMatches h w2 = false →
      (put = some m → ∃ t', exec (.traceRecord q w0 w1 w2 w3 false) s = .next t' ∧ t'.mem q = m ∧ t'.regs = s.regs) ∧
      (put = none → ∃ t', exec (.traceRecord q w0 w1 w2 w3 false) s = .next t' ∧ drops t')) ∧
    (s.bit .ECHO_STAT 0 0 = true → s.frozen q = false → ∃ t', exec (.swTrigger t) s = .next t' ∧ t'.reg .ECHO_TRIG_AT 0 = t ∧
      t'.bit .ECHO_STAT 0 0 = false ∧ t'.bit .ECHO_STAT 0 1 = true ∧ (t'.mem q).marked = true) ∧
    (s.bit .ECHO_STAT 0 0 = false → ∃ t', exec (.swTrigger t) s = .next t' ∧ t'.trace = s.trace ∧ t'.reg .ECHO_STAT 0 = s.reg .ECHO_STAT 0) ∧
    (∃ t', exec .unfreeze s = .next t' ∧ t'.frozen q = false ∧ t'.mem q = (s.mem q).rearm) ∧
    (∃ t', exec .arm s = .next t' ∧ t'.frozen q = false ∧ t'.mem q = (s.mem q).rearm ∧ t'.bit .ECHO_STAT 0 0 = true ∧
      t'.bit .ECHO_STAT 0 1 = false ∧ t'.reg .ECHO_DROP q = 0) ∧
    (s.bit .ECHO_STAT 0 1 = true → s.traceEnd ≤ t.toNat → (s.mem q).marked = true → (s.mem q).closed = false → s.streaming = false →
      ∃ t', exec (.traceWindowEnd t) s = .next t' ∧ (t'.mem q).closed = true ∧ t'.frozen q = true ∧ (t'.mem q).drops = []) ∧
    (s.bit .ECHO_STAT 0 1 = false ∨ t.toNat < s.traceEnd → ∃ t', exec (.traceWindowEnd t) s = .next t' ∧ t'.trace = s.trace ∧
      t'.out = s.out) ∧
    (s.bit .ECHO_CTRL 0 0 = true → s.power.lost.contains 39 = false →
      (s.nextFrame waited.toNat = none → exec (.echoFrame waited) s = .next s) ∧
      (s.nextFrame waited.toNat = some k → ∃ t', exec (.echoFrame waited) s = .next t' ∧ t'.trace.frameNo = no + 1 ∧ t'.trace.turn = k ∧
        t'.out = s.out ++ (List.range 4).map (fun lane => .echo (laneBytes (s.traceFrame k no l) no lane))))

/-- R21, R614 to R617, R625, R631: a telemetry sample is taken at a multiple of the period alone, and one with no group selected writes its
header to the ring; TEL_RING sets the ring up, and TRACE_READ copies a frozen memory.
Readings or choices of the model among them: log entries 57 and 58. -/
def Obligations.TelemetryAndTraceRead : Prop :=
  ∀ (s : State) (t : U64) (volts : List (BitVec 16)) (optics : List (List (BitVec 16) × List (BitVec 16))) (entry : Entry) (g : TelRing),
    let period := s.fld .TEL_CFG 0 15 0 * 1024
    let ws := entryWords entry
    let q := wf ws 1 1 0
    let fs := (s.traceFrames q (s.mem q).ents.length 0 (s.mem q).ents).take (wf ws 3 31 0 / 4096)
    let queue := (s.func 4).queue
    let answers (o : Host.Outcome State Fault Refusal) (status : Nat) (holds : State → Prop) : Prop := ∃ t', o = .next t' ∧ holds t' ∧
      (t'.func 4).queue = queue ++ [answerOf 4 1 status ws 0 0]
    (period = 0 ∨ t.toNat % period ≠ 0 → ∃ t', exec (.telemetrySample t volts optics) s = .next t' ∧ t'.trace = s.trace ∧ t'.out = s.out) ∧
    (period ≠ 0 → t.toNat % period = 0 → s.fld .TEL_CFG 0 21 17 = 0 → s.bit .TEL_CFG 0 16 = false → s.trace.lost = 0 →
      s.trace.tel = some g → g.written - g.consumed < g.size → ∃ t' bytes, exec (.telemetrySample t volts optics) s = .next t' ∧
        t'.trace.tel = some { g with written := g.written + 1 } ∧ bytes.length = 64 ∧
        t'.out = s.out ++ [.hostWrite 4 (g.base + g.written % g.size * 64) bytes] ∧
        t'.fld .TEL_STAT 0 63 32 = (s.fld .TEL_STAT 0 63 32 + 1) % 2 ^ 32) ∧
    (placesOf ws = 1 → 1 ≤ (s.func 4).placesFree → s.bit .HIF_CTRL 4 0 = true →
      (cmdOk ws [2 ^ 64 - 1, 2 ^ 17 - 1, 2 ^ 64 - 1] = true →
        (ringSizeOk (wf ws 2 16 0) = true → wf ws 1 11 0 = 0 → wf ws 3 2 0 = 0 → answers (exec (.telRing entry) s) 0 (fun t' =>
          t'.bit .TEL_STAT 0 0 = true ∧ t'.trace.tel =
            some { base := (wordAt ws 1).toNat, size := wf ws 2 16 0, consAddr := (wordAt ws 3).toNat })) ∧
        (ringSizeOk (wf ws 2 16 0) = false ∨ wf ws 1 11 0 ≠ 0 ∨ wf ws 3 2 0 ≠ 0 → answers (exec (.telRing entry) s) 0x5B (fun t' =>
          t'.trace = s.trace))) ∧
      (cmdOk ws [3, 2 ^ 64 - 1, 2 ^ 32 - 1] = true → wf ws 2 11 0 = 0 →
        (s.frozen q = true → answers (exec (.traceRead entry) s) 0 (fun t' => t'.out = s.out ++
          fs.zipIdx.map (fun f => .hostWrite 4 ((wordAt ws 2).toNat + 4096 * f.2) f.1))) ∧
        (s.frozen q = false → answers (exec (.traceRead entry) s) 0x5E (fun t' => t'.out = s.out))))

/-- R626 to R629, R631: a dump of a stable tensor waits for its step or epoch and completes when its pieces are written; a hang report
whose edges lead to no other device is written at once, one that waits for replies when the last has come; and a query is answered with
this device's edges.
Readings or choices of the model among them: log entries 56 and 59. -/
def Obligations.DumpsAndHangs : Prop :=
  ∀ (s : State) (f : Fin 5) (entry : Entry) (t node : U64) (id : BitVec 20) (p : Plan) (e : List Byte) (d : DumpSt) (h : HangSt) (cid tag : Nat),
    let ws := entryWords entry
    let q := wf ws 1 41 40
    let sym := wf ws 1 31 0
    let step := (wordAt ws 2).toNat
    let answer (fn cid tag status : Nat) : Completion := { kind := 1, quad := fn % 4, status := status, cid := cid, tag := tag, reserved := true }
    let answers (o : Host.Outcome State Fault Refusal) (fn status : Nat) (holds : State → Prop) : Prop := ∃ t', o = .next t' ∧ holds t' ∧
      (t'.func fn).queue = (s.func fn).queue ++ [answerOf fn 1 status ws 0 0]
    let room (fn : Nat) : Prop := placesOf ws = 1 ∧ 1 ≤ (s.func fn).placesFree ∧ s.bit .HIF_CTRL fn 0 = true
    let at'' := s.at' t.toNat
    (room f → cmdOk ws [2 ^ 42 - 1, 2 ^ 64 - 1, 2 ^ 64 - 1, 2 ^ 32 - 1] = true → f.val < 4 → q = f →
      (s.trace.dump.isSome = true → answers (exec (.dump f entry) s) f 0x5F (fun t' => t'.trace = s.trace)) ∧
      (s.trace.dump = none → wf ws 3 11 0 = 0 → (s.quad q).plan = none → answers (exec (.dump f entry) s) f 0x58 (fun t' =>
        t'.trace = s.trace)) ∧
      (s.trace.dump = none → wf ws 3 11 0 = 0 → (s.quad q).plan = some p → p.symbols.find? (fun e => isTensor e sym) = some e →
        bytesAt e 8 1 % 2 = 1 → s.runs q = true → bitAt (wordAt ws 1) 39 = false → s.epoch q ≤ step → dumpSize (p.pieces sym) ≤ wf ws 4 31 0 →
        ∃ t', exec (.dump f entry) s = .next t' ∧ (t'.func f).queue = (s.func f).queue ∧ t'.trace.dump =
          some { fn := f, cid := cmdCid ws, tag := cmdTag ws, quad := q, addr := (wordAt ws 3).toNat, symbol := sym, slot := none,
                 step := step, stable := true, back := (s.quad q).rule.variant })) ∧
    (s.trace.dump = none → exec .dumpCopyDone s = .next s) ∧
    (s.trace.dump = some d → d.stable = true → s.bit .HIF_CTRL d.fn 0 = true →
      ((s.quad d.quad).plan = none → ∃ t', exec .dumpCopyDone s = .next t' ∧ t'.trace.dump = none ∧
        (t'.func d.fn).queue = (s.func d.fn).queue ++ [answer d.fn d.cid d.tag 0x5A]) ∧
      ((s.quad d.quad).plan = some p → d.copying = true → ∃ t' l, exec .dumpCopyDone s = .next t' ∧ t'.trace.dump = none ∧
        (t'.func d.fn).queue = (s.func d.fn).queue ++ l ++ [answer d.fn d.cid d.tag 0])) ∧
    (room 4 → cmdOk ws [2 ^ 64 - 1, 2 ^ 25 - 1] = true →
      (wf ws 1 5 0 ≠ 0 → answers (exec (.hangReport entry t) s) 4 0x5B (fun t' => t'.trace = s.trace)) ∧
      (wf ws 1 5 0 = 0 → s.trace.hang.isSome = true → answers (exec (.hangReport entry t) s) 4 0x5F (fun t' => t'.trace = s.trace)) ∧
      (wf ws 1 5 0 = 0 → s.trace.hang = none → bitAt (wordAt ws 2) 24 = false →
        (∀ x ∈ at''.hangEdges, edgeTo x % 2 ^ 20 = at''.globalId) → answers (exec (.hangReport entry t) s) 4 0 (fun t' =>
          t'.trace.hang = none ∧ ∃ bytes, t'.out = s.out ++ [.hostWrite 4 (wordAt ws 1).toNat bytes]))) ∧
    (s.restarting = false → ∃ l, exec (.hangQuery id node) s = .next (s.send (.message 23 (id.toNat :: l)))) ∧
    (s.restarting = true → exec (.hangQuery id node) s = .next s) ∧
    (∀ r : Option (List (U64 × U64 × U64 × U64)),
      (s.trace.hang = none → exec (.hangQueryReply id r) s = .next s) ∧
      (s.trace.hang = some h → h.asked = [(id.toNat, 1)] → h.cmd = some (cid, tag) → s.bit .HIF_CTRL 4 0 = true → r = none ∨ r = some [] →
        ∃ t', exec (.hangQueryReply id r) s = .next t' ∧ t'.trace.hang = none ∧
          (t'.func 4).queue = (s.func 4).queue ++ [answer 4 cid tag 0]))

/-- R613, R630, R631, R635, R680: a nonce read; an unlock with an authentic block for this device, its nonce and a level 1 or 2, and every
other block refused with the nonce spent; the lock; a core counter's selection; and the test access port's edges and its reset.
Readings or choices of the model among them: log entries 89 and 92. -/
def Obligations.DebugAccess : Prop :=
  ∀ (s : State) (entry : Entry) (b : List Byte) (v : Fin 256) (n : Fin 16) (val : U64) (p : Nat) (tms tdi : Bool) (ns : BitVec 32),
    let ws := entryWords entry
    let field (o n : Nat) : Nat := ofLe ((b.drop o).take n)
    let key := ((s.keeper.flash.install.use).map (·.debugKey)).getD []
    let good : Prop := b.length = 128 ∧ field 0 8 = (s.reg .KPR_FACTORY_ID 0).toNat ∧ s.trace.nonce = some (field 8 8) ∧
      1 ≤ field 16 1 ∧ field 16 1 ≤ 2 ∧ field 17 1 < 16 ∧ (b.drop 18).take 14 = List.replicate 14 0 ∧
      ecdsaOk key (b.drop 32) (sha384 (b.take 32)) = true
    let level (t : State) : Nat := t.fld .SEC_DBG_STAT 0 1 0
    let answered (t : State) (status : Nat) : Prop := ∃ l, (t.func 4).queue = (s.func 4).queue ++ l ++ [answerOf 4 1 status ws 0 0]
    (∃ t w, exec .secDbgNonceRead s = .next t ∧ t.trace.nonce = some w ∧ t.out = s.out ++ [.readData "SEC_DBG_NONCE" (leBytes 8 w)]) ∧
    (placesOf ws = 1 → 1 ≤ (s.func 4).placesFree → s.bit .HIF_CTRL 4 0 = true →
      (cmdOk ws [2 ^ 64 - 1] = true →
        (good → ∃ t, exec (.debugUnlock entry (some b)) s = .next t ∧ level t = field 16 1 ∧ t.fld .SEC_DBG_STAT 0 5 2 = field 17 1 ∧
          t.trace.nonce = none ∧ answered t 0) ∧
        (¬ good → ∃ t, exec (.debugUnlock entry (some b)) s = .next t ∧ level t = level s ∧ t.bit .SEC_DBG_STAT 0 6 = true ∧
          t.trace.nonce = none ∧ answered t 0x5C) ∧
        (∃ t, exec (.debugUnlock entry none) s = .next t ∧ answered t 0x38)) ∧
      (cmdOk ws [] = true → ∃ t, exec (.debugLock entry) s = .next t ∧ level t = 0 ∧ answered t 0)) ∧
    (s.phys v = some p → ∃ t, exec (.pmcSelWrite v n val) s = .next t ∧ (t.core p).reg .CORE_PMC_SEL n = val &&& 0x1FFF ∧
      (t.core p).pmc = Map.del (α := Nat) (s.core p).pmc n ∧ (t.core p).seq = (s.core p).seq ∧ t.regs = s.regs) ∧
    (s.keeper.powered = true →
      (∃ t, exec (.tckEdge true tms tdi) s = .next t ∧ t.tap.state = s.tap.state.next tms ∧
        (s.tap.state = .shiftDr ∨ s.tap.state = .shiftIr → t.tap.shift = s.tap.shift.drop 1 ++ [tdi]) ∧
        (s.tap.state.next tms = .reset → t.tap.instr = none)) ∧
      (∃ t, exec (.tckEdge false tms tdi) s = .next t ∧ t.tap.state = s.tap.state ∧
        (s.tap.state = .shiftDr ∨ s.tap.state = .shiftIr → t.tap.tdo = some (s.tap.shift.headD false)) ∧
        (s.tap.state ≠ .shiftDr → s.tap.state ≠ .shiftIr → t.tap.tdo = none) ∧
        (s.tap.state = .updateIr → Config.tapBoundary s.tap.shift = true ∨ 2 ≤ level s → t.tap.instr = some s.tap.shift) ∧
        (s.tap.state = .updateIr → Config.tapBoundary s.tap.shift = false → level s < 2 → t.tap.instr = none))) ∧
    (s.keeper.powered = false → ∀ rising, exec (.tckEdge rising tms tdi) s = .next s) ∧
    (100 ≤ ns.toNat → ∃ t, exec (.trstNLow ns) s = .next t ∧ t.tap = { s.tap with state := .reset, instr := none, tdo := none }) ∧
    (∃ t, exec (.trstNLow ns) s = .next t ∧ t.regs = s.regs ∧ t.cores = s.cores)

/-! ### The loader and register writes -/

/-- R641 to R643, R645, R646, R648, R649, R506: a plan image that passes the loader's checks is taken by its quadrant and one for an
occupied quadrant is refused; a start waits at the master, is refused without one or while DIAG is set in a core it would run, and ends with
0x7E when its barrier does not complete in 10 s; an unload of a quadrant that does not run drops its plan, one of a running quadrant waits
for its stop, and one without FORCE is refused while a slot is in use.
Readings or choices of the model among them: log entries 64 and 66. -/
def Obligations.PlanCommands : Prop :=
  ∀ (s : State) (f : Fin 5) (entry : Entry) (img : List Byte) (placement : List (BitVec 32)) (tag rtt : BitVec 16) (t : U64) (p : Plan)
    (mesh : Map Nat) (x : StartSt) (id : BitVec 20) (port : Fin 12) (scale : Fin 64),
    let ws := entryWords entry
    let q := wf ws 4 33 32
    let role := wf ws 4 31 0
    let image := img.take (wf ws 2 39 0)
    let queue := (s.func f).queue
    let answers (o : Host.Outcome State Fault Refusal) (status : Nat) (holds : State → Prop) : Prop := ∃ t', o = .next t' ∧ holds t' ∧
      (t'.func f).queue = queue ++ [answerOf f 1 status ws 0 0]
    let load := exec (.planLoad f entry (some img) placement tag) s
    let holds (k : Nat) : Prop := ∃ y m, (s.quad k).plan = some y ∧ y.me = some m ∧ m.master = true ∧ y.standby = false ∧ s.runs k = false
    let full (k : Nat) : Prop := ∃ n : Fin 128, ((s.quad k).slot n).state ≠ 0
    let force := wf ws 1 0 0 = 1
    (placesOf ws = 1 → 1 ≤ (s.func f).placesFree → s.bit .HIF_CTRL f 0 = true →
      (s.keeper.loads.contains (f.val, ws) = false → cmdOk ws [2 ^ 64 - 4096, 2 ^ 40 - 1, 2 ^ 64 - 64, 2 ^ 34 - 1, 2 ^ 64 - 1] = true →
        (f.val < 4 → q = f) →
        answers (exec (.planLoad f entry none placement tag) s) 0x38 (fun t' => t'.quads = s.quads) ∧
        ((s.quad q).mustCheck = false → (s.quad q).plan.isSome = true → answers load 0x7C (fun t' => t'.quads = s.quads)) ∧
        ((s.quad q).mustCheck = false → (s.quad q).plan = none → s.runs q = false → s.tagClash (BitVec.ofNat 64 (bytesAt image 24 8)) = false →
          (s.reserve f 1).judgeLoad q image role (placement.map (fun w => w.toNat % 2 ^ 20)) tag.toNat = .inl (p, mesh) →
          ∃ t', load = .next t' ∧ (t'.quad q).plan = some { p with loadFn := f, reportAt := (wordAt ws 3).toNat } ∧ t'.runs q = false ∧
            t'.epoch q = 0 ∧ (p.standby = true → (t'.func f).queue = queue ++ [answerOf f 1 0 ws 0 0]))) ∧
      (cmdOk ws [0, 0, 2 ^ 64 - 64] = true →
        (f.val < 4 → holds f → s.keeper.start = none →
          (s.diagOf f = none → ∃ t', exec (.planStart f entry t) s = .next t' ∧ (t'.func f).queue = queue ∧
            t'.keeper.start = some { quad := f, fn := f, cid := cmdCid ws, tag := cmdTag ws, report := (wordAt ws 3).toNat, since := t.toNat }) ∧
          (∀ y, s.diagOf f = some y → answers (exec (.planStart f entry t) s) y.2.status (fun t' => t'.keeper = s.keeper))) ∧
        ((∀ k : Fin 4, ¬ holds k) ∨ s.keeper.start.isSome = true → answers (exec (.planStart f entry t) s) 0x7C (fun t' =>
          t'.keeper = s.keeper))) ∧
      (cmdOk ws [1, 0, 0, 3 * 2 ^ 32] = true → (f.val < 4 → q = f) →
        ((s.quad q).plan = none → answers (exec (.planUnload f entry) s) 0x7C (fun t' => t'.quads = s.quads)) ∧
        ((s.quad q).plan.isSome = true → (s.quad q).unload = none → ¬ force → full q →
          answers (exec (.planUnload f entry) s) 0x7F (fun t' => t'.quads = s.quads)) ∧
        ((s.quad q).plan.isSome = true → (s.quad q).unload = none → s.keeper.start = none → force ∨ ¬ full q → s.runs q = true →
          ∃ t', exec (.planUnload f entry) s = .next t' ∧ (t'.func f).queue = queue ∧
            (t'.quad q).unload = some (decide force, f.val, cmdCid ws, cmdTag ws)) ∧
        ((s.quad q).plan.isSome = true → (s.quad q).unload = none → s.keeper.start = none → ¬ full q → (s.quad q).adm = [] →
          s.runs q = false → answers (exec (.planUnload f entry) s) 0 (fun t' => (t'.quad q).plan = none ∧ t'.runs q = false)))) ∧
    (s.keeper.start = some x →
      (x.released = false → x.since + 10000000000 ≤ t.toNat → s.bit .HIF_CTRL x.fn 0 = true → ∃ t',
        exec (.startBarrierTimeout t) s = .next t' ∧ t'.keeper.start = none ∧ t'.time.arrived = [] ∧ t'.bit .TB_SNAP_STAT 0 6 = false ∧
        (t'.func x.fn).queue = (s.func x.fn).queue ++
          [{ kind := 1, quad := x.fn % 4, status := 0x7E, cid := x.cid, tag := x.tag, reserved := true }]) ∧
      (x.released = true ∨ t.toNat < x.since + 10000000000 → ∃ t', exec (.startBarrierTimeout t) s = .next t' ∧ t'.keeper = s.keeper)) ∧
    (∃ t', exec (.linkRttReport id port rtt scale) s = .next t' ∧
      t'.keeper.rtts = Map.set (α := Nat) s.keeper.rtts (id.toNat * 16 + port) (rtt.toNat * 64 + scale) ∧
      ((∀ k : Fin 4, (s.quad k).master = false) → t'.out = s.out ∧ t'.regs = s.regs))

/-- R13 to R15, R656 to R662: a write of 8 aligned bytes through the management function changes, of a register with no rule of its own,
the bits its access codes give and no other register; a write of another length or alignment, or to a register that is not reached, changes
nothing; a locked set-up field keeps its value; and a sequencer's entry is written only while it is stopped or faulted.
Readings or choices of the model among them: log entry 95. -/
def Obligations.RegisterWrites : Prop :=
  ∀ (s : State) (f : Fin 5) (off : BitVec 32) (val t : U64) (len : Fin 9) (r : Reg) (i j p : Nat),
    let write (f : Fin 5) := exec (.registerWrite f off val 8 t) s
    let quiet (t' : State) : Prop := t'.cores = s.cores ∧ t'.quads = s.quads ∧ t'.funcs = s.funcs ∧ t'.keeper = s.keeper ∧
      t'.ports = s.ports ∧ ∀ r ≠ .TB_COUNT, ∀ i < 1048576, t'.reg r i = s.reg r i
    let plain : List Reg := [.ING_TARGET_ADDR, .ING_TARGET_CFG, .ING_PORT_IP, .ING_PORT_MAC, .PWR_CEIL, .PWR_GOV_CFG, .TEL_CFG, .ECHO_TRIG, .LNK_ERR_CFG,
      .KPR_FABRIC_ID, .KPR_CORDON_STAT, .PWR_LP_STAT, .HIF_STAT, .ING_CTRL, .ADM_STATUS_ADDR]
    let mask (n k : Nat) : Bool := n.testBit k
    (len.val ≠ 8 ∨ off.toNat % 8 ≠ 0 → ∃ t', exec (.registerWrite f off val len t) s = .next t' ∧ quiet t') ∧
    (off.toNat % 8 = 0 → s.keeper.powered = true → off.toNat < 0x1000 ∨ 0x1400 ≤ off.toNat → off.toNat < 0x8000000 ∨ 0x8400000 ≤ off.toNat →
      regPlace 4 off.toNat = some (r, i) → i < 1048576 →
      ((s.at' t.toNat).reached r i = false → ∃ t', write 4 = .next t' ∧ quiet t') ∧
      ((s.at' t.toNat).reached r i = true → r ∈ plain → ∃ t', write 4 = .next t' ∧ t'.cores = s.cores ∧ t'.quads = s.quads ∧
        (∀ r' i', i' < 1048576 → (r', i') ≠ (r, i) → r' ≠ .TB_COUNT → t'.reg r' i' = s.reg r' i') ∧
        ∀ k < 64, bitAt (t'.reg r i) k =
          if mask r.info.w1c k && bitAt val k then false else if mask (s.writable r i) k then bitAt val k else bitAt (s.reg r i) k) ∧
      ((s.at' t.toNat).reached r i = true → r = .KPR_FABRIC_ID → s.bit .KPR_LOCK 0 0 = true → ∃ t', write 4 = .next t' ∧ quiet t')) ∧
    (off.toNat % 8 = 0 → s.keeper.powered = true → f.val < 4 → 0x100000 ≤ off.toNat → off.toNat < 0x8000000 →
      regPlace f off.toNat = some (.SEQ_ENTRY, j) → (s.at' t.toNat).reached .SEQ_ENTRY j = true → s.phys j = some p →
      (exec (.registerWrite 4 (BitVec.ofNat 32 (0x9000000 + f * 0x1000000 + off.toNat - 0x100000)) val 8 t) s =
        .next ((s.at' t.toNat).setCore p (if (s.core p).still = true then (s.core p).setReg .SEQ_ENTRY 0
          (((s.core p).reg .SEQ_ENTRY 0 &&& ~~~0x7FFF) ||| (val &&& 0x7FFF)) else s.core p))) ∧
      ∃ t', write f = .next t' ∧ (t'.core p).reg .SEQ_ENTRY 0 = (s.core p).reg .SEQ_ENTRY 0 ∧ t'.quads = s.quads)
end

