-- ==== Sys2Proof/Laws/Maps.lean ====
section
/-! SUPPORT. Laws of the sparse maps and of byte memory: a read after a write, and the canonical form kept by every operation. -/
namespace Sys2Proof.Machine

/-- Every listed key lies above a bound, and the keys rise. -/
def Map.Above {α : Type} : Nat → Map α → Prop
  | _, [] => True
  | b, (j, _) :: m => b ≤ j ∧ Map.Above (j + 1) m

theorem Map.risingFrom_some {α : Type} (b : Nat) (m : Map α) : Map.risingFrom (some b) m = true ↔ Map.Above (b + 1) m := by
  induction m generalizing b with
  | nil => simp [Map.risingFrom, Map.Above]
  | cons x m ih => obtain ⟨j, v⟩ := x; simp [Map.risingFrom, Map.Above, ih, Nat.succ_le_iff]

theorem Map.wf_iff {α : Type} (m : Map α) : Map.wf m = true ↔ Map.Above 0 m := by
  cases m with
  | nil => simp [Map.wf, Map.risingFrom, Map.Above]
  | cons x m => obtain ⟨j, v⟩ := x; simp [Map.wf, Map.risingFrom, Map.Above, Map.risingFrom_some]

theorem Map.Above.mono {α : Type} {b c : Nat} {m : Map α} (h : Map.Above c m) (hbc : b ≤ c) : Map.Above b m := by
  cases m with
  | nil => trivial
  | cons x m => obtain ⟨j, v⟩ := x; exact ⟨Nat.le_trans hbc h.1, h.2⟩

theorem Map.Above.set {α : Type} {b : Nat} {m : Map α} (h : Map.Above b m) {k : Nat} (hk : b ≤ k) (x : α) :
    Map.Above b (m.set k x) := by
  induction m generalizing b with
  | nil => exact ⟨hk, trivial⟩
  | cons y m ih =>
    obtain ⟨j, v⟩ := y
    unfold Map.set
    split
    · next e => subst e; exact ⟨h.1, h.2⟩
    · split
      · next hlt => exact ⟨hk, hlt, h.2⟩
      · exact ⟨h.1, ih h.2 (by omega)⟩

theorem Map.Above.del {α : Type} {b : Nat} {m : Map α} (h : Map.Above b m) (k : Nat) : Map.Above b (m.del k) := by
  induction m generalizing b with
  | nil => trivial
  | cons y m ih =>
    obtain ⟨j, v⟩ := y
    unfold Map.del
    split
    · exact h.2.mono (by have := h.1; omega)
    · split
      · exact h
      · exact ⟨h.1, ih h.2⟩

/-- Setting a value keeps the form. -/
theorem Map.wf_set {α : Type} {m : Map α} (h : m.wf = true) (k : Nat) (x : α) : (m.set k x).wf = true :=
  (Map.wf_iff _).2 (((Map.wf_iff _).1 h).set (Nat.zero_le _) x)

/-- Removing a key keeps the form. -/
theorem Map.wf_del {α : Type} {m : Map α} (h : m.wf = true) (k : Nat) : (m.del k).wf = true :=
  (Map.wf_iff _).2 (((Map.wf_iff _).1 h).del k)

theorem Map.get_above {α : Type} {m : Map α} {b k : Nat} (h : Map.Above b m) (hk : k < b) (d : α) : m.get k d = d := by
  cases m with
  | nil => rfl
  | cons y m =>
    obtain ⟨j, v⟩ := y
    have := h.1
    simp only [Map.get]
    rw [if_neg (by omega), if_pos (by omega)]

/-- A read of the key just set gives the value set, whatever the map. -/
@[simp] theorem Map.get_set {α : Type} (m : Map α) (k : Nat) (x d : α) : (m.set k x).get k d = x := by
  induction m with
  | nil => simp [Map.set, Map.get]
  | cons y m ih =>
    obtain ⟨j, v⟩ := y
    unfold Map.set
    split
    · simp [Map.get]
    · split
      · simp [Map.get]
      · next h1 h2 => simp only [Map.get]; rw [if_neg h1, if_neg h2]; exact ih

/-- Setting one key leaves every other key's value. -/
theorem Map.get_set_ne {α : Type} (m : Map α) {k i : Nat} (x d : α) (h : i ≠ k) : (m.set k x).get i d = m.get i d := by
  induction m with
  | nil => simp only [Map.set, Map.get]; rw [if_neg (by omega)]; split <;> rfl
  | cons y m ih =>
    obtain ⟨j, v⟩ := y
    unfold Map.set
    split
    · next e => subst e; have : ¬ j = i := by omega
                simp [Map.get, this]
    · split
      · next h1 h2 =>
        simp only [Map.get]
        rw [if_neg (by omega : ¬ k = i)]
        by_cases hi : i < k
        · rw [if_pos hi, if_neg (by omega), if_pos (by omega)]
        · rw [if_neg hi]
      · next h1 h2 => simp only [Map.get]; rw [ih]

theorem Map.get_set_if {α : Type} (m : Map α) (k i : Nat) (x d : α) :
    (m.set k x).get i d = if i = k then x else m.get i d := by
  by_cases h : i = k
  · subst h; simp
  · rw [Map.get_set_ne m x d h, if_neg h]

theorem Map.get_del_ne {α : Type} {m : Map α} {b : Nat} (hm : Map.Above b m) {k i : Nat} (d : α) (h : i ≠ k) :
    (m.del k).get i d = m.get i d := by
  induction m generalizing b with
  | nil => rfl
  | cons y m ih =>
    obtain ⟨j, v⟩ := y
    unfold Map.del
    split
    · next e =>
      subst e
      simp only [Map.get]
      rw [if_neg (by omega)]
      split
      · exact Map.get_above hm.2 (by omega) d
      · rfl
    · split
      · rfl
      · simp only [Map.get]; rw [ih hm.2]

theorem Map.get_del {α : Type} {m : Map α} {b : Nat} (hm : Map.Above b m) (k : Nat) (d : α) : (m.del k).get k d = d := by
  induction m generalizing b with
  | nil => rfl
  | cons y m ih =>
    obtain ⟨j, v⟩ := y
    unfold Map.del
    split
    · next e => subst e; exact Map.get_above hm.2 (by omega) d
    · split
      · simp only [Map.get]; rw [if_neg (by assumption), if_pos (by assumption)]
      · simp only [Map.get]; rw [if_neg (by assumption), if_neg (by assumption)]; exact ih hm.2

/-! ### Byte memory -/

theorem Mem.noBlank_set {m : Mem} (h : Mem.noBlank m = true) (a : Nat) {b : Byte} (hb : b ≠ Mem.blank) :
    Mem.noBlank (Map.set (α := Byte) m a b) = true := by
  induction m with
  | nil => simp [Map.set, Mem.noBlank, hb]
  | cons y m ih =>
    obtain ⟨j, v⟩ := y
    simp [Mem.noBlank] at h
    unfold Map.set
    split
    · simp [Mem.noBlank, hb, h.2]
    · split
      · simp [Mem.noBlank, hb, h.1, h.2]
      · simp [Mem.noBlank, h.1]; exact ih (by simpa using h.2)

theorem Mem.noBlank_del {m : Mem} (h : Mem.noBlank m = true) (a : Nat) : Mem.noBlank (Map.del (α := Byte) m a) = true := by
  induction m with
  | nil => rfl
  | cons y m ih =>
    obtain ⟨j, v⟩ := y
    simp [Mem.noBlank] at h
    unfold Map.del
    split
    · simpa using h.2
    · split
      · simp [Mem.noBlank, h.1, h.2]
      · simp [Mem.noBlank, h.1]; exact ih (by simpa using h.2)

/-- Writing a byte keeps the canonical form. -/
theorem Mem.wf_write {m : Mem} (h : m.wf = true) (a : Nat) (b : Byte) : (m.write a b).wf = true := by
  simp only [Mem.wf, Bool.and_eq_true] at *
  unfold Mem.write
  split
  · exact ⟨Map.wf_del h.1 a, Mem.noBlank_del h.2 a⟩
  · next hb => exact ⟨Map.wf_set h.1 a b, Mem.noBlank_set h.2 a hb⟩

/-- Writing a byte string keeps the canonical form. -/
theorem Mem.wf_writeN {m : Mem} (h : m.wf = true) (a : Nat) (bs : List Byte) : (m.writeN a bs).wf = true := by
  induction bs generalizing m a with
  | nil => exact h
  | cons b bs ih => exact ih (Mem.wf_write h a b) (a + 1)

/-- A read after a write to the same address gives the byte written. -/
theorem Mem.read_write {m : Mem} (h : m.wf = true) (a : Nat) (b : Byte) : (m.write a b).read a = b := by
  simp only [Mem.wf, Bool.and_eq_true] at h
  unfold Mem.write Mem.read
  split
  · next e => rw [e]; exact Map.get_del ((Map.wf_iff _).1 h.1) a _
  · exact Map.get_set ..

/-- A write leaves every other address alone. -/
theorem Mem.read_write_ne {m : Mem} (h : m.wf = true) {a i : Nat} (b : Byte) (hi : i ≠ a) : (m.write a b).read i = m.read i := by
  simp only [Mem.wf, Bool.and_eq_true] at h
  unfold Mem.write Mem.read
  split
  · exact Map.get_del_ne ((Map.wf_iff _).1 h.1) _ hi
  · exact Map.get_set_ne m b _ hi

/-- A byte string written leaves every address outside it alone. -/
theorem Mem.read_writeN_ne {m : Mem} (h : m.wf = true) {a i : Nat} (bs : List Byte) (hi : i < a ∨ a + bs.length ≤ i) :
    (m.writeN a bs).read i = m.read i := by
  induction bs generalizing m a with
  | nil => rfl
  | cons b bs ih =>
    simp only [List.length_cons] at hi
    show ((m.write a b).writeN (a + 1) bs).read i = _
    rw [ih (Mem.wf_write h a b) (by omega), Mem.read_write_ne h b (by omega)]

/-- What was written reads back. -/
theorem Mem.readN_writeN {m : Mem} (h : m.wf = true) (a : Nat) (bs : List Byte) : (m.writeN a bs).readN a bs.length = bs := by
  induction bs generalizing m a with
  | nil => rfl
  | cons b bs ih =>
    show (Mem.writeN (m.write a b) (a + 1) bs).read a :: (Mem.writeN (m.write a b) (a + 1) bs).readN (a + 1) bs.length = b :: bs
    rw [Mem.read_writeN_ne (Mem.wf_write h a b) bs (by omega), Mem.read_write h, ih (Mem.wf_write h a b)]

end Sys2Proof.Machine
end

