-- ==== Sys2Proof/Laws/Bits.lean ====
section
/-! SUPPORT. Laws of bit fields and of the register file: a field read after it is written, other fields and other registers
unchanged. -/
namespace Sys2Proof.Machine

theorem testBit_natBits (n hi lo i : Nat) : (natBits n hi lo).testBit i = (decide (i < hi + 1 - lo) && n.testBit (lo + i)) := by
  simp [natBits, Nat.testBit_mod_two_pow, Nat.testBit_shiftRight]

theorem getLsbD_putBits (w : U64) (hi lo v i : Nat) (hi63 : hi < 64) (hlo : lo ≤ hi) :
    (putBits w hi lo v).getLsbD i =
      if lo ≤ i ∧ i ≤ hi then v.testBit (i - lo) else w.getLsbD i := by
  by_cases h64 : i < 64
  · simp only [putBits, BitVec.getLsbD_or, BitVec.getLsbD_and, BitVec.getLsbD_not, BitVec.getLsbD_ofNat,
      Nat.testBit_shiftLeft, Nat.testBit_mod_two_pow, Nat.testBit_two_pow_sub_one, h64, decide_true, Bool.true_and]
    by_cases h1 : lo ≤ i
    · by_cases h2 : i ≤ hi
      · have : i - lo < hi + 1 - lo := by omega
        simp [h1, h2, this]
      · have : ¬ i - lo < hi + 1 - lo := by omega
        simp [h1, h2, this]
    · simp [h1]
  · have : ¬ (lo ≤ i ∧ i ≤ hi) := by omega
    rw [if_neg this]
    rw [BitVec.getLsbD_of_ge _ _ (by omega), BitVec.getLsbD_of_ge _ _ (by omega)]

/-- A field just written reads as the value written, cut to the field. -/
theorem bitsOf_putBits (w : U64) (hi lo v : Nat) (hi63 : hi < 64) (hlo : lo ≤ hi) :
    bitsOf (putBits w hi lo v) hi lo = v % 2 ^ (hi + 1 - lo) := by
  apply Nat.eq_of_testBit_eq
  intro i
  rw [bitsOf, testBit_natBits, Nat.testBit_mod_two_pow, ← BitVec.getLsbD, getLsbD_putBits _ _ _ _ _ hi63 hlo]
  by_cases h : i < hi + 1 - lo
  · have h2 : lo ≤ lo + i ∧ lo + i ≤ hi := by omega
    have h3 : lo + i - lo = i := by omega
    simp [h, h2, h3]
  · simp [h]

/-- A field that shares no bit with the one written keeps its value. -/
theorem bitsOf_putBits_ne (w : U64) (hi lo v hi' lo' : Nat) (hi63 : hi < 64) (hlo : lo ≤ hi)
    (h : hi' < lo ∨ hi < lo') : bitsOf (putBits w hi lo v) hi' lo' = bitsOf w hi' lo' := by
  apply Nat.eq_of_testBit_eq
  intro i
  rw [bitsOf, bitsOf, testBit_natBits, testBit_natBits, ← BitVec.getLsbD, ← BitVec.getLsbD,
    getLsbD_putBits _ _ _ _ _ hi63 hlo]
  by_cases h1 : i < hi' + 1 - lo'
  · have : ¬ (lo ≤ lo' + i ∧ lo' + i ≤ hi) := by omega
    simp [this]
  · simp [h1]

/-- A bit just written reads as the value written. -/
@[simp] theorem bitAt_putBit (w : U64) (i : Nat) (b : Bool) (h : i < 64) : bitAt (putBit w i b) i = b := by
  have := getLsbD_putBits w i i (if b then 1 else 0) i h (Nat.le_refl _)
  rw [bitAt, putBit, ← BitVec.getLsbD, this]
  cases b <;> simp

/-- Another bit keeps its value. -/
theorem bitAt_putBit_ne (w : U64) (i j : Nat) (b : Bool) (h : i < 64) (hj : j ≠ i) : bitAt (putBit w i b) j = bitAt w j := by
  rw [bitAt, putBit, ← BitVec.getLsbD, getLsbD_putBits _ _ _ _ _ h (Nat.le_refl _), bitAt, ← BitVec.getLsbD]
  have : ¬ (i ≤ j ∧ j ≤ i) := by omega
  rw [if_neg this]

/-- A bit outside a field written keeps its value. -/
theorem bitAt_putBits_ne (w : U64) (hi lo v j : Nat) (h : hi < 64) (hlo : lo ≤ hi) (hj : j < lo ∨ hi < j) :
    bitAt (putBits w hi lo v) j = bitAt w j := by
  rw [bitAt, ← BitVec.getLsbD, getLsbD_putBits _ _ _ _ _ h hlo, bitAt, ← BitVec.getLsbD]
  have : ¬ (lo ≤ j ∧ j ≤ hi) := by omega
  rw [if_neg this]

/-- A field outside a bit written keeps its value. -/
theorem bitsOf_putBit_ne (w : U64) (i : Nat) (b : Bool) (hi lo : Nat) (h : i < 64) (hj : i < lo ∨ hi < i) :
    bitsOf (putBit w i b) hi lo = bitsOf w hi lo := bitsOf_putBits_ne w i i _ hi lo h (Nat.le_refl _) (by omega)

/-! ### The register file -/

/-- The list of all registers is in constructor order. -/
theorem Reg.all_ctorIdx (r : Reg) : Reg.all[r.ctorIdx]? = some r := by cases r <;> rfl

/-- Instances of different registers have different storage keys. -/
theorem Reg.key_ne {r r' : Reg} {i j : Nat} (h : r ≠ r') (hi : i < 1048576) (hj : j < 1048576) : r.key i ≠ r'.key j := by
  intro e
  have hc : r.ctorIdx = r'.ctorIdx := by simp only [Reg.key] at e; omega
  exact h (Option.some.inj ((Reg.all_ctorIdx r).symm.trans ((congrArg (Reg.all[·]?) hc).trans (Reg.all_ctorIdx r'))))

/-- Different instances of one register have different storage keys. -/
theorem Reg.key_ne_index {r : Reg} {i j : Nat} (h : i ≠ j) : r.key i ≠ r.key j := by
  simp only [Reg.key]; omega

@[simp] theorem RegFile.read_write (f : RegFile) (r : Reg) (i : Nat) (v : U64) : (f.write r i v).read r i = v := Map.get_set ..

theorem RegFile.read_write_key (f : RegFile) {r r' : Reg} {i j : Nat} (v : U64) (h : r'.key j ≠ r.key i) :
    (f.write r i v).read r' j = f.read r' j := Map.get_set_ne _ _ _ h

theorem RegFile.read_write_ne (f : RegFile) {r r' : Reg} {i j : Nat} (v : U64) (h : r' ≠ r) (hi : i < 1048576)
    (hj : j < 1048576) : (f.write r i v).read r' j = f.read r' j := RegFile.read_write_key f v (Reg.key_ne h hj hi)

/-- Writing a register keeps the form of the register file. -/
theorem RegFile.wf_write {f : RegFile} (h : Map.wf f = true) (r : Reg) (i : Nat) (v : U64) : Map.wf (f.write r i v) = true :=
  Map.wf_set h _ _

end Sys2Proof.Machine
end

