-- ==== Sys2Proof/Laws/State.lean ====
section
/-! SUPPORT. One lemma per field of State per update, and what the accessors give after an update. -/
namespace Sys2Proof.Machine

@[simp] theorem State.setReg_regs (s : State) (r : Reg) (i : Nat) (v : U64) : (s.setReg r i v).regs = s.regs.write r i v := rfl
@[simp] theorem State.setReg_cores (s : State) (r : Reg) (i : Nat) (v : U64) : (s.setReg r i v).cores = s.cores := rfl
@[simp] theorem State.setReg_quads (s : State) (r : Reg) (i : Nat) (v : U64) : (s.setReg r i v).quads = s.quads := rfl
@[simp] theorem State.setReg_funcs (s : State) (r : Reg) (i : Nat) (v : U64) : (s.setReg r i v).funcs = s.funcs := rfl
@[simp] theorem State.setReg_ports (s : State) (r : Reg) (i : Nat) (v : U64) : (s.setReg r i v).ports = s.ports := rfl
@[simp] theorem State.setReg_mesh (s : State) (r : Reg) (i : Nat) (v : U64) : (s.setReg r i v).mesh = s.mesh := rfl
@[simp] theorem State.setReg_meshRoute (s : State) (r : Reg) (i : Nat) (v : U64) : (s.setReg r i v).meshRoute = s.meshRoute := rfl
@[simp] theorem State.setReg_meshOwner (s : State) (r : Reg) (i : Nat) (v : U64) : (s.setReg r i v).meshOwner = s.meshOwner := rfl
@[simp] theorem State.setReg_outEff (s : State) (r : Reg) (i : Nat) (v : U64) : (s.setReg r i v).outEff = s.outEff := rfl
@[simp] theorem State.setReg_time (s : State) (r : Reg) (i : Nat) (v : U64) : (s.setReg r i v).time = s.time := rfl
@[simp] theorem State.setReg_keeper (s : State) (r : Reg) (i : Nat) (v : U64) : (s.setReg r i v).keeper = s.keeper := rfl
@[simp] theorem State.setReg_power (s : State) (r : Reg) (i : Nat) (v : U64) : (s.setReg r i v).power = s.power := rfl
@[simp] theorem State.setReg_trace (s : State) (r : Reg) (i : Nat) (v : U64) : (s.setReg r i v).trace = s.trace := rfl
@[simp] theorem State.setReg_tap (s : State) (r : Reg) (i : Nat) (v : U64) : (s.setReg r i v).tap = s.tap := rfl
@[simp] theorem State.setReg_out (s : State) (r : Reg) (i : Nat) (v : U64) : (s.setReg r i v).out = s.out := rfl
@[simp] theorem State.setReg_free (s : State) (r : Reg) (i : Nat) (v : U64) : (s.setReg r i v).free = s.free := rfl
@[simp] theorem State.setReg_pending (s : State) (r : Reg) (i : Nat) (v : U64) : (s.setReg r i v).pending = s.pending := rfl

@[simp] theorem State.setFld_regs (s : State) (r : Reg) (i hi lo v : Nat) : (s.setFld r i hi lo v).regs = s.regs.write r i (putBits (s.reg r i) hi lo v) := rfl
@[simp] theorem State.setFld_cores (s : State) (r : Reg) (i hi lo v : Nat) : (s.setFld r i hi lo v).cores = s.cores := rfl
@[simp] theorem State.setFld_quads (s : State) (r : Reg) (i hi lo v : Nat) : (s.setFld r i hi lo v).quads = s.quads := rfl
@[simp] theorem State.setFld_funcs (s : State) (r : Reg) (i hi lo v : Nat) : (s.setFld r i hi lo v).funcs = s.funcs := rfl
@[simp] theorem State.setFld_ports (s : State) (r : Reg) (i hi lo v : Nat) : (s.setFld r i hi lo v).ports = s.ports := rfl
@[simp] theorem State.setFld_mesh (s : State) (r : Reg) (i hi lo v : Nat) : (s.setFld r i hi lo v).mesh = s.mesh := rfl
@[simp] theorem State.setFld_meshRoute (s : State) (r : Reg) (i hi lo v : Nat) : (s.setFld r i hi lo v).meshRoute = s.meshRoute := rfl
@[simp] theorem State.setFld_meshOwner (s : State) (r : Reg) (i hi lo v : Nat) : (s.setFld r i hi lo v).meshOwner = s.meshOwner := rfl
@[simp] theorem State.setFld_outEff (s : State) (r : Reg) (i hi lo v : Nat) : (s.setFld r i hi lo v).outEff = s.outEff := rfl
@[simp] theorem State.setFld_time (s : State) (r : Reg) (i hi lo v : Nat) : (s.setFld r i hi lo v).time = s.time := rfl
@[simp] theorem State.setFld_keeper (s : State) (r : Reg) (i hi lo v : Nat) : (s.setFld r i hi lo v).keeper = s.keeper := rfl
@[simp] theorem State.setFld_power (s : State) (r : Reg) (i hi lo v : Nat) : (s.setFld r i hi lo v).power = s.power := rfl
@[simp] theorem State.setFld_trace (s : State) (r : Reg) (i hi lo v : Nat) : (s.setFld r i hi lo v).trace = s.trace := rfl
@[simp] theorem State.setFld_tap (s : State) (r : Reg) (i hi lo v : Nat) : (s.setFld r i hi lo v).tap = s.tap := rfl
@[simp] theorem State.setFld_out (s : State) (r : Reg) (i hi lo v : Nat) : (s.setFld r i hi lo v).out = s.out := rfl
@[simp] theorem State.setFld_free (s : State) (r : Reg) (i hi lo v : Nat) : (s.setFld r i hi lo v).free = s.free := rfl
@[simp] theorem State.setFld_pending (s : State) (r : Reg) (i hi lo v : Nat) : (s.setFld r i hi lo v).pending = s.pending := rfl

@[simp] theorem State.setBit_regs (s : State) (r : Reg) (i k : Nat) (b : Bool) : (s.setBit r i k b).regs = s.regs.write r i (putBit (s.reg r i) k b) := rfl
@[simp] theorem State.setBit_cores (s : State) (r : Reg) (i k : Nat) (b : Bool) : (s.setBit r i k b).cores = s.cores := rfl
@[simp] theorem State.setBit_quads (s : State) (r : Reg) (i k : Nat) (b : Bool) : (s.setBit r i k b).quads = s.quads := rfl
@[simp] theorem State.setBit_funcs (s : State) (r : Reg) (i k : Nat) (b : Bool) : (s.setBit r i k b).funcs = s.funcs := rfl
@[simp] theorem State.setBit_ports (s : State) (r : Reg) (i k : Nat) (b : Bool) : (s.setBit r i k b).ports = s.ports := rfl
@[simp] theorem State.setBit_mesh (s : State) (r : Reg) (i k : Nat) (b : Bool) : (s.setBit r i k b).mesh = s.mesh := rfl
@[simp] theorem State.setBit_meshRoute (s : State) (r : Reg) (i k : Nat) (b : Bool) : (s.setBit r i k b).meshRoute = s.meshRoute := rfl
@[simp] theorem State.setBit_meshOwner (s : State) (r : Reg) (i k : Nat) (b : Bool) : (s.setBit r i k b).meshOwner = s.meshOwner := rfl
@[simp] theorem State.setBit_outEff (s : State) (r : Reg) (i k : Nat) (b : Bool) : (s.setBit r i k b).outEff = s.outEff := rfl
@[simp] theorem State.setBit_time (s : State) (r : Reg) (i k : Nat) (b : Bool) : (s.setBit r i k b).time = s.time := rfl
@[simp] theorem State.setBit_keeper (s : State) (r : Reg) (i k : Nat) (b : Bool) : (s.setBit r i k b).keeper = s.keeper := rfl
@[simp] theorem State.setBit_power (s : State) (r : Reg) (i k : Nat) (b : Bool) : (s.setBit r i k b).power = s.power := rfl
@[simp] theorem State.setBit_trace (s : State) (r : Reg) (i k : Nat) (b : Bool) : (s.setBit r i k b).trace = s.trace := rfl
@[simp] theorem State.setBit_tap (s : State) (r : Reg) (i k : Nat) (b : Bool) : (s.setBit r i k b).tap = s.tap := rfl
@[simp] theorem State.setBit_out (s : State) (r : Reg) (i k : Nat) (b : Bool) : (s.setBit r i k b).out = s.out := rfl
@[simp] theorem State.setBit_free (s : State) (r : Reg) (i k : Nat) (b : Bool) : (s.setBit r i k b).free = s.free := rfl
@[simp] theorem State.setBit_pending (s : State) (r : Reg) (i k : Nat) (b : Bool) : (s.setBit r i k b).pending = s.pending := rfl

@[simp] theorem State.bump_cores (s : State) (r : Reg) (i hi lo n : Nat) : (s.bump r i hi lo n).cores = s.cores := rfl
@[simp] theorem State.bump_quads (s : State) (r : Reg) (i hi lo n : Nat) : (s.bump r i hi lo n).quads = s.quads := rfl
@[simp] theorem State.bump_funcs (s : State) (r : Reg) (i hi lo n : Nat) : (s.bump r i hi lo n).funcs = s.funcs := rfl
@[simp] theorem State.bump_ports (s : State) (r : Reg) (i hi lo n : Nat) : (s.bump r i hi lo n).ports = s.ports := rfl
@[simp] theorem State.bump_mesh (s : State) (r : Reg) (i hi lo n : Nat) : (s.bump r i hi lo n).mesh = s.mesh := rfl
@[simp] theorem State.bump_meshRoute (s : State) (r : Reg) (i hi lo n : Nat) : (s.bump r i hi lo n).meshRoute = s.meshRoute := rfl
@[simp] theorem State.bump_meshOwner (s : State) (r : Reg) (i hi lo n : Nat) : (s.bump r i hi lo n).meshOwner = s.meshOwner := rfl
@[simp] theorem State.bump_outEff (s : State) (r : Reg) (i hi lo n : Nat) : (s.bump r i hi lo n).outEff = s.outEff := rfl
@[simp] theorem State.bump_time (s : State) (r : Reg) (i hi lo n : Nat) : (s.bump r i hi lo n).time = s.time := rfl
@[simp] theorem State.bump_keeper (s : State) (r : Reg) (i hi lo n : Nat) : (s.bump r i hi lo n).keeper = s.keeper := rfl
@[simp] theorem State.bump_power (s : State) (r : Reg) (i hi lo n : Nat) : (s.bump r i hi lo n).power = s.power := rfl
@[simp] theorem State.bump_trace (s : State) (r : Reg) (i hi lo n : Nat) : (s.bump r i hi lo n).trace = s.trace := rfl
@[simp] theorem State.bump_tap (s : State) (r : Reg) (i hi lo n : Nat) : (s.bump r i hi lo n).tap = s.tap := rfl
@[simp] theorem State.bump_out (s : State) (r : Reg) (i hi lo n : Nat) : (s.bump r i hi lo n).out = s.out := rfl
@[simp] theorem State.bump_free (s : State) (r : Reg) (i hi lo n : Nat) : (s.bump r i hi lo n).free = s.free := rfl
@[simp] theorem State.bump_pending (s : State) (r : Reg) (i hi lo n : Nat) : (s.bump r i hi lo n).pending = s.pending := rfl

@[simp] theorem State.bumpWrap_cores (s : State) (r : Reg) (i hi lo n : Nat) : (s.bumpWrap r i hi lo n).cores = s.cores := rfl
@[simp] theorem State.bumpWrap_quads (s : State) (r : Reg) (i hi lo n : Nat) : (s.bumpWrap r i hi lo n).quads = s.quads := rfl
@[simp] theorem State.bumpWrap_funcs (s : State) (r : Reg) (i hi lo n : Nat) : (s.bumpWrap r i hi lo n).funcs = s.funcs := rfl
@[simp] theorem State.bumpWrap_ports (s : State) (r : Reg) (i hi lo n : Nat) : (s.bumpWrap r i hi lo n).ports = s.ports := rfl
@[simp] theorem State.bumpWrap_mesh (s : State) (r : Reg) (i hi lo n : Nat) : (s.bumpWrap r i hi lo n).mesh = s.mesh := rfl
@[simp] theorem State.bumpWrap_meshRoute (s : State) (r : Reg) (i hi lo n : Nat) : (s.bumpWrap r i hi lo n).meshRoute = s.meshRoute := rfl
@[simp] theorem State.bumpWrap_meshOwner (s : State) (r : Reg) (i hi lo n : Nat) : (s.bumpWrap r i hi lo n).meshOwner = s.meshOwner := rfl
@[simp] theorem State.bumpWrap_outEff (s : State) (r : Reg) (i hi lo n : Nat) : (s.bumpWrap r i hi lo n).outEff = s.outEff := rfl
@[simp] theorem State.bumpWrap_time (s : State) (r : Reg) (i hi lo n : Nat) : (s.bumpWrap r i hi lo n).time = s.time := rfl
@[simp] theorem State.bumpWrap_keeper (s : State) (r : Reg) (i hi lo n : Nat) : (s.bumpWrap r i hi lo n).keeper = s.keeper := rfl
@[simp] theorem State.bumpWrap_power (s : State) (r : Reg) (i hi lo n : Nat) : (s.bumpWrap r i hi lo n).power = s.power := rfl
@[simp] theorem State.bumpWrap_trace (s : State) (r : Reg) (i hi lo n : Nat) : (s.bumpWrap r i hi lo n).trace = s.trace := rfl
@[simp] theorem State.bumpWrap_tap (s : State) (r : Reg) (i hi lo n : Nat) : (s.bumpWrap r i hi lo n).tap = s.tap := rfl
@[simp] theorem State.bumpWrap_out (s : State) (r : Reg) (i hi lo n : Nat) : (s.bumpWrap r i hi lo n).out = s.out := rfl
@[simp] theorem State.bumpWrap_free (s : State) (r : Reg) (i hi lo n : Nat) : (s.bumpWrap r i hi lo n).free = s.free := rfl
@[simp] theorem State.bumpWrap_pending (s : State) (r : Reg) (i hi lo n : Nat) : (s.bumpWrap r i hi lo n).pending = s.pending := rfl

@[simp] theorem State.setCore_regs (s : State) (p : Nat) (c : CoreSt) : (s.setCore p c).regs = s.regs := rfl
@[simp] theorem State.setCore_cores (s : State) (p : Nat) (c : CoreSt) : (s.setCore p c).cores = Map.set (α := CoreSt) s.cores p c := rfl
@[simp] theorem State.setCore_quads (s : State) (p : Nat) (c : CoreSt) : (s.setCore p c).quads = s.quads := rfl
@[simp] theorem State.setCore_funcs (s : State) (p : Nat) (c : CoreSt) : (s.setCore p c).funcs = s.funcs := rfl
@[simp] theorem State.setCore_ports (s : State) (p : Nat) (c : CoreSt) : (s.setCore p c).ports = s.ports := rfl
@[simp] theorem State.setCore_mesh (s : State) (p : Nat) (c : CoreSt) : (s.setCore p c).mesh = s.mesh := rfl
@[simp] theorem State.setCore_meshRoute (s : State) (p : Nat) (c : CoreSt) : (s.setCore p c).meshRoute = s.meshRoute := rfl
@[simp] theorem State.setCore_meshOwner (s : State) (p : Nat) (c : CoreSt) : (s.setCore p c).meshOwner = s.meshOwner := rfl
@[simp] theorem State.setCore_outEff (s : State) (p : Nat) (c : CoreSt) : (s.setCore p c).outEff = s.outEff := rfl
@[simp] theorem State.setCore_time (s : State) (p : Nat) (c : CoreSt) : (s.setCore p c).time = s.time := rfl
@[simp] theorem State.setCore_keeper (s : State) (p : Nat) (c : CoreSt) : (s.setCore p c).keeper = s.keeper := rfl
@[simp] theorem State.setCore_power (s : State) (p : Nat) (c : CoreSt) : (s.setCore p c).power = s.power := rfl
@[simp] theorem State.setCore_trace (s : State) (p : Nat) (c : CoreSt) : (s.setCore p c).trace = s.trace := rfl
@[simp] theorem State.setCore_tap (s : State) (p : Nat) (c : CoreSt) : (s.setCore p c).tap = s.tap := rfl
@[simp] theorem State.setCore_out (s : State) (p : Nat) (c : CoreSt) : (s.setCore p c).out = s.out := rfl
@[simp] theorem State.setCore_free (s : State) (p : Nat) (c : CoreSt) : (s.setCore p c).free = s.free := rfl
@[simp] theorem State.setCore_pending (s : State) (p : Nat) (c : CoreSt) : (s.setCore p c).pending = s.pending := rfl

@[simp] theorem State.modCore_regs (s : State) (p : Nat) (f : CoreSt → CoreSt) : (s.modCore p f).regs = s.regs := rfl
@[simp] theorem State.modCore_cores (s : State) (p : Nat) (f : CoreSt → CoreSt) : (s.modCore p f).cores = Map.set (α := CoreSt) s.cores p (f (s.core p)) := rfl
@[simp] theorem State.modCore_quads (s : State) (p : Nat) (f : CoreSt → CoreSt) : (s.modCore p f).quads = s.quads := rfl
@[simp] theorem State.modCore_funcs (s : State) (p : Nat) (f : CoreSt → CoreSt) : (s.modCore p f).funcs = s.funcs := rfl
@[simp] theorem State.modCore_ports (s : State) (p : Nat) (f : CoreSt → CoreSt) : (s.modCore p f).ports = s.ports := rfl
@[simp] theorem State.modCore_mesh (s : State) (p : Nat) (f : CoreSt → CoreSt) : (s.modCore p f).mesh = s.mesh := rfl
@[simp] theorem State.modCore_meshRoute (s : State) (p : Nat) (f : CoreSt → CoreSt) : (s.modCore p f).meshRoute = s.meshRoute := rfl
@[simp] theorem State.modCore_meshOwner (s : State) (p : Nat) (f : CoreSt → CoreSt) : (s.modCore p f).meshOwner = s.meshOwner := rfl
@[simp] theorem State.modCore_outEff (s : State) (p : Nat) (f : CoreSt → CoreSt) : (s.modCore p f).outEff = s.outEff := rfl
@[simp] theorem State.modCore_time (s : State) (p : Nat) (f : CoreSt → CoreSt) : (s.modCore p f).time = s.time := rfl
@[simp] theorem State.modCore_keeper (s : State) (p : Nat) (f : CoreSt → CoreSt) : (s.modCore p f).keeper = s.keeper := rfl
@[simp] theorem State.modCore_power (s : State) (p : Nat) (f : CoreSt → CoreSt) : (s.modCore p f).power = s.power := rfl
@[simp] theorem State.modCore_trace (s : State) (p : Nat) (f : CoreSt → CoreSt) : (s.modCore p f).trace = s.trace := rfl
@[simp] theorem State.modCore_tap (s : State) (p : Nat) (f : CoreSt → CoreSt) : (s.modCore p f).tap = s.tap := rfl
@[simp] theorem State.modCore_out (s : State) (p : Nat) (f : CoreSt → CoreSt) : (s.modCore p f).out = s.out := rfl
@[simp] theorem State.modCore_free (s : State) (p : Nat) (f : CoreSt → CoreSt) : (s.modCore p f).free = s.free := rfl
@[simp] theorem State.modCore_pending (s : State) (p : Nat) (f : CoreSt → CoreSt) : (s.modCore p f).pending = s.pending := rfl

@[simp] theorem State.setQuad_regs (s : State) (q : Nat) (x : QuadSt) : (s.setQuad q x).regs = s.regs := rfl
@[simp] theorem State.setQuad_cores (s : State) (q : Nat) (x : QuadSt) : (s.setQuad q x).cores = s.cores := rfl
@[simp] theorem State.setQuad_quads (s : State) (q : Nat) (x : QuadSt) : (s.setQuad q x).quads = Map.set (α := QuadSt) s.quads q x := rfl
@[simp] theorem State.setQuad_funcs (s : State) (q : Nat) (x : QuadSt) : (s.setQuad q x).funcs = s.funcs := rfl
@[simp] theorem State.setQuad_ports (s : State) (q : Nat) (x : QuadSt) : (s.setQuad q x).ports = s.ports := rfl
@[simp] theorem State.setQuad_mesh (s : State) (q : Nat) (x : QuadSt) : (s.setQuad q x).mesh = s.mesh := rfl
@[simp] theorem State.setQuad_meshRoute (s : State) (q : Nat) (x : QuadSt) : (s.setQuad q x).meshRoute = s.meshRoute := rfl
@[simp] theorem State.setQuad_meshOwner (s : State) (q : Nat) (x : QuadSt) : (s.setQuad q x).meshOwner = s.meshOwner := rfl
@[simp] theorem State.setQuad_outEff (s : State) (q : Nat) (x : QuadSt) : (s.setQuad q x).outEff = s.outEff := rfl
@[simp] theorem State.setQuad_time (s : State) (q : Nat) (x : QuadSt) : (s.setQuad q x).time = s.time := rfl
@[simp] theorem State.setQuad_keeper (s : State) (q : Nat) (x : QuadSt) : (s.setQuad q x).keeper = s.keeper := rfl
@[simp] theorem State.setQuad_power (s : State) (q : Nat) (x : QuadSt) : (s.setQuad q x).power = s.power := rfl
@[simp] theorem State.setQuad_trace (s : State) (q : Nat) (x : QuadSt) : (s.setQuad q x).trace = s.trace := rfl
@[simp] theorem State.setQuad_tap (s : State) (q : Nat) (x : QuadSt) : (s.setQuad q x).tap = s.tap := rfl
@[simp] theorem State.setQuad_out (s : State) (q : Nat) (x : QuadSt) : (s.setQuad q x).out = s.out := rfl
@[simp] theorem State.setQuad_free (s : State) (q : Nat) (x : QuadSt) : (s.setQuad q x).free = s.free := rfl
@[simp] theorem State.setQuad_pending (s : State) (q : Nat) (x : QuadSt) : (s.setQuad q x).pending = s.pending := rfl

@[simp] theorem State.modQuad_regs (s : State) (q : Nat) (f : QuadSt → QuadSt) : (s.modQuad q f).regs = s.regs := rfl
@[simp] theorem State.modQuad_cores (s : State) (q : Nat) (f : QuadSt → QuadSt) : (s.modQuad q f).cores = s.cores := rfl
@[simp] theorem State.modQuad_quads (s : State) (q : Nat) (f : QuadSt → QuadSt) : (s.modQuad q f).quads = Map.set (α := QuadSt) s.quads q (f (s.quad q)) := rfl
@[simp] theorem State.modQuad_funcs (s : State) (q : Nat) (f : QuadSt → QuadSt) : (s.modQuad q f).funcs = s.funcs := rfl
@[simp] theorem State.modQuad_ports (s : State) (q : Nat) (f : QuadSt → QuadSt) : (s.modQuad q f).ports = s.ports := rfl
@[simp] theorem State.modQuad_mesh (s : State) (q : Nat) (f : QuadSt → QuadSt) : (s.modQuad q f).mesh = s.mesh := rfl
@[simp] theorem State.modQuad_meshRoute (s : State) (q : Nat) (f : QuadSt → QuadSt) : (s.modQuad q f).meshRoute = s.meshRoute := rfl
@[simp] theorem State.modQuad_meshOwner (s : State) (q : Nat) (f : QuadSt → QuadSt) : (s.modQuad q f).meshOwner = s.meshOwner := rfl
@[simp] theorem State.modQuad_outEff (s : State) (q : Nat) (f : QuadSt → QuadSt) : (s.modQuad q f).outEff = s.outEff := rfl
@[simp] theorem State.modQuad_time (s : State) (q : Nat) (f : QuadSt → QuadSt) : (s.modQuad q f).time = s.time := rfl
@[simp] theorem State.modQuad_keeper (s : State) (q : Nat) (f : QuadSt → QuadSt) : (s.modQuad q f).keeper = s.keeper := rfl
@[simp] theorem State.modQuad_power (s : State) (q : Nat) (f : QuadSt → QuadSt) : (s.modQuad q f).power = s.power := rfl
@[simp] theorem State.modQuad_trace (s : State) (q : Nat) (f : QuadSt → QuadSt) : (s.modQuad q f).trace = s.trace := rfl
@[simp] theorem State.modQuad_tap (s : State) (q : Nat) (f : QuadSt → QuadSt) : (s.modQuad q f).tap = s.tap := rfl
@[simp] theorem State.modQuad_out (s : State) (q : Nat) (f : QuadSt → QuadSt) : (s.modQuad q f).out = s.out := rfl
@[simp] theorem State.modQuad_free (s : State) (q : Nat) (f : QuadSt → QuadSt) : (s.modQuad q f).free = s.free := rfl
@[simp] theorem State.modQuad_pending (s : State) (q : Nat) (f : QuadSt → QuadSt) : (s.modQuad q f).pending = s.pending := rfl

@[simp] theorem State.modSlot_regs (s : State) (q n : Nat) (f : SlotSt → SlotSt) : (s.modSlot q n f).regs = s.regs := rfl
@[simp] theorem State.modSlot_cores (s : State) (q n : Nat) (f : SlotSt → SlotSt) : (s.modSlot q n f).cores = s.cores := rfl
@[simp] theorem State.modSlot_funcs (s : State) (q n : Nat) (f : SlotSt → SlotSt) : (s.modSlot q n f).funcs = s.funcs := rfl
@[simp] theorem State.modSlot_ports (s : State) (q n : Nat) (f : SlotSt → SlotSt) : (s.modSlot q n f).ports = s.ports := rfl
@[simp] theorem State.modSlot_mesh (s : State) (q n : Nat) (f : SlotSt → SlotSt) : (s.modSlot q n f).mesh = s.mesh := rfl
@[simp] theorem State.modSlot_meshRoute (s : State) (q n : Nat) (f : SlotSt → SlotSt) : (s.modSlot q n f).meshRoute = s.meshRoute := rfl
@[simp] theorem State.modSlot_meshOwner (s : State) (q n : Nat) (f : SlotSt → SlotSt) : (s.modSlot q n f).meshOwner = s.meshOwner := rfl
@[simp] theorem State.modSlot_outEff (s : State) (q n : Nat) (f : SlotSt → SlotSt) : (s.modSlot q n f).outEff = s.outEff := rfl
@[simp] theorem State.modSlot_time (s : State) (q n : Nat) (f : SlotSt → SlotSt) : (s.modSlot q n f).time = s.time := rfl
@[simp] theorem State.modSlot_keeper (s : State) (q n : Nat) (f : SlotSt → SlotSt) : (s.modSlot q n f).keeper = s.keeper := rfl
@[simp] theorem State.modSlot_power (s : State) (q n : Nat) (f : SlotSt → SlotSt) : (s.modSlot q n f).power = s.power := rfl
@[simp] theorem State.modSlot_trace (s : State) (q n : Nat) (f : SlotSt → SlotSt) : (s.modSlot q n f).trace = s.trace := rfl
@[simp] theorem State.modSlot_tap (s : State) (q n : Nat) (f : SlotSt → SlotSt) : (s.modSlot q n f).tap = s.tap := rfl
@[simp] theorem State.modSlot_out (s : State) (q n : Nat) (f : SlotSt → SlotSt) : (s.modSlot q n f).out = s.out := rfl
@[simp] theorem State.modSlot_free (s : State) (q n : Nat) (f : SlotSt → SlotSt) : (s.modSlot q n f).free = s.free := rfl
@[simp] theorem State.modSlot_pending (s : State) (q n : Nat) (f : SlotSt → SlotSt) : (s.modSlot q n f).pending = s.pending := rfl

@[simp] theorem State.setFunc_regs (s : State) (k : Nat) (x : FuncSt) : (s.setFunc k x).regs = s.regs := rfl
@[simp] theorem State.setFunc_cores (s : State) (k : Nat) (x : FuncSt) : (s.setFunc k x).cores = s.cores := rfl
@[simp] theorem State.setFunc_quads (s : State) (k : Nat) (x : FuncSt) : (s.setFunc k x).quads = s.quads := rfl
@[simp] theorem State.setFunc_funcs (s : State) (k : Nat) (x : FuncSt) : (s.setFunc k x).funcs = Map.set (α := FuncSt) s.funcs k x := rfl
@[simp] theorem State.setFunc_ports (s : State) (k : Nat) (x : FuncSt) : (s.setFunc k x).ports = s.ports := rfl
@[simp] theorem State.setFunc_mesh (s : State) (k : Nat) (x : FuncSt) : (s.setFunc k x).mesh = s.mesh := rfl
@[simp] theorem State.setFunc_meshRoute (s : State) (k : Nat) (x : FuncSt) : (s.setFunc k x).meshRoute = s.meshRoute := rfl
@[simp] theorem State.setFunc_meshOwner (s : State) (k : Nat) (x : FuncSt) : (s.setFunc k x).meshOwner = s.meshOwner := rfl
@[simp] theorem State.setFunc_outEff (s : State) (k : Nat) (x : FuncSt) : (s.setFunc k x).outEff = s.outEff := rfl
@[simp] theorem State.setFunc_time (s : State) (k : Nat) (x : FuncSt) : (s.setFunc k x).time = s.time := rfl
@[simp] theorem State.setFunc_keeper (s : State) (k : Nat) (x : FuncSt) : (s.setFunc k x).keeper = s.keeper := rfl
@[simp] theorem State.setFunc_power (s : State) (k : Nat) (x : FuncSt) : (s.setFunc k x).power = s.power := rfl
@[simp] theorem State.setFunc_trace (s : State) (k : Nat) (x : FuncSt) : (s.setFunc k x).trace = s.trace := rfl
@[simp] theorem State.setFunc_tap (s : State) (k : Nat) (x : FuncSt) : (s.setFunc k x).tap = s.tap := rfl
@[simp] theorem State.setFunc_out (s : State) (k : Nat) (x : FuncSt) : (s.setFunc k x).out = s.out := rfl
@[simp] theorem State.setFunc_free (s : State) (k : Nat) (x : FuncSt) : (s.setFunc k x).free = s.free := rfl
@[simp] theorem State.setFunc_pending (s : State) (k : Nat) (x : FuncSt) : (s.setFunc k x).pending = s.pending := rfl

@[simp] theorem State.modFunc_regs (s : State) (k : Nat) (g : FuncSt → FuncSt) : (s.modFunc k g).regs = s.regs := rfl
@[simp] theorem State.modFunc_cores (s : State) (k : Nat) (g : FuncSt → FuncSt) : (s.modFunc k g).cores = s.cores := rfl
@[simp] theorem State.modFunc_quads (s : State) (k : Nat) (g : FuncSt → FuncSt) : (s.modFunc k g).quads = s.quads := rfl
@[simp] theorem State.modFunc_funcs (s : State) (k : Nat) (g : FuncSt → FuncSt) : (s.modFunc k g).funcs = Map.set (α := FuncSt) s.funcs k (g (s.func k)) := rfl
@[simp] theorem State.modFunc_ports (s : State) (k : Nat) (g : FuncSt → FuncSt) : (s.modFunc k g).ports = s.ports := rfl
@[simp] theorem State.modFunc_mesh (s : State) (k : Nat) (g : FuncSt → FuncSt) : (s.modFunc k g).mesh = s.mesh := rfl
@[simp] theorem State.modFunc_meshRoute (s : State) (k : Nat) (g : FuncSt → FuncSt) : (s.modFunc k g).meshRoute = s.meshRoute := rfl
@[simp] theorem State.modFunc_meshOwner (s : State) (k : Nat) (g : FuncSt → FuncSt) : (s.modFunc k g).meshOwner = s.meshOwner := rfl
@[simp] theorem State.modFunc_outEff (s : State) (k : Nat) (g : FuncSt → FuncSt) : (s.modFunc k g).outEff = s.outEff := rfl
@[simp] theorem State.modFunc_time (s : State) (k : Nat) (g : FuncSt → FuncSt) : (s.modFunc k g).time = s.time := rfl
@[simp] theorem State.modFunc_keeper (s : State) (k : Nat) (g : FuncSt → FuncSt) : (s.modFunc k g).keeper = s.keeper := rfl
@[simp] theorem State.modFunc_power (s : State) (k : Nat) (g : FuncSt → FuncSt) : (s.modFunc k g).power = s.power := rfl
@[simp] theorem State.modFunc_trace (s : State) (k : Nat) (g : FuncSt → FuncSt) : (s.modFunc k g).trace = s.trace := rfl
@[simp] theorem State.modFunc_tap (s : State) (k : Nat) (g : FuncSt → FuncSt) : (s.modFunc k g).tap = s.tap := rfl
@[simp] theorem State.modFunc_out (s : State) (k : Nat) (g : FuncSt → FuncSt) : (s.modFunc k g).out = s.out := rfl
@[simp] theorem State.modFunc_free (s : State) (k : Nat) (g : FuncSt → FuncSt) : (s.modFunc k g).free = s.free := rfl
@[simp] theorem State.modFunc_pending (s : State) (k : Nat) (g : FuncSt → FuncSt) : (s.modFunc k g).pending = s.pending := rfl

@[simp] theorem State.send_regs (s : State) (o : Out) : (s.send o).regs = s.regs := rfl
@[simp] theorem State.send_cores (s : State) (o : Out) : (s.send o).cores = s.cores := rfl
@[simp] theorem State.send_quads (s : State) (o : Out) : (s.send o).quads = s.quads := rfl
@[simp] theorem State.send_funcs (s : State) (o : Out) : (s.send o).funcs = s.funcs := rfl
@[simp] theorem State.send_ports (s : State) (o : Out) : (s.send o).ports = s.ports := rfl
@[simp] theorem State.send_mesh (s : State) (o : Out) : (s.send o).mesh = s.mesh := rfl
@[simp] theorem State.send_meshRoute (s : State) (o : Out) : (s.send o).meshRoute = s.meshRoute := rfl
@[simp] theorem State.send_meshOwner (s : State) (o : Out) : (s.send o).meshOwner = s.meshOwner := rfl
@[simp] theorem State.send_outEff (s : State) (o : Out) : (s.send o).outEff = s.outEff := rfl
@[simp] theorem State.send_time (s : State) (o : Out) : (s.send o).time = s.time := rfl
@[simp] theorem State.send_keeper (s : State) (o : Out) : (s.send o).keeper = s.keeper := rfl
@[simp] theorem State.send_power (s : State) (o : Out) : (s.send o).power = s.power := rfl
@[simp] theorem State.send_trace (s : State) (o : Out) : (s.send o).trace = s.trace := rfl
@[simp] theorem State.send_tap (s : State) (o : Out) : (s.send o).tap = s.tap := rfl
@[simp] theorem State.send_out (s : State) (o : Out) : (s.send o).out = s.out ++ [o] := rfl
@[simp] theorem State.send_free (s : State) (o : Out) : (s.send o).free = s.free := rfl
@[simp] theorem State.send_pending (s : State) (o : Out) : (s.send o).pending = s.pending := rfl

@[simp] theorem State.setPort_regs (s : State) (k : Nat) (x : PortSt) : (s.setPort k x).regs = s.regs := rfl
@[simp] theorem State.setPort_cores (s : State) (k : Nat) (x : PortSt) : (s.setPort k x).cores = s.cores := rfl
@[simp] theorem State.setPort_quads (s : State) (k : Nat) (x : PortSt) : (s.setPort k x).quads = s.quads := rfl
@[simp] theorem State.setPort_funcs (s : State) (k : Nat) (x : PortSt) : (s.setPort k x).funcs = s.funcs := rfl
@[simp] theorem State.setPort_ports (s : State) (k : Nat) (x : PortSt) : (s.setPort k x).ports = Map.set (α := PortSt) s.ports k x := rfl
@[simp] theorem State.setPort_mesh (s : State) (k : Nat) (x : PortSt) : (s.setPort k x).mesh = s.mesh := rfl
@[simp] theorem State.setPort_meshRoute (s : State) (k : Nat) (x : PortSt) : (s.setPort k x).meshRoute = s.meshRoute := rfl
@[simp] theorem State.setPort_meshOwner (s : State) (k : Nat) (x : PortSt) : (s.setPort k x).meshOwner = s.meshOwner := rfl
@[simp] theorem State.setPort_outEff (s : State) (k : Nat) (x : PortSt) : (s.setPort k x).outEff = s.outEff := rfl
@[simp] theorem State.setPort_time (s : State) (k : Nat) (x : PortSt) : (s.setPort k x).time = s.time := rfl
@[simp] theorem State.setPort_keeper (s : State) (k : Nat) (x : PortSt) : (s.setPort k x).keeper = s.keeper := rfl
@[simp] theorem State.setPort_power (s : State) (k : Nat) (x : PortSt) : (s.setPort k x).power = s.power := rfl
@[simp] theorem State.setPort_trace (s : State) (k : Nat) (x : PortSt) : (s.setPort k x).trace = s.trace := rfl
@[simp] theorem State.setPort_tap (s : State) (k : Nat) (x : PortSt) : (s.setPort k x).tap = s.tap := rfl
@[simp] theorem State.setPort_out (s : State) (k : Nat) (x : PortSt) : (s.setPort k x).out = s.out := rfl
@[simp] theorem State.setPort_free (s : State) (k : Nat) (x : PortSt) : (s.setPort k x).free = s.free := rfl
@[simp] theorem State.setPort_pending (s : State) (k : Nat) (x : PortSt) : (s.setPort k x).pending = s.pending := rfl

@[simp] theorem State.modPort_regs (s : State) (k : Nat) (f : PortSt → PortSt) : (s.modPort k f).regs = s.regs := rfl
@[simp] theorem State.modPort_cores (s : State) (k : Nat) (f : PortSt → PortSt) : (s.modPort k f).cores = s.cores := rfl
@[simp] theorem State.modPort_quads (s : State) (k : Nat) (f : PortSt → PortSt) : (s.modPort k f).quads = s.quads := rfl
@[simp] theorem State.modPort_funcs (s : State) (k : Nat) (f : PortSt → PortSt) : (s.modPort k f).funcs = s.funcs := rfl
@[simp] theorem State.modPort_ports (s : State) (k : Nat) (f : PortSt → PortSt) : (s.modPort k f).ports = Map.set (α := PortSt) s.ports k (f (s.port k)) := rfl
@[simp] theorem State.modPort_mesh (s : State) (k : Nat) (f : PortSt → PortSt) : (s.modPort k f).mesh = s.mesh := rfl
@[simp] theorem State.modPort_meshRoute (s : State) (k : Nat) (f : PortSt → PortSt) : (s.modPort k f).meshRoute = s.meshRoute := rfl
@[simp] theorem State.modPort_meshOwner (s : State) (k : Nat) (f : PortSt → PortSt) : (s.modPort k f).meshOwner = s.meshOwner := rfl
@[simp] theorem State.modPort_outEff (s : State) (k : Nat) (f : PortSt → PortSt) : (s.modPort k f).outEff = s.outEff := rfl
@[simp] theorem State.modPort_time (s : State) (k : Nat) (f : PortSt → PortSt) : (s.modPort k f).time = s.time := rfl
@[simp] theorem State.modPort_keeper (s : State) (k : Nat) (f : PortSt → PortSt) : (s.modPort k f).keeper = s.keeper := rfl
@[simp] theorem State.modPort_power (s : State) (k : Nat) (f : PortSt → PortSt) : (s.modPort k f).power = s.power := rfl
@[simp] theorem State.modPort_trace (s : State) (k : Nat) (f : PortSt → PortSt) : (s.modPort k f).trace = s.trace := rfl
@[simp] theorem State.modPort_tap (s : State) (k : Nat) (f : PortSt → PortSt) : (s.modPort k f).tap = s.tap := rfl
@[simp] theorem State.modPort_out (s : State) (k : Nat) (f : PortSt → PortSt) : (s.modPort k f).out = s.out := rfl
@[simp] theorem State.modPort_free (s : State) (k : Nat) (f : PortSt → PortSt) : (s.modPort k f).free = s.free := rfl
@[simp] theorem State.modPort_pending (s : State) (k : Nat) (f : PortSt → PortSt) : (s.modPort k f).pending = s.pending := rfl

@[simp] theorem State.setBuf_regs (s : State) (p inp ch : Nat) (l : List MeshFlit) : (s.setBuf p inp ch l).regs = s.regs := rfl
@[simp] theorem State.setBuf_cores (s : State) (p inp ch : Nat) (l : List MeshFlit) : (s.setBuf p inp ch l).cores = s.cores := rfl
@[simp] theorem State.setBuf_quads (s : State) (p inp ch : Nat) (l : List MeshFlit) : (s.setBuf p inp ch l).quads = s.quads := rfl
@[simp] theorem State.setBuf_funcs (s : State) (p inp ch : Nat) (l : List MeshFlit) : (s.setBuf p inp ch l).funcs = s.funcs := rfl
@[simp] theorem State.setBuf_ports (s : State) (p inp ch : Nat) (l : List MeshFlit) : (s.setBuf p inp ch l).ports = s.ports := rfl
@[simp] theorem State.setBuf_meshRoute (s : State) (p inp ch : Nat) (l : List MeshFlit) : (s.setBuf p inp ch l).meshRoute = s.meshRoute := rfl
@[simp] theorem State.setBuf_meshOwner (s : State) (p inp ch : Nat) (l : List MeshFlit) : (s.setBuf p inp ch l).meshOwner = s.meshOwner := rfl
@[simp] theorem State.setBuf_outEff (s : State) (p inp ch : Nat) (l : List MeshFlit) : (s.setBuf p inp ch l).outEff = s.outEff := rfl
@[simp] theorem State.setBuf_time (s : State) (p inp ch : Nat) (l : List MeshFlit) : (s.setBuf p inp ch l).time = s.time := rfl
@[simp] theorem State.setBuf_keeper (s : State) (p inp ch : Nat) (l : List MeshFlit) : (s.setBuf p inp ch l).keeper = s.keeper := rfl
@[simp] theorem State.setBuf_power (s : State) (p inp ch : Nat) (l : List MeshFlit) : (s.setBuf p inp ch l).power = s.power := rfl
@[simp] theorem State.setBuf_trace (s : State) (p inp ch : Nat) (l : List MeshFlit) : (s.setBuf p inp ch l).trace = s.trace := rfl
@[simp] theorem State.setBuf_tap (s : State) (p inp ch : Nat) (l : List MeshFlit) : (s.setBuf p inp ch l).tap = s.tap := rfl
@[simp] theorem State.setBuf_out (s : State) (p inp ch : Nat) (l : List MeshFlit) : (s.setBuf p inp ch l).out = s.out := rfl
@[simp] theorem State.setBuf_free (s : State) (p inp ch : Nat) (l : List MeshFlit) : (s.setBuf p inp ch l).free = s.free := rfl
@[simp] theorem State.setBuf_pending (s : State) (p inp ch : Nat) (l : List MeshFlit) : (s.setBuf p inp ch l).pending = s.pending := rfl

@[simp] theorem State.modTime_regs (s : State) (f : TimeSt → TimeSt) : (s.modTime f).regs = s.regs := rfl
@[simp] theorem State.modTime_cores (s : State) (f : TimeSt → TimeSt) : (s.modTime f).cores = s.cores := rfl
@[simp] theorem State.modTime_quads (s : State) (f : TimeSt → TimeSt) : (s.modTime f).quads = s.quads := rfl
@[simp] theorem State.modTime_funcs (s : State) (f : TimeSt → TimeSt) : (s.modTime f).funcs = s.funcs := rfl
@[simp] theorem State.modTime_ports (s : State) (f : TimeSt → TimeSt) : (s.modTime f).ports = s.ports := rfl
@[simp] theorem State.modTime_mesh (s : State) (f : TimeSt → TimeSt) : (s.modTime f).mesh = s.mesh := rfl
@[simp] theorem State.modTime_meshRoute (s : State) (f : TimeSt → TimeSt) : (s.modTime f).meshRoute = s.meshRoute := rfl
@[simp] theorem State.modTime_meshOwner (s : State) (f : TimeSt → TimeSt) : (s.modTime f).meshOwner = s.meshOwner := rfl
@[simp] theorem State.modTime_outEff (s : State) (f : TimeSt → TimeSt) : (s.modTime f).outEff = s.outEff := rfl
@[simp] theorem State.modTime_time (s : State) (f : TimeSt → TimeSt) : (s.modTime f).time = f s.time := rfl
@[simp] theorem State.modTime_keeper (s : State) (f : TimeSt → TimeSt) : (s.modTime f).keeper = s.keeper := rfl
@[simp] theorem State.modTime_power (s : State) (f : TimeSt → TimeSt) : (s.modTime f).power = s.power := rfl
@[simp] theorem State.modTime_trace (s : State) (f : TimeSt → TimeSt) : (s.modTime f).trace = s.trace := rfl
@[simp] theorem State.modTime_tap (s : State) (f : TimeSt → TimeSt) : (s.modTime f).tap = s.tap := rfl
@[simp] theorem State.modTime_out (s : State) (f : TimeSt → TimeSt) : (s.modTime f).out = s.out := rfl
@[simp] theorem State.modTime_free (s : State) (f : TimeSt → TimeSt) : (s.modTime f).free = s.free := rfl
@[simp] theorem State.modTime_pending (s : State) (f : TimeSt → TimeSt) : (s.modTime f).pending = s.pending := rfl

@[simp] theorem State.modKeeper_regs (s : State) (f : KeeperSt → KeeperSt) : (s.modKeeper f).regs = s.regs := rfl
@[simp] theorem State.modKeeper_cores (s : State) (f : KeeperSt → KeeperSt) : (s.modKeeper f).cores = s.cores := rfl
@[simp] theorem State.modKeeper_quads (s : State) (f : KeeperSt → KeeperSt) : (s.modKeeper f).quads = s.quads := rfl
@[simp] theorem State.modKeeper_funcs (s : State) (f : KeeperSt → KeeperSt) : (s.modKeeper f).funcs = s.funcs := rfl
@[simp] theorem State.modKeeper_ports (s : State) (f : KeeperSt → KeeperSt) : (s.modKeeper f).ports = s.ports := rfl
@[simp] theorem State.modKeeper_mesh (s : State) (f : KeeperSt → KeeperSt) : (s.modKeeper f).mesh = s.mesh := rfl
@[simp] theorem State.modKeeper_meshRoute (s : State) (f : KeeperSt → KeeperSt) : (s.modKeeper f).meshRoute = s.meshRoute := rfl
@[simp] theorem State.modKeeper_meshOwner (s : State) (f : KeeperSt → KeeperSt) : (s.modKeeper f).meshOwner = s.meshOwner := rfl
@[simp] theorem State.modKeeper_outEff (s : State) (f : KeeperSt → KeeperSt) : (s.modKeeper f).outEff = s.outEff := rfl
@[simp] theorem State.modKeeper_time (s : State) (f : KeeperSt → KeeperSt) : (s.modKeeper f).time = s.time := rfl
@[simp] theorem State.modKeeper_keeper (s : State) (f : KeeperSt → KeeperSt) : (s.modKeeper f).keeper = f s.keeper := rfl
@[simp] theorem State.modKeeper_power (s : State) (f : KeeperSt → KeeperSt) : (s.modKeeper f).power = s.power := rfl
@[simp] theorem State.modKeeper_trace (s : State) (f : KeeperSt → KeeperSt) : (s.modKeeper f).trace = s.trace := rfl
@[simp] theorem State.modKeeper_tap (s : State) (f : KeeperSt → KeeperSt) : (s.modKeeper f).tap = s.tap := rfl
@[simp] theorem State.modKeeper_out (s : State) (f : KeeperSt → KeeperSt) : (s.modKeeper f).out = s.out := rfl
@[simp] theorem State.modKeeper_free (s : State) (f : KeeperSt → KeeperSt) : (s.modKeeper f).free = s.free := rfl
@[simp] theorem State.modKeeper_pending (s : State) (f : KeeperSt → KeeperSt) : (s.modKeeper f).pending = s.pending := rfl

@[simp] theorem State.modPower_regs (s : State) (f : PowerSt → PowerSt) : (s.modPower f).regs = s.regs := rfl
@[simp] theorem State.modPower_cores (s : State) (f : PowerSt → PowerSt) : (s.modPower f).cores = s.cores := rfl
@[simp] theorem State.modPower_quads (s : State) (f : PowerSt → PowerSt) : (s.modPower f).quads = s.quads := rfl
@[simp] theorem State.modPower_funcs (s : State) (f : PowerSt → PowerSt) : (s.modPower f).funcs = s.funcs := rfl
@[simp] theorem State.modPower_ports (s : State) (f : PowerSt → PowerSt) : (s.modPower f).ports = s.ports := rfl
@[simp] theorem State.modPower_mesh (s : State) (f : PowerSt → PowerSt) : (s.modPower f).mesh = s.mesh := rfl
@[simp] theorem State.modPower_meshRoute (s : State) (f : PowerSt → PowerSt) : (s.modPower f).meshRoute = s.meshRoute := rfl
@[simp] theorem State.modPower_meshOwner (s : State) (f : PowerSt → PowerSt) : (s.modPower f).meshOwner = s.meshOwner := rfl
@[simp] theorem State.modPower_outEff (s : State) (f : PowerSt → PowerSt) : (s.modPower f).outEff = s.outEff := rfl
@[simp] theorem State.modPower_time (s : State) (f : PowerSt → PowerSt) : (s.modPower f).time = s.time := rfl
@[simp] theorem State.modPower_keeper (s : State) (f : PowerSt → PowerSt) : (s.modPower f).keeper = s.keeper := rfl
@[simp] theorem State.modPower_power (s : State) (f : PowerSt → PowerSt) : (s.modPower f).power = f s.power := rfl
@[simp] theorem State.modPower_trace (s : State) (f : PowerSt → PowerSt) : (s.modPower f).trace = s.trace := rfl
@[simp] theorem State.modPower_tap (s : State) (f : PowerSt → PowerSt) : (s.modPower f).tap = s.tap := rfl
@[simp] theorem State.modPower_out (s : State) (f : PowerSt → PowerSt) : (s.modPower f).out = s.out := rfl
@[simp] theorem State.modPower_free (s : State) (f : PowerSt → PowerSt) : (s.modPower f).free = s.free := rfl
@[simp] theorem State.modPower_pending (s : State) (f : PowerSt → PowerSt) : (s.modPower f).pending = s.pending := rfl

@[simp] theorem State.modTrace_regs (s : State) (f : TraceSt → TraceSt) : (s.modTrace f).regs = s.regs := rfl
@[simp] theorem State.modTrace_cores (s : State) (f : TraceSt → TraceSt) : (s.modTrace f).cores = s.cores := rfl
@[simp] theorem State.modTrace_quads (s : State) (f : TraceSt → TraceSt) : (s.modTrace f).quads = s.quads := rfl
@[simp] theorem State.modTrace_funcs (s : State) (f : TraceSt → TraceSt) : (s.modTrace f).funcs = s.funcs := rfl
@[simp] theorem State.modTrace_ports (s : State) (f : TraceSt → TraceSt) : (s.modTrace f).ports = s.ports := rfl
@[simp] theorem State.modTrace_mesh (s : State) (f : TraceSt → TraceSt) : (s.modTrace f).mesh = s.mesh := rfl
@[simp] theorem State.modTrace_meshRoute (s : State) (f : TraceSt → TraceSt) : (s.modTrace f).meshRoute = s.meshRoute := rfl
@[simp] theorem State.modTrace_meshOwner (s : State) (f : TraceSt → TraceSt) : (s.modTrace f).meshOwner = s.meshOwner := rfl
@[simp] theorem State.modTrace_outEff (s : State) (f : TraceSt → TraceSt) : (s.modTrace f).outEff = s.outEff := rfl
@[simp] theorem State.modTrace_time (s : State) (f : TraceSt → TraceSt) : (s.modTrace f).time = s.time := rfl
@[simp] theorem State.modTrace_keeper (s : State) (f : TraceSt → TraceSt) : (s.modTrace f).keeper = s.keeper := rfl
@[simp] theorem State.modTrace_power (s : State) (f : TraceSt → TraceSt) : (s.modTrace f).power = s.power := rfl
@[simp] theorem State.modTrace_trace (s : State) (f : TraceSt → TraceSt) : (s.modTrace f).trace = f s.trace := rfl
@[simp] theorem State.modTrace_tap (s : State) (f : TraceSt → TraceSt) : (s.modTrace f).tap = s.tap := rfl
@[simp] theorem State.modTrace_out (s : State) (f : TraceSt → TraceSt) : (s.modTrace f).out = s.out := rfl
@[simp] theorem State.modTrace_free (s : State) (f : TraceSt → TraceSt) : (s.modTrace f).free = s.free := rfl
@[simp] theorem State.modTrace_pending (s : State) (f : TraceSt → TraceSt) : (s.modTrace f).pending = s.pending := rfl

@[simp] theorem State.modTap_regs (s : State) (f : TapSt → TapSt) : (s.modTap f).regs = s.regs := rfl
@[simp] theorem State.modTap_cores (s : State) (f : TapSt → TapSt) : (s.modTap f).cores = s.cores := rfl
@[simp] theorem State.modTap_quads (s : State) (f : TapSt → TapSt) : (s.modTap f).quads = s.quads := rfl
@[simp] theorem State.modTap_funcs (s : State) (f : TapSt → TapSt) : (s.modTap f).funcs = s.funcs := rfl
@[simp] theorem State.modTap_ports (s : State) (f : TapSt → TapSt) : (s.modTap f).ports = s.ports := rfl
@[simp] theorem State.modTap_mesh (s : State) (f : TapSt → TapSt) : (s.modTap f).mesh = s.mesh := rfl
@[simp] theorem State.modTap_meshRoute (s : State) (f : TapSt → TapSt) : (s.modTap f).meshRoute = s.meshRoute := rfl
@[simp] theorem State.modTap_meshOwner (s : State) (f : TapSt → TapSt) : (s.modTap f).meshOwner = s.meshOwner := rfl
@[simp] theorem State.modTap_outEff (s : State) (f : TapSt → TapSt) : (s.modTap f).outEff = s.outEff := rfl
@[simp] theorem State.modTap_time (s : State) (f : TapSt → TapSt) : (s.modTap f).time = s.time := rfl
@[simp] theorem State.modTap_keeper (s : State) (f : TapSt → TapSt) : (s.modTap f).keeper = s.keeper := rfl
@[simp] theorem State.modTap_power (s : State) (f : TapSt → TapSt) : (s.modTap f).power = s.power := rfl
@[simp] theorem State.modTap_trace (s : State) (f : TapSt → TapSt) : (s.modTap f).trace = s.trace := rfl
@[simp] theorem State.modTap_tap (s : State) (f : TapSt → TapSt) : (s.modTap f).tap = f s.tap := rfl
@[simp] theorem State.modTap_out (s : State) (f : TapSt → TapSt) : (s.modTap f).out = s.out := rfl
@[simp] theorem State.modTap_free (s : State) (f : TapSt → TapSt) : (s.modTap f).free = s.free := rfl
@[simp] theorem State.modTap_pending (s : State) (f : TapSt → TapSt) : (s.modTap f).pending = s.pending := rfl

@[simp] theorem State.fresh_regs (s : State) : s.fresh.2.regs = s.regs := rfl
@[simp] theorem State.fresh_cores (s : State) : s.fresh.2.cores = s.cores := rfl
@[simp] theorem State.fresh_quads (s : State) : s.fresh.2.quads = s.quads := rfl
@[simp] theorem State.fresh_funcs (s : State) : s.fresh.2.funcs = s.funcs := rfl
@[simp] theorem State.fresh_ports (s : State) : s.fresh.2.ports = s.ports := rfl
@[simp] theorem State.fresh_mesh (s : State) : s.fresh.2.mesh = s.mesh := rfl
@[simp] theorem State.fresh_meshRoute (s : State) : s.fresh.2.meshRoute = s.meshRoute := rfl
@[simp] theorem State.fresh_meshOwner (s : State) : s.fresh.2.meshOwner = s.meshOwner := rfl
@[simp] theorem State.fresh_outEff (s : State) : s.fresh.2.outEff = s.outEff := rfl
@[simp] theorem State.fresh_time (s : State) : s.fresh.2.time = s.time := rfl
@[simp] theorem State.fresh_keeper (s : State) : s.fresh.2.keeper = s.keeper := rfl
@[simp] theorem State.fresh_power (s : State) : s.fresh.2.power = s.power := rfl
@[simp] theorem State.fresh_trace (s : State) : s.fresh.2.trace = s.trace := rfl
@[simp] theorem State.fresh_tap (s : State) : s.fresh.2.tap = s.tap := rfl
@[simp] theorem State.fresh_out (s : State) : s.fresh.2.out = s.out := rfl
@[simp] theorem State.fresh_free (s : State) : s.fresh.2.free = s.free + 1 := rfl
@[simp] theorem State.fresh_pending (s : State) : s.fresh.2.pending = s.pending := rfl

/-! ### Accessors after an update of the same part -/

@[simp] theorem State.core_setCore (s : State) (p : Nat) (c : CoreSt) : (s.setCore p c).core p = c := Map.get_set ..
theorem State.core_setCore_ne (s : State) {p k : Nat} (c : CoreSt) (h : k ≠ p) : (s.setCore p c).core k = s.core k :=
  Map.get_set_ne _ _ _ h
@[simp] theorem State.core_modCore (s : State) (p : Nat) (f : CoreSt → CoreSt) : (s.modCore p f).core p = f (s.core p) :=
  Map.get_set ..
theorem State.core_modCore_ne (s : State) {p k : Nat} (f : CoreSt → CoreSt) (h : k ≠ p) : (s.modCore p f).core k = s.core k :=
  Map.get_set_ne _ _ _ h
@[simp] theorem State.quad_setQuad (s : State) (q : Nat) (x : QuadSt) : (s.setQuad q x).quad q = x := Map.get_set ..
theorem State.quad_setQuad_ne (s : State) {q k : Nat} (x : QuadSt) (h : k ≠ q) : (s.setQuad q x).quad k = s.quad k :=
  Map.get_set_ne _ _ _ h
@[simp] theorem State.quad_modQuad (s : State) (q : Nat) (f : QuadSt → QuadSt) : (s.modQuad q f).quad q = f (s.quad q) :=
  Map.get_set ..
theorem State.quad_modQuad_ne (s : State) {q k : Nat} (f : QuadSt → QuadSt) (h : k ≠ q) : (s.modQuad q f).quad k = s.quad k :=
  Map.get_set_ne _ _ _ h
@[simp] theorem State.func_setFunc (s : State) (k : Nat) (x : FuncSt) : (s.setFunc k x).func k = x := Map.get_set ..
theorem State.func_setFunc_ne (s : State) {j k : Nat} (x : FuncSt) (h : j ≠ k) : (s.setFunc k x).func j = s.func j :=
  Map.get_set_ne _ _ _ h
@[simp] theorem State.func_modFunc (s : State) (k : Nat) (g : FuncSt → FuncSt) : (s.modFunc k g).func k = g (s.func k) :=
  Map.get_set ..
theorem State.func_modFunc_ne (s : State) {j k : Nat} (g : FuncSt → FuncSt) (h : j ≠ k) : (s.modFunc k g).func j = s.func j :=
  Map.get_set_ne _ _ _ h
@[simp] theorem State.port_setPort (s : State) (k : Nat) (x : PortSt) : (s.setPort k x).port k = x := Map.get_set ..
theorem State.port_setPort_ne (s : State) {j k : Nat} (x : PortSt) (h : j ≠ k) : (s.setPort k x).port j = s.port j :=
  Map.get_set_ne _ _ _ h
@[simp] theorem State.port_modPort (s : State) (k : Nat) (f : PortSt → PortSt) : (s.modPort k f).port k = f (s.port k) :=
  Map.get_set ..
theorem State.port_modPort_ne (s : State) {j k : Nat} (f : PortSt → PortSt) (h : j ≠ k) : (s.modPort k f).port j = s.port j :=
  Map.get_set_ne _ _ _ h

/-! ### Accessors after an update of another part -/

@[simp] theorem State.core_setReg (s : State) (r₁ : Reg) (i₁ : Nat) (v₁ : U64) (p : Nat) : (s.setReg r₁ i₁ v₁).core p = s.core p := rfl
@[simp] theorem State.quad_setReg (s : State) (r₁ : Reg) (i₁ : Nat) (v₁ : U64) (q : Nat) : (s.setReg r₁ i₁ v₁).quad q = s.quad q := rfl
@[simp] theorem State.func_setReg (s : State) (r₁ : Reg) (i₁ : Nat) (v₁ : U64) (k : Nat) : (s.setReg r₁ i₁ v₁).func k = s.func k := rfl
@[simp] theorem State.port_setReg (s : State) (r₁ : Reg) (i₁ : Nat) (v₁ : U64) (k : Nat) : (s.setReg r₁ i₁ v₁).port k = s.port k := rfl
@[simp] theorem State.phys_setReg (s : State) (r₁ : Reg) (i₁ : Nat) (v₁ : U64) (v : Nat) : (s.setReg r₁ i₁ v₁).phys v = s.phys v := rfl
@[simp] theorem State.virtOf_setReg (s : State) (r₁ : Reg) (i₁ : Nat) (v₁ : U64) (p : Nat) : (s.setReg r₁ i₁ v₁).virtOf p = s.virtOf p := rfl
@[simp] theorem State.outMask_setReg (s : State) (r₁ : Reg) (i₁ : Nat) (v₁ : U64) (q r : Nat) : (s.setReg r₁ i₁ v₁).outMask q r = s.outMask q r := rfl
@[simp] theorem State.core_setFld (s : State) (r₁ : Reg) (i₁ hi₁ lo₁ v₁ : Nat) (p : Nat) : (s.setFld r₁ i₁ hi₁ lo₁ v₁).core p = s.core p := rfl
@[simp] theorem State.quad_setFld (s : State) (r₁ : Reg) (i₁ hi₁ lo₁ v₁ : Nat) (q : Nat) : (s.setFld r₁ i₁ hi₁ lo₁ v₁).quad q = s.quad q := rfl
@[simp] theorem State.func_setFld (s : State) (r₁ : Reg) (i₁ hi₁ lo₁ v₁ : Nat) (k : Nat) : (s.setFld r₁ i₁ hi₁ lo₁ v₁).func k = s.func k := rfl
@[simp] theorem State.port_setFld (s : State) (r₁ : Reg) (i₁ hi₁ lo₁ v₁ : Nat) (k : Nat) : (s.setFld r₁ i₁ hi₁ lo₁ v₁).port k = s.port k := rfl
@[simp] theorem State.phys_setFld (s : State) (r₁ : Reg) (i₁ hi₁ lo₁ v₁ : Nat) (v : Nat) : (s.setFld r₁ i₁ hi₁ lo₁ v₁).phys v = s.phys v := rfl
@[simp] theorem State.virtOf_setFld (s : State) (r₁ : Reg) (i₁ hi₁ lo₁ v₁ : Nat) (p : Nat) : (s.setFld r₁ i₁ hi₁ lo₁ v₁).virtOf p = s.virtOf p := rfl
@[simp] theorem State.outMask_setFld (s : State) (r₁ : Reg) (i₁ hi₁ lo₁ v₁ : Nat) (q r : Nat) : (s.setFld r₁ i₁ hi₁ lo₁ v₁).outMask q r = s.outMask q r := rfl
@[simp] theorem State.core_setBit (s : State) (r₁ : Reg) (i₁ k₁ : Nat) (b₁ : Bool) (p : Nat) : (s.setBit r₁ i₁ k₁ b₁).core p = s.core p := rfl
@[simp] theorem State.quad_setBit (s : State) (r₁ : Reg) (i₁ k₁ : Nat) (b₁ : Bool) (q : Nat) : (s.setBit r₁ i₁ k₁ b₁).quad q = s.quad q := rfl
@[simp] theorem State.func_setBit (s : State) (r₁ : Reg) (i₁ k₁ : Nat) (b₁ : Bool) (k : Nat) : (s.setBit r₁ i₁ k₁ b₁).func k = s.func k := rfl
@[simp] theorem State.port_setBit (s : State) (r₁ : Reg) (i₁ k₁ : Nat) (b₁ : Bool) (k : Nat) : (s.setBit r₁ i₁ k₁ b₁).port k = s.port k := rfl
@[simp] theorem State.phys_setBit (s : State) (r₁ : Reg) (i₁ k₁ : Nat) (b₁ : Bool) (v : Nat) : (s.setBit r₁ i₁ k₁ b₁).phys v = s.phys v := rfl
@[simp] theorem State.virtOf_setBit (s : State) (r₁ : Reg) (i₁ k₁ : Nat) (b₁ : Bool) (p : Nat) : (s.setBit r₁ i₁ k₁ b₁).virtOf p = s.virtOf p := rfl
@[simp] theorem State.outMask_setBit (s : State) (r₁ : Reg) (i₁ k₁ : Nat) (b₁ : Bool) (q r : Nat) : (s.setBit r₁ i₁ k₁ b₁).outMask q r = s.outMask q r := rfl
@[simp] theorem State.core_bump (s : State) (r₁ : Reg) (i₁ hi₁ lo₁ n₁ : Nat) (p : Nat) : (s.bump r₁ i₁ hi₁ lo₁ n₁).core p = s.core p := rfl
@[simp] theorem State.quad_bump (s : State) (r₁ : Reg) (i₁ hi₁ lo₁ n₁ : Nat) (q : Nat) : (s.bump r₁ i₁ hi₁ lo₁ n₁).quad q = s.quad q := rfl
@[simp] theorem State.func_bump (s : State) (r₁ : Reg) (i₁ hi₁ lo₁ n₁ : Nat) (k : Nat) : (s.bump r₁ i₁ hi₁ lo₁ n₁).func k = s.func k := rfl
@[simp] theorem State.port_bump (s : State) (r₁ : Reg) (i₁ hi₁ lo₁ n₁ : Nat) (k : Nat) : (s.bump r₁ i₁ hi₁ lo₁ n₁).port k = s.port k := rfl
@[simp] theorem State.phys_bump (s : State) (r₁ : Reg) (i₁ hi₁ lo₁ n₁ : Nat) (v : Nat) : (s.bump r₁ i₁ hi₁ lo₁ n₁).phys v = s.phys v := rfl
@[simp] theorem State.virtOf_bump (s : State) (r₁ : Reg) (i₁ hi₁ lo₁ n₁ : Nat) (p : Nat) : (s.bump r₁ i₁ hi₁ lo₁ n₁).virtOf p = s.virtOf p := rfl
@[simp] theorem State.outMask_bump (s : State) (r₁ : Reg) (i₁ hi₁ lo₁ n₁ : Nat) (q r : Nat) : (s.bump r₁ i₁ hi₁ lo₁ n₁).outMask q r = s.outMask q r := rfl
@[simp] theorem State.core_bumpWrap (s : State) (r₁ : Reg) (i₁ hi₁ lo₁ n₁ : Nat) (p : Nat) : (s.bumpWrap r₁ i₁ hi₁ lo₁ n₁).core p = s.core p := rfl
@[simp] theorem State.quad_bumpWrap (s : State) (r₁ : Reg) (i₁ hi₁ lo₁ n₁ : Nat) (q : Nat) : (s.bumpWrap r₁ i₁ hi₁ lo₁ n₁).quad q = s.quad q := rfl
@[simp] theorem State.func_bumpWrap (s : State) (r₁ : Reg) (i₁ hi₁ lo₁ n₁ : Nat) (k : Nat) : (s.bumpWrap r₁ i₁ hi₁ lo₁ n₁).func k = s.func k := rfl
@[simp] theorem State.port_bumpWrap (s : State) (r₁ : Reg) (i₁ hi₁ lo₁ n₁ : Nat) (k : Nat) : (s.bumpWrap r₁ i₁ hi₁ lo₁ n₁).port k = s.port k := rfl
@[simp] theorem State.phys_bumpWrap (s : State) (r₁ : Reg) (i₁ hi₁ lo₁ n₁ : Nat) (v : Nat) : (s.bumpWrap r₁ i₁ hi₁ lo₁ n₁).phys v = s.phys v := rfl
@[simp] theorem State.virtOf_bumpWrap (s : State) (r₁ : Reg) (i₁ hi₁ lo₁ n₁ : Nat) (p : Nat) : (s.bumpWrap r₁ i₁ hi₁ lo₁ n₁).virtOf p = s.virtOf p := rfl
@[simp] theorem State.outMask_bumpWrap (s : State) (r₁ : Reg) (i₁ hi₁ lo₁ n₁ : Nat) (q r : Nat) : (s.bumpWrap r₁ i₁ hi₁ lo₁ n₁).outMask q r = s.outMask q r := rfl
@[simp] theorem State.quad_setCore (s : State) (p₁ : Nat) (c₁ : CoreSt) (q : Nat) : (s.setCore p₁ c₁).quad q = s.quad q := rfl
@[simp] theorem State.func_setCore (s : State) (p₁ : Nat) (c₁ : CoreSt) (k : Nat) : (s.setCore p₁ c₁).func k = s.func k := rfl
@[simp] theorem State.port_setCore (s : State) (p₁ : Nat) (c₁ : CoreSt) (k : Nat) : (s.setCore p₁ c₁).port k = s.port k := rfl
@[simp] theorem State.reg_setCore (s : State) (p₁ : Nat) (c₁ : CoreSt) (r : Reg) (i : Nat) : (s.setCore p₁ c₁).reg r i = s.reg r i := rfl
@[simp] theorem State.phys_setCore (s : State) (p₁ : Nat) (c₁ : CoreSt) (v : Nat) : (s.setCore p₁ c₁).phys v = s.phys v := rfl
@[simp] theorem State.virtOf_setCore (s : State) (p₁ : Nat) (c₁ : CoreSt) (p : Nat) : (s.setCore p₁ c₁).virtOf p = s.virtOf p := rfl
@[simp] theorem State.outMask_setCore (s : State) (p₁ : Nat) (c₁ : CoreSt) (q r : Nat) : (s.setCore p₁ c₁).outMask q r = s.outMask q r := rfl
@[simp] theorem State.quad_modCore (s : State) (p₁ : Nat) (f₁ : CoreSt → CoreSt) (q : Nat) : (s.modCore p₁ f₁).quad q = s.quad q := rfl
@[simp] theorem State.func_modCore (s : State) (p₁ : Nat) (f₁ : CoreSt → CoreSt) (k : Nat) : (s.modCore p₁ f₁).func k = s.func k := rfl
@[simp] theorem State.port_modCore (s : State) (p₁ : Nat) (f₁ : CoreSt → CoreSt) (k : Nat) : (s.modCore p₁ f₁).port k = s.port k := rfl
@[simp] theorem State.reg_modCore (s : State) (p₁ : Nat) (f₁ : CoreSt → CoreSt) (r : Reg) (i : Nat) : (s.modCore p₁ f₁).reg r i = s.reg r i := rfl
@[simp] theorem State.phys_modCore (s : State) (p₁ : Nat) (f₁ : CoreSt → CoreSt) (v : Nat) : (s.modCore p₁ f₁).phys v = s.phys v := rfl
@[simp] theorem State.virtOf_modCore (s : State) (p₁ : Nat) (f₁ : CoreSt → CoreSt) (p : Nat) : (s.modCore p₁ f₁).virtOf p = s.virtOf p := rfl
@[simp] theorem State.outMask_modCore (s : State) (p₁ : Nat) (f₁ : CoreSt → CoreSt) (q r : Nat) : (s.modCore p₁ f₁).outMask q r = s.outMask q r := rfl
@[simp] theorem State.core_setQuad (s : State) (q₁ : Nat) (x₁ : QuadSt) (p : Nat) : (s.setQuad q₁ x₁).core p = s.core p := rfl
@[simp] theorem State.func_setQuad (s : State) (q₁ : Nat) (x₁ : QuadSt) (k : Nat) : (s.setQuad q₁ x₁).func k = s.func k := rfl
@[simp] theorem State.port_setQuad (s : State) (q₁ : Nat) (x₁ : QuadSt) (k : Nat) : (s.setQuad q₁ x₁).port k = s.port k := rfl
@[simp] theorem State.reg_setQuad (s : State) (q₁ : Nat) (x₁ : QuadSt) (r : Reg) (i : Nat) : (s.setQuad q₁ x₁).reg r i = s.reg r i := rfl
@[simp] theorem State.phys_setQuad (s : State) (q₁ : Nat) (x₁ : QuadSt) (v : Nat) : (s.setQuad q₁ x₁).phys v = s.phys v := rfl
@[simp] theorem State.virtOf_setQuad (s : State) (q₁ : Nat) (x₁ : QuadSt) (p : Nat) : (s.setQuad q₁ x₁).virtOf p = s.virtOf p := rfl
@[simp] theorem State.outMask_setQuad (s : State) (q₁ : Nat) (x₁ : QuadSt) (q r : Nat) : (s.setQuad q₁ x₁).outMask q r = s.outMask q r := rfl
@[simp] theorem State.core_modQuad (s : State) (q₁ : Nat) (f₁ : QuadSt → QuadSt) (p : Nat) : (s.modQuad q₁ f₁).core p = s.core p := rfl
@[simp] theorem State.func_modQuad (s : State) (q₁ : Nat) (f₁ : QuadSt → QuadSt) (k : Nat) : (s.modQuad q₁ f₁).func k = s.func k := rfl
@[simp] theorem State.port_modQuad (s : State) (q₁ : Nat) (f₁ : QuadSt → QuadSt) (k : Nat) : (s.modQuad q₁ f₁).port k = s.port k := rfl
@[simp] theorem State.reg_modQuad (s : State) (q₁ : Nat) (f₁ : QuadSt → QuadSt) (r : Reg) (i : Nat) : (s.modQuad q₁ f₁).reg r i = s.reg r i := rfl
@[simp] theorem State.phys_modQuad (s : State) (q₁ : Nat) (f₁ : QuadSt → QuadSt) (v : Nat) : (s.modQuad q₁ f₁).phys v = s.phys v := rfl
@[simp] theorem State.virtOf_modQuad (s : State) (q₁ : Nat) (f₁ : QuadSt → QuadSt) (p : Nat) : (s.modQuad q₁ f₁).virtOf p = s.virtOf p := rfl
@[simp] theorem State.outMask_modQuad (s : State) (q₁ : Nat) (f₁ : QuadSt → QuadSt) (q r : Nat) : (s.modQuad q₁ f₁).outMask q r = s.outMask q r := rfl
@[simp] theorem State.core_modSlot (s : State) (q₁ n₁ : Nat) (f₁ : SlotSt → SlotSt) (p : Nat) : (s.modSlot q₁ n₁ f₁).core p = s.core p := rfl
@[simp] theorem State.func_modSlot (s : State) (q₁ n₁ : Nat) (f₁ : SlotSt → SlotSt) (k : Nat) : (s.modSlot q₁ n₁ f₁).func k = s.func k := rfl
@[simp] theorem State.port_modSlot (s : State) (q₁ n₁ : Nat) (f₁ : SlotSt → SlotSt) (k : Nat) : (s.modSlot q₁ n₁ f₁).port k = s.port k := rfl
@[simp] theorem State.reg_modSlot (s : State) (q₁ n₁ : Nat) (f₁ : SlotSt → SlotSt) (r : Reg) (i : Nat) : (s.modSlot q₁ n₁ f₁).reg r i = s.reg r i := rfl
@[simp] theorem State.phys_modSlot (s : State) (q₁ n₁ : Nat) (f₁ : SlotSt → SlotSt) (v : Nat) : (s.modSlot q₁ n₁ f₁).phys v = s.phys v := rfl
@[simp] theorem State.virtOf_modSlot (s : State) (q₁ n₁ : Nat) (f₁ : SlotSt → SlotSt) (p : Nat) : (s.modSlot q₁ n₁ f₁).virtOf p = s.virtOf p := rfl
@[simp] theorem State.outMask_modSlot (s : State) (q₁ n₁ : Nat) (f₁ : SlotSt → SlotSt) (q r : Nat) : (s.modSlot q₁ n₁ f₁).outMask q r = s.outMask q r := rfl
@[simp] theorem State.core_setFunc (s : State) (k₁ : Nat) (x₁ : FuncSt) (p : Nat) : (s.setFunc k₁ x₁).core p = s.core p := rfl
@[simp] theorem State.quad_setFunc (s : State) (k₁ : Nat) (x₁ : FuncSt) (q : Nat) : (s.setFunc k₁ x₁).quad q = s.quad q := rfl
@[simp] theorem State.port_setFunc (s : State) (k₁ : Nat) (x₁ : FuncSt) (k : Nat) : (s.setFunc k₁ x₁).port k = s.port k := rfl
@[simp] theorem State.reg_setFunc (s : State) (k₁ : Nat) (x₁ : FuncSt) (r : Reg) (i : Nat) : (s.setFunc k₁ x₁).reg r i = s.reg r i := rfl
@[simp] theorem State.phys_setFunc (s : State) (k₁ : Nat) (x₁ : FuncSt) (v : Nat) : (s.setFunc k₁ x₁).phys v = s.phys v := rfl
@[simp] theorem State.virtOf_setFunc (s : State) (k₁ : Nat) (x₁ : FuncSt) (p : Nat) : (s.setFunc k₁ x₁).virtOf p = s.virtOf p := rfl
@[simp] theorem State.outMask_setFunc (s : State) (k₁ : Nat) (x₁ : FuncSt) (q r : Nat) : (s.setFunc k₁ x₁).outMask q r = s.outMask q r := rfl
@[simp] theorem State.core_modFunc (s : State) (k₁ : Nat) (g₁ : FuncSt → FuncSt) (p : Nat) : (s.modFunc k₁ g₁).core p = s.core p := rfl
@[simp] theorem State.quad_modFunc (s : State) (k₁ : Nat) (g₁ : FuncSt → FuncSt) (q : Nat) : (s.modFunc k₁ g₁).quad q = s.quad q := rfl
@[simp] theorem State.port_modFunc (s : State) (k₁ : Nat) (g₁ : FuncSt → FuncSt) (k : Nat) : (s.modFunc k₁ g₁).port k = s.port k := rfl
@[simp] theorem State.reg_modFunc (s : State) (k₁ : Nat) (g₁ : FuncSt → FuncSt) (r : Reg) (i : Nat) : (s.modFunc k₁ g₁).reg r i = s.reg r i := rfl
@[simp] theorem State.phys_modFunc (s : State) (k₁ : Nat) (g₁ : FuncSt → FuncSt) (v : Nat) : (s.modFunc k₁ g₁).phys v = s.phys v := rfl
@[simp] theorem State.virtOf_modFunc (s : State) (k₁ : Nat) (g₁ : FuncSt → FuncSt) (p : Nat) : (s.modFunc k₁ g₁).virtOf p = s.virtOf p := rfl
@[simp] theorem State.outMask_modFunc (s : State) (k₁ : Nat) (g₁ : FuncSt → FuncSt) (q r : Nat) : (s.modFunc k₁ g₁).outMask q r = s.outMask q r := rfl
@[simp] theorem State.core_send (s : State) (o₁ : Out) (p : Nat) : (s.send o₁).core p = s.core p := rfl
@[simp] theorem State.quad_send (s : State) (o₁ : Out) (q : Nat) : (s.send o₁).quad q = s.quad q := rfl
@[simp] theorem State.func_send (s : State) (o₁ : Out) (k : Nat) : (s.send o₁).func k = s.func k := rfl
@[simp] theorem State.port_send (s : State) (o₁ : Out) (k : Nat) : (s.send o₁).port k = s.port k := rfl
@[simp] theorem State.reg_send (s : State) (o₁ : Out) (r : Reg) (i : Nat) : (s.send o₁).reg r i = s.reg r i := rfl
@[simp] theorem State.phys_send (s : State) (o₁ : Out) (v : Nat) : (s.send o₁).phys v = s.phys v := rfl
@[simp] theorem State.virtOf_send (s : State) (o₁ : Out) (p : Nat) : (s.send o₁).virtOf p = s.virtOf p := rfl
@[simp] theorem State.outMask_send (s : State) (o₁ : Out) (q r : Nat) : (s.send o₁).outMask q r = s.outMask q r := rfl
@[simp] theorem State.core_setPort (s : State) (k₁ : Nat) (x₁ : PortSt) (p : Nat) : (s.setPort k₁ x₁).core p = s.core p := rfl
@[simp] theorem State.quad_setPort (s : State) (k₁ : Nat) (x₁ : PortSt) (q : Nat) : (s.setPort k₁ x₁).quad q = s.quad q := rfl
@[simp] theorem State.func_setPort (s : State) (k₁ : Nat) (x₁ : PortSt) (k : Nat) : (s.setPort k₁ x₁).func k = s.func k := rfl
@[simp] theorem State.reg_setPort (s : State) (k₁ : Nat) (x₁ : PortSt) (r : Reg) (i : Nat) : (s.setPort k₁ x₁).reg r i = s.reg r i := rfl
@[simp] theorem State.phys_setPort (s : State) (k₁ : Nat) (x₁ : PortSt) (v : Nat) : (s.setPort k₁ x₁).phys v = s.phys v := rfl
@[simp] theorem State.virtOf_setPort (s : State) (k₁ : Nat) (x₁ : PortSt) (p : Nat) : (s.setPort k₁ x₁).virtOf p = s.virtOf p := rfl
@[simp] theorem State.outMask_setPort (s : State) (k₁ : Nat) (x₁ : PortSt) (q r : Nat) : (s.setPort k₁ x₁).outMask q r = s.outMask q r := rfl
@[simp] theorem State.core_modPort (s : State) (k₁ : Nat) (f₁ : PortSt → PortSt) (p : Nat) : (s.modPort k₁ f₁).core p = s.core p := rfl
@[simp] theorem State.quad_modPort (s : State) (k₁ : Nat) (f₁ : PortSt → PortSt) (q : Nat) : (s.modPort k₁ f₁).quad q = s.quad q := rfl
@[simp] theorem State.func_modPort (s : State) (k₁ : Nat) (f₁ : PortSt → PortSt) (k : Nat) : (s.modPort k₁ f₁).func k = s.func k := rfl
@[simp] theorem State.reg_modPort (s : State) (k₁ : Nat) (f₁ : PortSt → PortSt) (r : Reg) (i : Nat) : (s.modPort k₁ f₁).reg r i = s.reg r i := rfl
@[simp] theorem State.phys_modPort (s : State) (k₁ : Nat) (f₁ : PortSt → PortSt) (v : Nat) : (s.modPort k₁ f₁).phys v = s.phys v := rfl
@[simp] theorem State.virtOf_modPort (s : State) (k₁ : Nat) (f₁ : PortSt → PortSt) (p : Nat) : (s.modPort k₁ f₁).virtOf p = s.virtOf p := rfl
@[simp] theorem State.outMask_modPort (s : State) (k₁ : Nat) (f₁ : PortSt → PortSt) (q r : Nat) : (s.modPort k₁ f₁).outMask q r = s.outMask q r := rfl
@[simp] theorem State.core_setBuf (s : State) (p₁ inp₁ ch₁ : Nat) (l₁ : List MeshFlit) (p : Nat) : (s.setBuf p₁ inp₁ ch₁ l₁).core p = s.core p := rfl
@[simp] theorem State.quad_setBuf (s : State) (p₁ inp₁ ch₁ : Nat) (l₁ : List MeshFlit) (q : Nat) : (s.setBuf p₁ inp₁ ch₁ l₁).quad q = s.quad q := rfl
@[simp] theorem State.func_setBuf (s : State) (p₁ inp₁ ch₁ : Nat) (l₁ : List MeshFlit) (k : Nat) : (s.setBuf p₁ inp₁ ch₁ l₁).func k = s.func k := rfl
@[simp] theorem State.port_setBuf (s : State) (p₁ inp₁ ch₁ : Nat) (l₁ : List MeshFlit) (k : Nat) : (s.setBuf p₁ inp₁ ch₁ l₁).port k = s.port k := rfl
@[simp] theorem State.reg_setBuf (s : State) (p₁ inp₁ ch₁ : Nat) (l₁ : List MeshFlit) (r : Reg) (i : Nat) : (s.setBuf p₁ inp₁ ch₁ l₁).reg r i = s.reg r i := rfl
@[simp] theorem State.phys_setBuf (s : State) (p₁ inp₁ ch₁ : Nat) (l₁ : List MeshFlit) (v : Nat) : (s.setBuf p₁ inp₁ ch₁ l₁).phys v = s.phys v := rfl
@[simp] theorem State.virtOf_setBuf (s : State) (p₁ inp₁ ch₁ : Nat) (l₁ : List MeshFlit) (p : Nat) : (s.setBuf p₁ inp₁ ch₁ l₁).virtOf p = s.virtOf p := rfl
@[simp] theorem State.outMask_setBuf (s : State) (p₁ inp₁ ch₁ : Nat) (l₁ : List MeshFlit) (q r : Nat) : (s.setBuf p₁ inp₁ ch₁ l₁).outMask q r = s.outMask q r := rfl
@[simp] theorem State.core_modTime (s : State) (f₁ : TimeSt → TimeSt) (p : Nat) : (s.modTime f₁).core p = s.core p := rfl
@[simp] theorem State.quad_modTime (s : State) (f₁ : TimeSt → TimeSt) (q : Nat) : (s.modTime f₁).quad q = s.quad q := rfl
@[simp] theorem State.func_modTime (s : State) (f₁ : TimeSt → TimeSt) (k : Nat) : (s.modTime f₁).func k = s.func k := rfl
@[simp] theorem State.port_modTime (s : State) (f₁ : TimeSt → TimeSt) (k : Nat) : (s.modTime f₁).port k = s.port k := rfl
@[simp] theorem State.reg_modTime (s : State) (f₁ : TimeSt → TimeSt) (r : Reg) (i : Nat) : (s.modTime f₁).reg r i = s.reg r i := rfl
@[simp] theorem State.phys_modTime (s : State) (f₁ : TimeSt → TimeSt) (v : Nat) : (s.modTime f₁).phys v = s.phys v := rfl
@[simp] theorem State.virtOf_modTime (s : State) (f₁ : TimeSt → TimeSt) (p : Nat) : (s.modTime f₁).virtOf p = s.virtOf p := rfl
@[simp] theorem State.outMask_modTime (s : State) (f₁ : TimeSt → TimeSt) (q r : Nat) : (s.modTime f₁).outMask q r = s.outMask q r := rfl
@[simp] theorem State.core_modKeeper (s : State) (f₁ : KeeperSt → KeeperSt) (p : Nat) : (s.modKeeper f₁).core p = s.core p := rfl
@[simp] theorem State.quad_modKeeper (s : State) (f₁ : KeeperSt → KeeperSt) (q : Nat) : (s.modKeeper f₁).quad q = s.quad q := rfl
@[simp] theorem State.func_modKeeper (s : State) (f₁ : KeeperSt → KeeperSt) (k : Nat) : (s.modKeeper f₁).func k = s.func k := rfl
@[simp] theorem State.port_modKeeper (s : State) (f₁ : KeeperSt → KeeperSt) (k : Nat) : (s.modKeeper f₁).port k = s.port k := rfl
@[simp] theorem State.reg_modKeeper (s : State) (f₁ : KeeperSt → KeeperSt) (r : Reg) (i : Nat) : (s.modKeeper f₁).reg r i = s.reg r i := rfl
@[simp] theorem State.phys_modKeeper (s : State) (f₁ : KeeperSt → KeeperSt) (v : Nat) : (s.modKeeper f₁).phys v = s.phys v := rfl
@[simp] theorem State.virtOf_modKeeper (s : State) (f₁ : KeeperSt → KeeperSt) (p : Nat) : (s.modKeeper f₁).virtOf p = s.virtOf p := rfl
@[simp] theorem State.outMask_modKeeper (s : State) (f₁ : KeeperSt → KeeperSt) (q r : Nat) : (s.modKeeper f₁).outMask q r = s.outMask q r := rfl
@[simp] theorem State.core_modPower (s : State) (f₁ : PowerSt → PowerSt) (p : Nat) : (s.modPower f₁).core p = s.core p := rfl
@[simp] theorem State.quad_modPower (s : State) (f₁ : PowerSt → PowerSt) (q : Nat) : (s.modPower f₁).quad q = s.quad q := rfl
@[simp] theorem State.func_modPower (s : State) (f₁ : PowerSt → PowerSt) (k : Nat) : (s.modPower f₁).func k = s.func k := rfl
@[simp] theorem State.port_modPower (s : State) (f₁ : PowerSt → PowerSt) (k : Nat) : (s.modPower f₁).port k = s.port k := rfl
@[simp] theorem State.reg_modPower (s : State) (f₁ : PowerSt → PowerSt) (r : Reg) (i : Nat) : (s.modPower f₁).reg r i = s.reg r i := rfl
@[simp] theorem State.phys_modPower (s : State) (f₁ : PowerSt → PowerSt) (v : Nat) : (s.modPower f₁).phys v = s.phys v := rfl
@[simp] theorem State.virtOf_modPower (s : State) (f₁ : PowerSt → PowerSt) (p : Nat) : (s.modPower f₁).virtOf p = s.virtOf p := rfl
@[simp] theorem State.outMask_modPower (s : State) (f₁ : PowerSt → PowerSt) (q r : Nat) : (s.modPower f₁).outMask q r = s.outMask q r := rfl
@[simp] theorem State.core_modTrace (s : State) (f₁ : TraceSt → TraceSt) (p : Nat) : (s.modTrace f₁).core p = s.core p := rfl
@[simp] theorem State.quad_modTrace (s : State) (f₁ : TraceSt → TraceSt) (q : Nat) : (s.modTrace f₁).quad q = s.quad q := rfl
@[simp] theorem State.func_modTrace (s : State) (f₁ : TraceSt → TraceSt) (k : Nat) : (s.modTrace f₁).func k = s.func k := rfl
@[simp] theorem State.port_modTrace (s : State) (f₁ : TraceSt → TraceSt) (k : Nat) : (s.modTrace f₁).port k = s.port k := rfl
@[simp] theorem State.reg_modTrace (s : State) (f₁ : TraceSt → TraceSt) (r : Reg) (i : Nat) : (s.modTrace f₁).reg r i = s.reg r i := rfl
@[simp] theorem State.phys_modTrace (s : State) (f₁ : TraceSt → TraceSt) (v : Nat) : (s.modTrace f₁).phys v = s.phys v := rfl
@[simp] theorem State.virtOf_modTrace (s : State) (f₁ : TraceSt → TraceSt) (p : Nat) : (s.modTrace f₁).virtOf p = s.virtOf p := rfl
@[simp] theorem State.outMask_modTrace (s : State) (f₁ : TraceSt → TraceSt) (q r : Nat) : (s.modTrace f₁).outMask q r = s.outMask q r := rfl
@[simp] theorem State.core_modTap (s : State) (f₁ : TapSt → TapSt) (p : Nat) : (s.modTap f₁).core p = s.core p := rfl
@[simp] theorem State.quad_modTap (s : State) (f₁ : TapSt → TapSt) (q : Nat) : (s.modTap f₁).quad q = s.quad q := rfl
@[simp] theorem State.func_modTap (s : State) (f₁ : TapSt → TapSt) (k : Nat) : (s.modTap f₁).func k = s.func k := rfl
@[simp] theorem State.port_modTap (s : State) (f₁ : TapSt → TapSt) (k : Nat) : (s.modTap f₁).port k = s.port k := rfl
@[simp] theorem State.reg_modTap (s : State) (f₁ : TapSt → TapSt) (r : Reg) (i : Nat) : (s.modTap f₁).reg r i = s.reg r i := rfl
@[simp] theorem State.phys_modTap (s : State) (f₁ : TapSt → TapSt) (v : Nat) : (s.modTap f₁).phys v = s.phys v := rfl
@[simp] theorem State.virtOf_modTap (s : State) (f₁ : TapSt → TapSt) (p : Nat) : (s.modTap f₁).virtOf p = s.virtOf p := rfl
@[simp] theorem State.outMask_modTap (s : State) (f₁ : TapSt → TapSt) (q r : Nat) : (s.modTap f₁).outMask q r = s.outMask q r := rfl

end Sys2Proof.Machine
end

