-- ==== Sys2Proof/Laws/Sequencer.lean ====
section
/-! SUPPORT. What the sequencer's shared operations do: issuing, finishing an instruction, loops, exceptions, registers. -/
namespace Sys2Proof.Machine

/-! ### Running an operation on a core -/

@[simp] theorem State.runCore_nil (s : State) (p : Nat) (c : CoreSt) : s.runCore p (c, []) = s.setCore p c := rfl

theorem State.onCore_of (s : State) {v p : Nat} (h : s.phys v = some p) (f : CoreSt → CoreSt × List CoreEvent) :
    s.onCore v f = s.runCore p (f (s.core p)) := by unfold State.onCore; rw [h]

theorem State.onCoreReg_of (s : State) {v p : Nat} (h : s.phys v = some p) (f : CoreSt → CoreSt) :
    s.onCoreReg v f = s.setCore p (f (s.core p)) := by unfold State.onCoreReg; rw [h]; rfl

theorem CoreSt.issuing_of {c : CoreSt} (h1 : c.inReset = false) (h2 : c.seq.run = .issuing) : c.issuing = true := by
  simp [CoreSt.issuing, h1, h2]

theorem State.Issues.issuing {s : State} {v p : Nat} (h : s.Issues v p) : (s.core p).issuing = true :=
  CoreSt.issuing_of h.2.1 h.2.2

/-- An issued instruction is finished on the core that counted its issue. -/
theorem seqIssue_of {c : CoreSt} (h1 : c.inReset = false) (h2 : c.seq.run = .issuing) (f : SeqSt → SeqRes) :
    seqIssue c f = seqFinish (c.occur 0x03) (f c.seq) := by
  unfold seqIssue; rw [h1, h2]; simp

theorem issueOn_of {s : State} {v p : Nat} (h : s.Issues v p) (f : SeqSt → SeqRes) :
    issueOn s v f = s.runCore p (seqFinish ((s.core p).occur 0x03) (f (s.core p).seq)) := by
  unfold issueOn; rw [State.onCore_of s h.1, seqIssue_of h.2.1 h.2.2]

@[simp] theorem CoreSt.occur_seq (c : CoreSt) (e m : Nat) : (c.occur e m).seq = c.seq := rfl

/-! ### Registers -/

theorem SeqSt.rd_wr (q : SeqSt) (n m : Nat) (x : U64) :
    (q.wr n x).rd m = if m = 0 then 0 else if m = n then x else q.rd m := by
  unfold SeqSt.wr SeqSt.rd
  by_cases hm : m = 0
  · simp [hm]
  · by_cases hn : n = 0
    · simp [hm, hn]
    · simp [hm, hn, Map.get_set_if]

@[simp] theorem SeqSt.wr_loops (q : SeqSt) (n : Nat) (x : U64) : (q.wr n x).loops = q.loops := by unfold SeqSt.wr; split <;> rfl
@[simp] theorem SeqSt.wr_pc (q : SeqSt) (n : Nat) (x : U64) : (q.wr n x).pc = q.pc := by unfold SeqSt.wr; split <;> rfl
@[simp] theorem SeqSt.wr_run (q : SeqSt) (n : Nat) (x : U64) : (q.wr n x).run = q.run := by unfold SeqSt.wr; split <;> rfl
@[simp] theorem SeqSt.wr_codeLen (q : SeqSt) (n : Nat) (x : U64) : (q.wr n x).codeLen = q.codeLen := by
  unfold SeqSt.wr; split <;> rfl
@[simp] theorem SeqSt.wr_limit (q : SeqSt) (n : Nat) (x : U64) : (q.wr n x).limit = q.limit := by simp [SeqSt.limit]

/-! ### Finishing an instruction -/

/-- No body ends at an instruction: the loops stay and the next instruction follows. -/
theorem loopEnd_plain {ls : List LoopLevel} {pc : Nat} (h : ∀ l, ls.head? = some l → l.last ≠ pc) :
    loopEnd ls pc = (ls, pc + 1) := by
  cases ls with
  | nil => rfl
  | cons l ls => have := h l rfl; simp [loopEnd, this]

/-- The program counter moves to an instruction that exists. -/
theorem seqGoto_ok (c : CoreSt) (q : SeqSt) {n : Nat} (h : n < q.limit) :
    seqGoto c q (n : Int) = ({ c with seq := { q with pc := n, run := .issuing } }, []) := by
  unfold seqGoto
  rw [if_pos (by omega)]
  simp

theorem seqAdvance_plain (c : CoreSt) (q : SeqSt) (last : Nat) (h : ∀ l, q.loops.head? = some l → l.last ≠ last)
    (hl : last + 1 < q.limit) :
    seqAdvance c q last = ({ c with seq := { q with pc := last + 1, run := .issuing } }, []) := by
  unfold seqAdvance
  rw [loopEnd_plain h]
  exact seqGoto_ok c _ hl

/-- A completed instruction that ends no body. -/
theorem seqFinish_ok (c : CoreSt) (q : SeqSt) (hp : c.seq.Plain) (hl : q.loops = c.seq.loops) (hc : q.codeLen = c.seq.codeLen) :
    seqFinish c (.ok q) = ({ c with seq := { q with pc := c.seq.pc + 1, run := .issuing } }, []) := by
  have hlim : q.limit = c.seq.limit := by simp [SeqSt.limit, hc]
  exact seqAdvance_plain c q _ (by rw [hl]; exact hp.1) (by rw [hlim]; exact hp.2)

/-- The step of an instruction that completes with the sequencer `q` on a core whose program goes on. -/
theorem issueOn_ok {s : State} {v p : Nat} (h : s.Issues v p) (hp : (s.core p).seq.Plain) {f : SeqSt → SeqRes} {q : SeqSt}
    (hf : f (s.core p).seq = .ok q) (hl : q.loops = (s.core p).seq.loops) (hc : q.codeLen = (s.core p).seq.codeLen)
    (hr : q.run = .issuing) : issueOn s v f = s.ran p q := by
  rw [issueOn_of h, hf, seqFinish_ok ((s.core p).occur 0x03) q hp hl hc]
  simp [State.ran, State.issued, hr]

theorem issueOn_exc {s : State} {v p : Nat} (h : s.Issues v p) {f : SeqSt → SeqRes} {code : Nat}
    (hf : f (s.core p).seq = .exc code) : issueOn s v f = s.raised p code := by
  rw [issueOn_of h, hf]; rfl

/-! ### Queues and pushes -/

@[simp] theorem CoreSt.setReg_queue (c : CoreSt) (r : Reg) (i : Nat) (v : U64) (k : Nat) : (c.setReg r i v).queue k = c.queue k := rfl
@[simp] theorem CoreSt.setFld_queue (c : CoreSt) (r : Reg) (i hi lo v k : Nat) : (c.setFld r i hi lo v).queue k = c.queue k := rfl
@[simp] theorem CoreSt.setFrame_queue (c : CoreSt) (f : Frame) (k : Nat) : (c.setFrame f).queue k = c.queue k := rfl
@[simp] theorem CoreSt.setQueue_queue (c : CoreSt) (k : Nat) (x : QueueSt) : (c.setQueue k x).queue k = x := Map.get_set ..
theorem CoreSt.setQueue_queue_ne (c : CoreSt) {k j : Nat} (x : QueueSt) (h : j ≠ k) : (c.setQueue k x).queue j = c.queue j :=
  Map.get_set_ne _ _ _ h
@[simp] theorem addStall_queue (c : CoreSt) (n k : Nat) : (addStall c n).queue k = c.queue k := rfl
@[simp] theorem addStall_seq (c : CoreSt) (n : Nat) : (addStall c n).seq = c.seq := rfl

theorem enqueue_queue (c : CoreSt) (r : PushReq) (k : Nat) :
    (enqueue c r).queue k =
      if k = r.queue then { c.queue k with ents := (c.queue k).ents ++ [pushedEntry c r] } else c.queue k := by
  unfold enqueue
  simp only [CoreSt.setFld_queue]
  by_cases h : k = r.queue
  · subst h
    split <;> simp [CoreSt.setFrame, CoreSt.queue, CoreSt.setQueue]
  · split <;> simp [CoreSt.setFrame, CoreSt.queue, CoreSt.setQueue, Map.get_set_ne _ _ _ h, h]

@[simp] theorem enqueue_seq (c : CoreSt) (r : PushReq) : (enqueue c r).seq = c.seq := by
  unfold enqueue; simp only; split <;> rfl

/-- A push with room, on a core whose program goes on. -/
theorem doPush_room {c : CoreSt} {q : SeqSt} {r : PushReq} (n : Nat) (h : pushOutcome c r = .room) (hp : q.Plain)
    (hpc : q.pc = c.seq.pc) :
    doPush c q r n =
      ({ (enqueue (addStall c n) r).occur 0x03 with seq := { q with pc := q.pc + 1, run := .issuing } }, []) := by
  unfold doPush
  rw [h]
  simp only
  rw [← hpc, seqAdvance_plain _ _ _ hp.1 hp.2]

@[simp] theorem CoreSt.occur_queue (c : CoreSt) (e m k : Nat) : (c.occur e m).queue k = c.queue k := rfl

/-- A record changes no sequencer and no queue of its core. -/
theorem CoreSt.keepRecord_parts (c : CoreSt) (ws : List U64) (d : Bool) : ∃ f, c.keepRecord ws d = { c with regs := f } := by
  have hk : ∀ (l : List (U64 × Nat)) (c : CoreSt), ∃ f,
      l.foldl (fun (c : CoreSt) (p : U64 × Nat) => c.setReg .CORE_FAULT_RECORD p.2 p.1) c = { c with regs := f } := by
    intro l
    induction l with
    | nil => exact fun c => ⟨c.regs, rfl⟩
    | cons w l ih => intro c; obtain ⟨f, h⟩ := ih (c.setReg .CORE_FAULT_RECORD w.2 w.1); exact ⟨f, h⟩
  obtain ⟨f, h⟩ := hk ws.zipIdx c
  unfold CoreSt.keepRecord
  rw [h]
  simp only
  split <;> exact ⟨_, rfl⟩

/-- What a record of core p does to that core: its own registers and nothing else. -/
theorem State.coreEvent_record_core (s : State) (p : Nat) (r : FaultRec) :
    ∃ f, (s.coreEvent p (.record r)).core p = { s.core p with regs := f } := by
  have hs : ∀ v, ∃ f, (s.coreRecord v p r).core p = { s.core p with regs := f } := by
    intro v
    unfold State.coreRecord State.queueRecord
    obtain ⟨f, h⟩ := CoreSt.keepRecord_parts (s.core p) (s.recordWords (p / 72) v p r) (!s.recordRoom (p / 72))
    simp only
    split <;> exact ⟨f, by simp [h]⟩
  unfold State.coreEvent
  simp only
  split
  · exact hs _
  · exact hs _

end Sys2Proof.Machine
end

