-- ==== Sys2Proof/Tests/Slice0.lean ====
section
/-! SUPPORT. Tests: the well-formedness checks refuse what they should, a few values worked out from the spec and from published
vectors, and for every statement states and operands that meet its hypotheses. -/
set_option maxRecDepth 100000
set_option Elab.async false
namespace Sys2Proof.Tests
open Sys2Proof Sys2Proof.Machine

/-! ### Small states -/

/-- A state of one core, virtual core 0. -/
def oneCore (c : CoreSt) : State := { cores := [(0, c)] }
/-- One core with the given sequencer. -/
def seqState (q : SeqSt) : State := oneCore { seq := q }
/-- A core with core registers written. -/
def withRegs (c : CoreSt) (l : List (Reg × Nat × U64)) : CoreSt := l.foldl (fun c x => c.setReg x.1 x.2.1 x.2.2) c
/-- A state with registers written. -/
def regs (s : State) (l : List (Reg × Nat × U64)) : State := l.foldl (fun s x => s.setReg x.1 x.2.1 x.2.2) s
/-- A state whose quadrant 0 has its first row-pair powered. -/
def powered (s : State) : State := s.setReg .PWR_DOMAIN_STAT 4 2
/-- Region entries: crystal at 0, flow at 0x10000, sump at 0x20000. -/
def regions : List (Reg × Nat × U64) := [(.CORE_REGION, 0, 0x10040000), (.CORE_REGION, 1, 0x20080010), (.CORE_REGION, 2, 0x30080020)]
/-- A core with one descriptor at the head of queue k. -/
def headCore (k : Nat) (e : QEntry) : CoreSt := { withRegs {} regions with queues := [(k, { ents := [e] })] }

/-! ### Deciding what is stated of the element of an option -/

theorem all_of {α : Type} {o : Option α} {P : α → Prop} [DecidablePred P] (h : o.all (fun x => decide (P x)) = true) :
    ∀ x, o = some x → P x := by
  intro x e; subst e; simpa using h
theorem not_all_of {α : Type} {o : Option α} {P : α → Prop} [DecidablePred P] (h : o.all (fun x => decide (P x)) = false) :
    ¬ ∀ x, o = some x → P x := by
  intro k
  cases o with
  | none => simp at h
  | some x => simp [k x rfl] at h
theorem plain_of {q : SeqSt} (h : q.loops.head?.all (fun l => decide (l.last ≠ q.pc)) = true) (hl : q.pc + 1 < q.limit) : q.Plain :=
  ⟨all_of h, hl⟩

/-- What every queue entry of every core holds, asked of the cores that State lists. -/
theorem reads_of {s : State} (h : s.cores.all (fun x => (x.2.queue 2).ents.all (fun e => e.hbm.isNone)) = true) :
    ∀ p, ∀ e ∈ ((s.core p).queue 2).ents, e.hbm = none := by
  intro p e he
  unfold State.core at he
  generalize s.cores = l at h he
  induction l with
  | nil => simp [Map.get, CoreSt.queue] at he
  | cons x l ih =>
    simp only [List.all_cons, Bool.and_eq_true, List.all_eq_true] at h
    by_cases hp : x.1 = p
    · simp [Map.get, hp] at he
      simpa using h.1 e he
    · by_cases hq : p < x.1
      · simp [Map.get, hp, hq, CoreSt.queue] at he
      · refine ih (by simpa using h.2) ?_
        simpa [Map.get, hp, hq] using he

end Sys2Proof.Tests

namespace Sys2Proof.Tests
open Sys2Proof Sys2Proof.Machine

/-! ### The test key, and what a signed image needs besides its fuses (R566) -/

/-- The public point of the private key 0x1234567, x then y. -/
def testKey : List Byte :=
  beBytes 96 0x7ae9e1db1160794c70c1ef071be5191f6c66240f4608fbe8a44ecd36c3ed5db97500f2e4d84e3fb45850fd6f4303302bd8ac21444cd80d241538d8034b399a0dee3636eb5cb00b9499d061a571db0f14bb47ed79453948ed63f3a6ccbbf6e74f
/-- An image signed by the test key is valid where fuse 0 holds the key's hash and does not revoke it. -/
theorem image_ok (hk : (Config.fusedKeyHash 0).toNat = sha384 testKey) (hr : Config.keyRevoked 0 = false) (img : List Byte) (kind svn : Nat)
    (h : (img.take 4 = [0x4B, 0x4E, 0x46, 0x57] ∧ imgField img 4 1 = kind ∧ imgField img 5 1 = 0 ∧ 256 + imgField img 16 4 ≤ 0x200000 ∧
      256 + imgField img 16 4 ≤ img.length) ∧ (img.drop 32).take 96 = testKey ∧
      ecdsaOk testKey ((img.drop 128).take 96) (sha384 (img.take 128 ++ (img.drop 256).take (imgField img 16 4))) = true)
    (hs : svn ≤ imgSvn img) : imageStatus svn kind img = 0 := by
  obtain ⟨⟨h1, h2, h3, h4, h5⟩, h6, h7⟩ := h
  have ht : ¬ (if kind = 1 then 0x400000 else 0x200000) < 256 + imgField img 16 4 := by split <;> omega
  simp [imageStatus, h1, h2, h3, h6, h7, hk, hr, ht, Nat.not_lt.mpr h5, Nat.not_lt.mpr hs]

/-- A keeper image: generation 1, version 5, security version 2, one range 3 to 9 of supervisor versions. -/
def kimg : List Byte :=
  beBytes 268 0x4b4e46570100010005000000020000000c0000000000000000000000000000007ae9e1db1160794c70c1ef071be5191f6c66240f4608fbe8a44ecd36c3ed5db97500f2e4d84e3fb45850fd6f4303302bd8ac21444cd80d241538d8034b399a0dee3636eb5cb00b9499d061a571db0f14bb47ed79453948ed63f3a6ccbbf6e74f8aac1db4c5951f63215f8d4b8f60f0adcb5efbc4a63c4c6a758da16cce83df1f0cbeb7979825569755afb3b7f3197bed151f30b179bae51de17616ef6ef62229bf1868776c9e2261054ec6ccc09be0a6eb0dde6da9d54e291267190a84848afb0000000000000000000000000000000000000000000000000000000000000000010000000300000009000000
/-- A supervisor image of version 7. -/
def simg : List Byte :=
  beBytes 258 0x4b4e4657020001000700000001000000020000000000000000000000000000007ae9e1db1160794c70c1ef071be5191f6c66240f4608fbe8a44ecd36c3ed5db97500f2e4d84e3fb45850fd6f4303302bd8ac21444cd80d241538d8034b399a0dee3636eb5cb00b9499d061a571db0f14bb47ed79453948ed63f3a6ccbbf6e74f8aac1db4c5951f63215f8d4b8f60f0adcb5efbc4a63c4c6a758da16cce83df1f0cbeb7979825569755afb3b7f3197bed0cc1b8a1f9dd5c44b6e577dfd69f74eb3f901436b837e34d3522162dc621a845ad693ba44fd4790b87734941bd58278900000000000000000000000000000000000000000000000000000000000000000102
theorem kimg_ok (hk : (Config.fusedKeyHash 0).toNat = sha384 testKey) (hr : Config.keyRevoked 0 = false) (svn : Nat) (hs : svn ≤ imgSvn kimg) :
    imageStatus svn 1 kimg = 0 := image_ok hk hr kimg 1 svn (by decide +kernel) hs
theorem simg_ok (hk : (Config.fusedKeyHash 0).toNat = sha384 testKey) (hr : Config.keyRevoked 0 = false) (svn : Nat) (hs : svn ≤ imgSvn simg) :
    imageStatus svn 2 simg = 0 := image_ok hk hr simg 2 svn (by decide +kernel) hs

end Sys2Proof.Tests

namespace Sys2Proof.Tests.Issue
open Sys2Proof Sys2Proof.Machine Sys2Proof.Tests

def seqState (q : SeqSt) : State := { cores := [(0, { seq := q })] }
def qA : SeqSt := { run := .issuing, pc := 4, s := [(1, 24), (2, 0xFFFFFFFFFFFFFFF9), (4, 32768), (5, 1)], c := [(1, 3), (2, 16777216)] }
def sA : State := seqState qA
def sLoop : State := seqState { qA with loops := [⟨3, 0, 2, 9⟩] }
def sEnd : State := seqState { qA with loops := [⟨3, 0, 2, 4⟩] }
def sLast : State := seqState { qA with loops := [⟨3, 2, 2, 4⟩] }
def fe (pc : Nat) (w : BitVec 32) : State := seqState { qA with pc := pc, prog := [(4, w)] }
def dA : Desc := ⟨0x40, 0x1000, 0, 0x11000, 0x20, 0, 0, 0⟩
def asS (on : Bool) (en : U64) : State := { cores := [(0, { seq := { qA with asActive := on, frameOpen := true, tmpl := [(5, dA)] }, regs := (({} : CoreSt).setReg .SEQ_CTRL 0 en).regs })] }

def stepRunsFront2 : State := (fe 4 0x41181)
def stepRunsFront3 : State := (fe 4 0)
def stepRunsFront4 : State := (fe 32768 0)
/-- States and operands that meet the hypotheses of the clauses of StepRunsFront. -/
theorem witness_StepRunsFront :
    ({ : State }.pending = [] ∧ { : State }.issuers = []) ∧
    (stepRunsFront2.pending = [] ∧ stepRunsFront2.issuers = [0] ∧ stepRunsFront2.phys 0 = some 0 ∧ (stepRunsFront2.core 0).seq.pc <
      (stepRunsFront2.core 0).seq.limit ∧ seqDecode 0 (BitVec.ofNat 64 stepRunsFront2.now) (stepRunsFront2.core 0).seq.asActive
      ((stepRunsFront2.core 0).seq.prog.get (stepRunsFront2.core 0).seq.pc 0#32) = some (Instr.add 0 (insS ((stepRunsFront2.core
      0).seq.prog.get (stepRunsFront2.core 0).seq.pc 0#32) 7) (insS ((stepRunsFront2.core 0).seq.prog.get (stepRunsFront2.core 0).seq.pc
      0#32) 12) (insS ((stepRunsFront2.core 0).seq.prog.get (stepRunsFront2.core 0).seq.pc 0#32) 17))) ∧
    (stepRunsFront3.pending = [] ∧ stepRunsFront3.issuers = [0] ∧ stepRunsFront3.phys 0 = some 0 ∧ (stepRunsFront3.core 0).seq.pc <
      (stepRunsFront3.core 0).seq.limit ∧ seqDecode 0 (BitVec.ofNat 64 stepRunsFront3.now) (stepRunsFront3.core 0).seq.asActive
      ((stepRunsFront3.core 0).seq.prog.get (stepRunsFront3.core 0).seq.pc 0#32) = none) ∧
    (stepRunsFront4.pending = [] ∧ stepRunsFront4.issuers = [0] ∧ stepRunsFront4.phys 0 = some 0 ∧ (stepRunsFront4.core 0).seq.limit ≤
      (stepRunsFront4.core 0).seq.pc) :=
  ⟨by decide +kernel,
    by decide +kernel,
    by decide +kernel,
    by decide +kernel⟩
/-- States and operands that meet the hypotheses of the clauses of ArithmeticForms. -/
theorem witness_ArithmeticForms :
    ((sA.core 0).seq.Plain ∧ sA.Issues 0 0) ∧
    ((sA.core 0).seq.Plain ∧ sA.Issues 0 0 ∧ 63 < 64) ∧
    ((sA.core 0).seq.Plain ∧ sA.Issues 0 0 ∧ 64 ≤ 64) :=
  ⟨⟨plain_of (by decide +kernel) (by decide +kernel), by decide +kernel⟩,
    ⟨plain_of (by decide +kernel) (by decide +kernel), by decide +kernel⟩,
    ⟨plain_of (by decide +kernel) (by decide +kernel), by decide +kernel⟩⟩
def dataMemoryAndAddressRegisters4 : State := (seqState { qA with a := [(3, ⟨5, 3, 0xFFFFFFFF, 7⟩)] })
/-- States and operands that meet the hypotheses of the clauses of DataMemoryAndAddressRegisters. -/
theorem witness_DataMemoryAndAddressRegisters :
    ((sA.core 0).seq.Plain ∧ sA.Issues 0 0 ∧ (0 = 0 ∧ 0#16 = 0#16)) ∧
    ((sA.core 0).seq.Plain ∧ sA.Issues 0 0 ∧ (BitVec.toNat ((sA.core 0).seq.rd 1 + BitVec.signExtend 64 0#15) % 8 = 0 ∧ BitVec.toNat
      ((sA.core 0).seq.rd 1 + BitVec.signExtend 64 0#15) < 65536)) ∧
    ((sA.core 0).seq.Plain ∧ sA.Issues 0 0 ∧ (¬(BitVec.toNat ((sA.core 0).seq.rd 4 + BitVec.signExtend 64 32767#15) % 8 = 0 ∧ BitVec.toNat
      ((sA.core 0).seq.rd 4 + BitVec.signExtend 64 32767#15) < 65536))) ∧
    ((dataMemoryAndAddressRegisters4.core 0).seq.Plain ∧ dataMemoryAndAddressRegisters4.Issues 0 0 ∧ (¬(1 = 0 ∧ 65520#16 = 0#16))) :=
  ⟨⟨plain_of (by decide +kernel) (by decide +kernel), by decide +kernel⟩,
    ⟨plain_of (by decide +kernel) (by decide +kernel), by decide +kernel⟩,
    ⟨plain_of (by decide +kernel) (by decide +kernel), by decide +kernel⟩,
    ⟨plain_of (by decide +kernel) (by decide +kernel), by decide +kernel⟩⟩
/-- States and operands that meet the hypotheses of the clauses of BranchesAndJumps. -/
theorem witness_BranchesAndJumps :
    ((sA.core 0).seq.Plain ∧ (∀ (l : LoopLevel), (sA.core 0).seq.loops.head? = some l → ↑l.first ≤ ↑(sA.core 0).seq.pc + (5#15).toInt ∧
      ↑(sA.core 0).seq.pc + (5#15).toInt ≤ ↑l.last) ∧ (∀ (l : LoopLevel), (sA.core 0).seq.loops.head? = some l → ↑l.first ≤ ↑(sA.core
      0).seq.pc + (1048572#20).toInt ∧ ↑(sA.core 0).seq.pc + (1048572#20).toInt ≤ ↑l.last) ∧ (∀ (l : LoopLevel), (sA.core
      0).seq.loops.head? = some l → ↑l.first ≤ ↑(BitVec.toNat ((sA.core 0).seq.rd 1 + BitVec.signExtend 64 5#15)) ∧ ↑(BitVec.toNat
      ((sA.core 0).seq.rd 1 + BitVec.signExtend 64 5#15)) ≤ ↑l.last) ∧ sA.Issues 0 0 ∧ (¬(sA.core 0).seq.rd 1 = (sA.core 0).seq.rd 2) ∧
      (sA.core 0).seq.rd 1 ≠ (sA.core 0).seq.rd 2 ∧ (0 ≤ ↑(sA.core 0).seq.pc + (5#15).toInt ∧ ↑(sA.core 0).seq.pc + (5#15).toInt <
      ↑(sA.core 0).seq.limit) ∧ ¬BitVec.toInt ((sA.core 0).seq.rd 1) < BitVec.toInt ((sA.core 0).seq.rd 2) ∧ BitVec.toInt ((sA.core
      0).seq.rd 2) ≤ BitVec.toInt ((sA.core 0).seq.rd 1) ∧ BitVec.toNat ((sA.core 0).seq.rd 1) < BitVec.toNat ((sA.core 0).seq.rd 2) ∧
      ¬BitVec.toNat ((sA.core 0).seq.rd 2) ≤ BitVec.toNat ((sA.core 0).seq.rd 1) ∧ (0 ≤ ↑(sA.core 0).seq.pc + (1048572#20).toInt ∧
      ↑(sA.core 0).seq.pc + (1048572#20).toInt < ↑(sA.core 0).seq.limit) ∧ (0 ≤ ↑(BitVec.toNat ((sA.core 0).seq.rd 1 + BitVec.signExtend 64
      5#15)) ∧ ↑(BitVec.toNat ((sA.core 0).seq.rd 1 + BitVec.signExtend 64 5#15)) < ↑(sA.core 0).seq.limit)) ∧
    ((sA.core 0).seq.Plain ∧ (∀ (l : LoopLevel), (sA.core 0).seq.loops.head? = some l → ↑l.first ≤ ↑(sA.core 0).seq.pc + (16384#15).toInt ∧
      ↑(sA.core 0).seq.pc + (16384#15).toInt ≤ ↑l.last) ∧ (∀ (l : LoopLevel), (sA.core 0).seq.loops.head? = some l → ↑l.first ≤
      ↑(BitVec.toNat ((sA.core 0).seq.rd 1 + BitVec.signExtend 64 16384#15)) ∧ ↑(BitVec.toNat ((sA.core 0).seq.rd 1 + BitVec.signExtend 64
      16384#15)) ≤ ↑l.last) ∧ sA.Issues 0 0 ∧ (sA.core 0).seq.rd 1 = (sA.core 0).seq.rd 1 ∧ (¬(0 ≤ ↑(sA.core 0).seq.pc + (16384#15).toInt ∧
      ↑(sA.core 0).seq.pc + (16384#15).toInt < ↑(sA.core 0).seq.limit)) ∧ (¬(sA.core 0).seq.rd 1 ≠ (sA.core 0).seq.rd 1) ∧ BitVec.toInt
      ((sA.core 0).seq.rd 1) ≤ BitVec.toInt ((sA.core 0).seq.rd 1) ∧ ¬BitVec.toNat ((sA.core 0).seq.rd 1) < BitVec.toNat ((sA.core
      0).seq.rd 1) ∧ BitVec.toNat ((sA.core 0).seq.rd 1) ≤ BitVec.toNat ((sA.core 0).seq.rd 1) ∧ (¬(0 ≤ ↑(BitVec.toNat ((sA.core 0).seq.rd
      1 + BitVec.signExtend 64 16384#15)) ∧ ↑(BitVec.toNat ((sA.core 0).seq.rd 1 + BitVec.signExtend 64 16384#15)) < ↑(sA.core
      0).seq.limit))) ∧
    ((sLoop.core 0).seq.Plain ∧ (¬∀ (l : LoopLevel), (sLoop.core 0).seq.loops.head? = some l → ↑l.first ≤ ↑(sLoop.core 0).seq.pc +
      (32752#15).toInt ∧ ↑(sLoop.core 0).seq.pc + (32752#15).toInt ≤ ↑l.last) ∧ (¬∀ (l : LoopLevel), (sLoop.core 0).seq.loops.head? = some
      l → ↑l.first ≤ ↑(BitVec.toNat ((sLoop.core 0).seq.rd 2 + BitVec.signExtend 64 32752#15)) ∧ ↑(BitVec.toNat ((sLoop.core 0).seq.rd 2 +
      BitVec.signExtend 64 32752#15)) ≤ ↑l.last) ∧ sLoop.Issues 0 0 ∧ (sLoop.core 0).seq.rd 2 ≠ (sLoop.core 0).seq.rd 1 ∧ BitVec.toInt
      ((sLoop.core 0).seq.rd 2) < BitVec.toInt ((sLoop.core 0).seq.rd 1) ∧ ¬BitVec.toInt ((sLoop.core 0).seq.rd 1) ≤ BitVec.toInt
      ((sLoop.core 0).seq.rd 2) ∧ BitVec.toNat ((sLoop.core 0).seq.rd 1) ≤ BitVec.toNat ((sLoop.core 0).seq.rd 2)) ∧
    ((sA.core 0).seq.Plain ∧ (∀ (l : LoopLevel), (sA.core 0).seq.loops.head? = some l → ↑l.first ≤ ↑(sA.core 0).seq.pc + (3#15).toInt ∧
      ↑(sA.core 0).seq.pc + (3#15).toInt ≤ ↑l.last) ∧ (∀ (l : LoopLevel), (sA.core 0).seq.loops.head? = some l → ↑l.first ≤ ↑(sA.core
      0).seq.pc + (1048571#20).toInt ∧ ↑(sA.core 0).seq.pc + (1048571#20).toInt ≤ ↑l.last) ∧ sA.Issues 0 0 ∧ BitVec.toInt ((sA.core
      0).seq.rd 2) < BitVec.toInt ((sA.core 0).seq.rd 1) ∧ (0 ≤ ↑(sA.core 0).seq.pc + (3#15).toInt ∧ ↑(sA.core 0).seq.pc + (3#15).toInt <
      ↑(sA.core 0).seq.limit) ∧ BitVec.toNat ((sA.core 0).seq.rd 1) ≤ BitVec.toNat ((sA.core 0).seq.rd 2) ∧ (¬(0 ≤ ↑(sA.core 0).seq.pc +
      (1048571#20).toInt ∧ ↑(sA.core 0).seq.pc + (1048571#20).toInt < ↑(sA.core 0).seq.limit))) ∧
    ((sLoop.core 0).seq.Plain ∧ (¬∀ (l : LoopLevel), (sLoop.core 0).seq.loops.head? = some l → ↑l.first ≤ ↑(sLoop.core 0).seq.pc +
      (32752#15).toInt ∧ ↑(sLoop.core 0).seq.pc + (32752#15).toInt ≤ ↑l.last) ∧ sLoop.Issues 0 0 ∧ (sLoop.core 0).seq.rd 1 = (sLoop.core
      0).seq.rd 1 ∧ BitVec.toInt ((sLoop.core 0).seq.rd 1) ≤ BitVec.toInt ((sLoop.core 0).seq.rd 1)) ∧
    ((sA.core 0).seq.Plain ∧ (∀ (l : LoopLevel), (sA.core 0).seq.loops.head? = some l → ↑l.first ≤ ↑(sA.core 0).seq.pc + (32752#15).toInt ∧
      ↑(sA.core 0).seq.pc + (32752#15).toInt ≤ ↑l.last) ∧ sA.Issues 0 0 ∧ (sA.core 0).seq.rd 2 ≠ (sA.core 0).seq.rd 1 ∧ (¬(0 ≤ ↑(sA.core
      0).seq.pc + (32752#15).toInt ∧ ↑(sA.core 0).seq.pc + (32752#15).toInt < ↑(sA.core 0).seq.limit)) ∧ BitVec.toInt ((sA.core 0).seq.rd
      2) < BitVec.toInt ((sA.core 0).seq.rd 1)) ∧
    ((sLoop.core 0).seq.Plain ∧ (¬∀ (l : LoopLevel), (sLoop.core 0).seq.loops.head? = some l → ↑l.first ≤ ↑(sLoop.core 0).seq.pc +
      (6#20).toInt ∧ ↑(sLoop.core 0).seq.pc + (6#20).toInt ≤ ↑l.last) ∧ sLoop.Issues 0 0) ∧
    ((sA.core 0).seq.Plain ∧ (∀ (l : LoopLevel), (sA.core 0).seq.loops.head? = some l → ↑l.first ≤ ↑(sA.core 0).seq.pc + (32752#15).toInt ∧
      ↑(sA.core 0).seq.pc + (32752#15).toInt ≤ ↑l.last) ∧ sA.Issues 0 0 ∧ BitVec.toNat ((sA.core 0).seq.rd 1) < BitVec.toNat ((sA.core
      0).seq.rd 2) ∧ (¬(0 ≤ ↑(sA.core 0).seq.pc + (32752#15).toInt ∧ ↑(sA.core 0).seq.pc + (32752#15).toInt < ↑(sA.core 0).seq.limit))) ∧
    ((sLoop.core 0).seq.Plain ∧ (¬∀ (l : LoopLevel), (sLoop.core 0).seq.loops.head? = some l → ↑l.first ≤ ↑(sLoop.core 0).seq.pc +
      (32752#15).toInt ∧ ↑(sLoop.core 0).seq.pc + (32752#15).toInt ≤ ↑l.last) ∧ sLoop.Issues 0 0 ∧ BitVec.toNat ((sLoop.core 0).seq.rd 1) <
      BitVec.toNat ((sLoop.core 0).seq.rd 2)) :=
  ⟨⟨plain_of (by decide +kernel) (by decide +kernel), all_of (by decide +kernel), all_of (by decide +kernel), all_of (by decide +kernel), by decide +kernel⟩,
    ⟨plain_of (by decide +kernel) (by decide +kernel), all_of (by decide +kernel), all_of (by decide +kernel), by decide +kernel⟩,
    ⟨plain_of (by decide +kernel) (by decide +kernel), not_all_of (by decide +kernel), not_all_of (by decide +kernel), by decide +kernel⟩,
    ⟨plain_of (by decide +kernel) (by decide +kernel), all_of (by decide +kernel), all_of (by decide +kernel), by decide +kernel⟩,
    ⟨plain_of (by decide +kernel) (by decide +kernel), not_all_of (by decide +kernel), by decide +kernel⟩,
    ⟨plain_of (by decide +kernel) (by decide +kernel), all_of (by decide +kernel), by decide +kernel⟩,
    ⟨plain_of (by decide +kernel) (by decide +kernel), not_all_of (by decide +kernel), by decide +kernel⟩,
    ⟨plain_of (by decide +kernel) (by decide +kernel), all_of (by decide +kernel), by decide +kernel⟩,
    ⟨plain_of (by decide +kernel) (by decide +kernel), not_all_of (by decide +kernel), by decide +kernel⟩⟩
def loopCountsAndLoops2 : State := (seqState { qA with asActive := true, loops := [⟨3, 0, 2, 9⟩, ⟨3, 0, 2, 9⟩, ⟨3, 0, 2, 9⟩, ⟨3, 0, 2, 9⟩] })
def loopCountsAndLoops3 : State := (seqState { qA with asActive := true })
def loopCountsAndLoops4 : State := (seqState { qA with asActive := true })
def loopCountsAndLoops6 : State := (seqState { qA with asActive := true })
/-- States and operands that meet the hypotheses of the clauses of LoopCountsAndLoops. -/
theorem witness_LoopCountsAndLoops :
    ((sA.core 0).seq.Plain ∧ sA.Issues 0 0 ∧ 0#16 = 0#16 ∧ (sA.core 0).seq.loops[0]? = none ∧ (¬(5#12 = 0#12 ∨ (sA.core 0).seq.loops.length
      < 4 ∧ ∃ l, (sA.core 0).seq.loops.head? = some l ∧ l.last < (sA.core 0).seq.pc + 5)) ∧ (sA.core 0).seq.loops.length < 4 ∧ (0 <
      ((sA.core 0).seq.creg 1).toNat ∧ ((sA.core 0).seq.creg 1).toNat ≤ 16777215) ∧ (sA.core 0).seq.asActive = false) ∧
    ((loopCountsAndLoops2.core 0).seq.Plain ∧ loopCountsAndLoops2.Issues 0 0 ∧ 1#16 ≠ 0#16 ∧ (loopCountsAndLoops2.core 0).seq.loops[0]? =
      some { count := 3, index := 0, first := 2, last := 9 : LoopLevel } ∧ 1#12 ≠ 0#12 ∧ 4 ≤ (loopCountsAndLoops2.core 0).seq.loops.length
      ∧ (loopCountsAndLoops2.core 0).seq.asActive = true) ∧
    ((loopCountsAndLoops3.core 0).seq.Plain ∧ (∀ (l : LoopLevel), (loopCountsAndLoops3.core 0).seq.loops.head? = some l → l.last ≠
      (loopCountsAndLoops3.core 0).seq.pc + 5) ∧ loopCountsAndLoops3.Issues 0 0 ∧ (¬(5#12 = 0#12 ∨ (loopCountsAndLoops3.core
      0).seq.loops.length < 4 ∧ ∃ l, (loopCountsAndLoops3.core 0).seq.loops.head? = some l ∧ l.last < (loopCountsAndLoops3.core 0).seq.pc +
      5)) ∧ (loopCountsAndLoops3.core 0).seq.loops.length < 4 ∧ 16777215 < ((loopCountsAndLoops3.core 0).seq.creg 2).toNat ∧
      (loopCountsAndLoops3.core 0).seq.asActive = true ∧ ((loopCountsAndLoops3.core 0).seq.creg 2).toNat % 65536 = 0 ∧
      (loopCountsAndLoops3.core 0).seq.pc + 5 + 1 < (loopCountsAndLoops3.core 0).seq.limit) ∧
    ((loopCountsAndLoops4.core 0).seq.Plain ∧ loopCountsAndLoops4.Issues 0 0 ∧ (0#12 = 0#12 ∨ (loopCountsAndLoops4.core 0).seq.loops.length
      < 4 ∧ ∃ l, (loopCountsAndLoops4.core 0).seq.loops.head? = some l ∧ l.last < (loopCountsAndLoops4.core 0).seq.pc + 0) ∧
      (loopCountsAndLoops4.core 0).seq.asActive = true) ∧
    ((sA.core 0).seq.Plain ∧ (∀ (l : LoopLevel), (sA.core 0).seq.loops.head? = some l → l.last ≠ (sA.core 0).seq.pc + 3) ∧ sA.Issues 0 0 ∧
      (¬(3#12 = 0#12 ∨ (sA.core 0).seq.loops.length < 4 ∧ ∃ l, (sA.core 0).seq.loops.head? = some l ∧ l.last < (sA.core 0).seq.pc + 3)) ∧
      (sA.core 0).seq.loops.length < 4 ∧ ((sA.core 0).seq.creg 0).toNat = 0 ∧ (sA.core 0).seq.pc + 3 + 1 < (sA.core 0).seq.limit) ∧
    ((loopCountsAndLoops6.core 0).seq.Plain ∧ loopCountsAndLoops6.Issues 0 0 ∧ (loopCountsAndLoops6.core 0).seq.asActive = true ∧ (¬(5#12 =
      0#12 ∨ (loopCountsAndLoops6.core 0).seq.loops.length < 4 ∧ ∃ l, (loopCountsAndLoops6.core 0).seq.loops.head? = some l ∧ l.last <
      (loopCountsAndLoops6.core 0).seq.pc + 5)) ∧ (loopCountsAndLoops6.core 0).seq.loops.length < 4 ∧ (0 < ((loopCountsAndLoops6.core
      0).seq.creg 1).toNat % 65536 ∧ ((loopCountsAndLoops6.core 0).seq.creg 1).toNat % 65536 ≤ 16777215)) :=
  ⟨⟨plain_of (by decide +kernel) (by decide +kernel), by decide +kernel⟩,
    ⟨plain_of (by decide +kernel) (by decide +kernel), by decide +kernel⟩,
    ⟨plain_of (by decide +kernel) (by decide +kernel), all_of (by decide +kernel), by decide +kernel⟩,
    ⟨plain_of (by decide +kernel) (by decide +kernel), by decide +kernel⟩,
    ⟨plain_of (by decide +kernel) (by decide +kernel), all_of (by decide +kernel), by decide +kernel⟩,
    ⟨plain_of (by decide +kernel) (by decide +kernel), by decide +kernel⟩⟩
def loopEndsAndAddressStream1 : State := (asS true 4)
def loopEndsAndAddressStream2 : State := (asS false 4)
def loopEndsAndAddressStream5 : State := (asS true 4)
/-- States and operands that meet the hypotheses of the clauses of LoopEndsAndAddressStream. -/
theorem witness_LoopEndsAndAddressStream :
    ((loopEndsAndAddressStream1.core 0).seq.Plain ∧ loopEndsAndAddressStream1.Issues 0 0 ∧ ((loopEndsAndAddressStream1.core 0).fld
      Reg.SEQ_CTRL 0 2 2 = 0 ∨ (loopEndsAndAddressStream1.core 0).seq.asActive = true) ∧ (loopEndsAndAddressStream1.core 0).seq.asActive =
      true ∧ 3 < 8 ∧ (loopEndsAndAddressStream1.core 0).seq.frameOpen = true ∧ (pushOutcome (loopEndsAndAddressStream1.core 0) { queue := 1, desc := knExpand ((loopEndsAndAddressStream1.core 0).seq.tmpl.get 5 { w0 := 0#64, w1 := 0#64, w2 := 0#64, w3 := 0#64, w4 := 0#64, w5 := 0#64, w6 := 0#64, w7 := 0#64 : Desc }) ((loopEndsAndAddressStream1.core 0).fld Reg.SEQ_AS_BASE 0 47 0) 1 fun i => ((loopEndsAndAddressStream1.core 0).seq.areg i).ea.toNat, stage := 0, tpl := 5 : PushReq }
      = PushOutcome.room)) ∧
    ((loopEndsAndAddressStream2.core 0).seq.Plain ∧ loopEndsAndAddressStream2.Issues 0 0 ∧ (loopEndsAndAddressStream2.core 0).fld
      Reg.SEQ_CTRL 0 2 2 = 1 ∧ (loopEndsAndAddressStream2.core 0).seq.asActive = false) ∧
    (sEnd.Issues 0 0 ∧ (sEnd.core 0).seq.loops = [{ count := 3, index := 0, first := 2, last := 4 : LoopLevel }] ∧ { count := 3, index := 0, first := 2, last := 4 : LoopLevel }.last
      = (sEnd.core 0).seq.pc ∧ { count := 3, index := 0, first := 2, last := 4 : LoopLevel }.index + 1 < { count := 3, index := 0, first := 2, last := 4 : LoopLevel }.count
      ∧ { count := 3, index := 0, first := 2, last := 4 : LoopLevel }.first < (sEnd.core 0).seq.limit) ∧
    (sLast.Issues 0 0 ∧ (sLast.core 0).seq.loops = [{ count := 3, index := 2, first := 2, last := 4 : LoopLevel }] ∧ { count := 3, index := 2, first := 2, last := 4 : LoopLevel }.last
      = (sLast.core 0).seq.pc ∧ { count := 3, index := 2, first := 2, last := 4 : LoopLevel }.count ≤ { count := 3, index := 2, first := 2, last := 4 : LoopLevel }.index
      + 1 ∧ (sLast.core 0).seq.pc + 1 < (sLast.core 0).seq.limit) ∧
    ((loopEndsAndAddressStream5.core 0).seq.Plain ∧ loopEndsAndAddressStream5.Issues 0 0 ∧ (loopEndsAndAddressStream5.core 0).seq.asActive
      = true ∧ 8 ≤ 8) :=
  ⟨⟨plain_of (by decide +kernel) (by decide +kernel), by decide +kernel⟩,
    ⟨plain_of (by decide +kernel) (by decide +kernel), by decide +kernel⟩,
    by decide +kernel,
    by decide +kernel,
    ⟨plain_of (by decide +kernel) (by decide +kernel), by decide +kernel⟩⟩

end Sys2Proof.Tests.Issue

namespace Sys2Proof.Tests.Frames
open Sys2Proof Sys2Proof.Machine Sys2Proof.Tests

def qA : SeqSt := { run := .issuing, pc := 4, s := [(1, 24), (2, 0xFFFFFFFFFFFFFFF9), (4, 32768), (5, 1)], c := [(1, 3), (2, 16777216)] }
def dA : Desc := ⟨0x40, 0x1000, 0, 0x11000, 0x20, 0, 0, 0⟩
def fr (b : Bool) : SeqSt := { qA with frameOpen := b, t := [(0, dA)] }
def full : QueueSt := { ents := List.replicate 8 { desc := dA } }
def wst (f : Bool) : State := oneCore { seq := { fr f with ev := [(3, 24)] }, queues := [(1, full)] }
def wt (w : Wait) : State := oneCore { seq := { qA with run := .waiting w, ev := [(3, 24)] }, queues := [(1, full)] }
def rq (k : Nat) : PushReq := ⟨k, dA, 0, 0⟩
def fS : State := oneCore (withRegs { seq := { qA with run := .waiting .launch } } [(.SEQ_NEXT_EPOCH, 0, 9), (.SEQ_NEXT_LAUNCH, 0,
  0x100000), (.SEQ_NEXT_SEL, 0, 0x10012)])
def f1 : Frame := { id := 1, epoch := 5, launch := 0, next := 1000, maxLate := 10 }
def iS (f : Bool) : State := oneCore { seq := fr f, frames := if f then [f1] else [] }
def dS (x : U64) : State := oneCore (withRegs { seq := qA, frames := [f1], queues := [(1, full)] } [(.SEQ_CTRL, 0, x), (.SEQ_ENTRY, 0, 77)])
def fenced : State := { oneCore { seq := { run := .stopped }, fenced := true, queues := [(1, { full with halted := true })] } with free := 1 }
def wd : State := powered (regs (oneCore { seq := { run := .issuing } , frames := [f1] }) [(.QD_EPOCH_INDEX, 0, 10), (.QD_VARIANT, 0, 8),
  (.QD_EPOCH_INDEX, 0, 20)])

def templatesAndPushes1 : State := (seqState (fr true))
def templatesAndPushes2 : State := (oneCore { seq := { fr true with t := [(0, ⟨0x40, 0x10000, 0, 0x11000, 0x20, 0, 0, 0x1⟩)] } })
def templatesAndPushes3 : State := (seqState { fr false with tmplCount := some 3})
def templatesAndPushes4 : State := (oneCore { seq := fr true, queues := [(1, full)] })
def templatesAndPushes5 : State := (oneCore { seq := { fr true with t := [(0, ⟨0x40, 0x10000, 0, 0x11000, 0x20, 0, 0, 0x6⟩)] }, queues := [(0, { ents := [{ desc := dA, claims := List.replicate 64 ⟨false, 0, 64⟩ }] })] })
/-- States and operands that meet the hypotheses of the clauses of TemplatesAndPushes. -/
theorem witness_TemplatesAndPushes :
    ((templatesAndPushes1.core 0).seq.Plain ∧ templatesAndPushes1.Issues 0 0 ∧ 3 < (templatesAndPushes1.core 0).seq.tmplLimit ∧ (¬((64 < 4
      + if 8#6 = 0#6 then 64 else 8) ∨ false = true ∧ false = false ∨ false = true ∧ 16 ≤ 5)) ∧ (templatesAndPushes1.core 0).seq.frameOpen
      = true ∧ pushOutcome (templatesAndPushes1.core 0) { queue := 1, desc := (templatesAndPushes1.core 0).seq.stg 0, stage := 0, tpl := (templatesAndPushes1.core 0).seq.tTpl.get 0 0 : PushReq }
      = PushOutcome.room ∧ 0 ≠ 1 ∧ 2 ≠ 1 ∧ 72 ≠ 1) ∧
    ((templatesAndPushes2.core 0).seq.Plain ∧ templatesAndPushes2.Issues 0 0 ∧ ((64 < 60 + if 4#6 = 0#6 then 64 else 4) ∨ true = true ∧
      false = false ∨ false = true ∧ 16 ≤ 5) ∧ (templatesAndPushes2.core 0).seq.frameOpen = true ∧ pushOutcome (templatesAndPushes2.core 0)
      { queue := 1, desc := (templatesAndPushes2.core 0).seq.stg 0, stage := 0, tpl := (templatesAndPushes2.core 0).seq.tTpl.get 0 0 : PushReq }
      = PushOutcome.refused (claimCauses (templatesAndPushes2.core 0) { queue := 1, desc := (templatesAndPushes2.core 0).seq.stg 0, stage := 0, tpl := (templatesAndPushes2.core 0).seq.tTpl.get 0 0 : PushReq }.desc
      0 + 0)) ∧
    ((templatesAndPushes3.core 0).seq.Plain ∧ templatesAndPushes3.Issues 0 0 ∧ (templatesAndPushes3.core 0).seq.tmplLimit ≤ 3 ∧
      (templatesAndPushes3.core 0).seq.frameOpen = false) ∧
    ((templatesAndPushes4.core 0).seq.Plain ∧ templatesAndPushes4.Issues 0 0 ∧ (templatesAndPushes4.core 0).seq.frameOpen = true ∧
      pushOutcome (templatesAndPushes4.core 0) { queue := 1, desc := (templatesAndPushes4.core 0).seq.stg 0, stage := 0, tpl := (templatesAndPushes4.core 0).seq.tTpl.get 0 0 : PushReq }
      = PushOutcome.full) ∧
    ((templatesAndPushes5.core 0).seq.Plain ∧ templatesAndPushes5.Issues 0 0 ∧ (templatesAndPushes5.core 0).seq.frameOpen = true ∧
      pushOutcome (templatesAndPushes5.core 0) { queue := 1, desc := (templatesAndPushes5.core 0).seq.stg 0, stage := 0, tpl := (templatesAndPushes5.core 0).seq.tTpl.get 0 0 : PushReq }
      = PushOutcome.noClaims) :=
  ⟨⟨plain_of (by decide +kernel) (by decide +kernel), by decide +kernel⟩,
    ⟨plain_of (by decide +kernel) (by decide +kernel), by decide +kernel⟩,
    ⟨plain_of (by decide +kernel) (by decide +kernel), by decide +kernel⟩,
    ⟨plain_of (by decide +kernel) (by decide +kernel), by decide +kernel⟩,
    ⟨plain_of (by decide +kernel) (by decide +kernel), by decide +kernel⟩⟩
def waitsAndStalls1 : State := (wt (.pushFull (rq 0)))
def waitsAndStalls2 : State := (wst true)
def waitsAndStalls3 : State := (wst false)
def waitsAndStalls4 : State := (wt (.drip 100))
def waitsAndStalls5 : State := (wt (.queue 1 8))
def waitsAndStalls6 : State := (wt (.event 3 24))
def waitsAndStalls7 : State := (wt (.pushFull (rq 1)))
def waitsAndStalls8 : State := (wst false)
def waitsAndStalls9 : State := (wt (.drip 100))
def waitsAndStalls10 : State := (wt (.queue 1 7))
def waitsAndStalls11 : State := (wt (.event 3 25))
/-- States and operands that meet the hypotheses of the clauses of WaitsAndStalls. -/
theorem witness_WaitsAndStalls :
    ((waitsAndStalls1.core 0).seq.Plain ∧ waitsAndStalls1.phys 0 = some 0 ∧ ((waitsAndStalls1.core 0).seq.run = RunState.waiting
      (Wait.pushFull (rq 0)) ∨ (waitsAndStalls1.core 0).seq.run = RunState.waiting (Wait.pushClaims (rq 0))) ∧ pushOutcome
      (waitsAndStalls1.core 0) (rq 0) = PushOutcome.room) ∧
    ((waitsAndStalls2.core 0).seq.Plain ∧ waitsAndStalls2.Issues 0 0 ∧ (waitsAndStalls2.core 0).seq.frameOpen = true ∧ 7 ≤ 8 ∧ 7 <
      ((waitsAndStalls2.core 0).queue 1).ents.length ∧ 0#16 = 0#16 ∧ 0 ≤ ((waitsAndStalls2.core 0).seq.evc 3 - BitVec.setWidth 32
      ((waitsAndStalls2.core 0).seq.rd 1)).toInt) ∧
    ((waitsAndStalls3.core 0).seq.Plain ∧ waitsAndStalls3.Issues 0 0 ∧ (waitsAndStalls3.core 0).seq.frameOpen = false ∧ 8 ≤ 8 ∧
      ((waitsAndStalls3.core 0).queue 1).ents.length ≤ 8 ∧ 0#16 = 0#16 ∧ ((waitsAndStalls3.core 0).seq.evc 3 - BitVec.setWidth 32
      ((waitsAndStalls3.core 0).seq.rd 4)).toInt < 0) ∧
    ((waitsAndStalls4.core 0).seq.Plain ∧ waitsAndStalls4.phys 0 = some 0 ∧ (waitsAndStalls4.core 0).seq.run = RunState.waiting (Wait.drip
      100#64) ∧ Wait.drip 100#64 = Wait.drip 100#64 ∧ 100 ≤ 100) ∧
    ((waitsAndStalls5.core 0).seq.Plain ∧ waitsAndStalls5.phys 0 = some 0 ∧ (waitsAndStalls5.core 0).seq.run = RunState.waiting (Wait.queue
      1 8) ∧ Wait.queue 1 8 = Wait.queue 1 8 ∧ ((waitsAndStalls5.core 0).queue 1).ents.length ≤ 8) ∧
    ((waitsAndStalls6.core 0).seq.Plain ∧ waitsAndStalls6.phys 0 = some 0 ∧ (waitsAndStalls6.core 0).seq.run = RunState.waiting (Wait.event
      3 24#32) ∧ Wait.event 3 24#32 = Wait.event 3 24#32 ∧ 0 ≤ ((waitsAndStalls6.core 0).seq.evc 3 - 24#32).toInt) ∧
    (waitsAndStalls7.phys 0 = some 0 ∧ ((waitsAndStalls7.core 0).seq.run = RunState.waiting (Wait.pushFull (rq 1)) ∨ (waitsAndStalls7.core
      0).seq.run = RunState.waiting (Wait.pushClaims (rq 1))) ∧ pushOutcome (waitsAndStalls7.core 0) (rq 1) = PushOutcome.full) ∧
    ((waitsAndStalls8.core 0).seq.Plain ∧ waitsAndStalls8.Issues 0 0 ∧ 8 < 9 ∧ 1#16 ≠ 0#16) ∧
    ((waitsAndStalls9.core 0).seq.Plain ∧ waitsAndStalls9.phys 0 = some 0 ∧ (waitsAndStalls9.core 0).seq.run = RunState.waiting (Wait.drip
      100#64) ∧ Wait.drip 100#64 = Wait.drip 100#64 ∧ 99 < 100) ∧
    ((waitsAndStalls10.core 0).seq.Plain ∧ waitsAndStalls10.phys 0 = some 0 ∧ (waitsAndStalls10.core 0).seq.run = RunState.waiting
      (Wait.queue 1 7) ∧ Wait.queue 1 7 = Wait.queue 1 7 ∧ 7 < ((waitsAndStalls10.core 0).queue 1).ents.length) ∧
    ((waitsAndStalls11.core 0).seq.Plain ∧ waitsAndStalls11.phys 0 = some 0 ∧ (waitsAndStalls11.core 0).seq.run = RunState.waiting
      (Wait.event 3 25#32) ∧ Wait.event 3 25#32 = Wait.event 3 25#32 ∧ ((waitsAndStalls11.core 0).seq.evc 3 - 25#32).toInt < 0) :=
  ⟨⟨plain_of (by decide +kernel) (by decide +kernel), by decide +kernel⟩,
    ⟨plain_of (by decide +kernel) (by decide +kernel), by decide +kernel⟩,
    ⟨plain_of (by decide +kernel) (by decide +kernel), by decide +kernel⟩,
    ⟨plain_of (by decide +kernel) (by decide +kernel), by decide +kernel⟩,
    ⟨plain_of (by decide +kernel) (by decide +kernel), by decide +kernel⟩,
    ⟨plain_of (by decide +kernel) (by decide +kernel), by decide +kernel⟩,
    by decide +kernel,
    ⟨plain_of (by decide +kernel) (by decide +kernel), by decide +kernel⟩,
    ⟨plain_of (by decide +kernel) (by decide +kernel), by decide +kernel⟩,
    ⟨plain_of (by decide +kernel) (by decide +kernel), by decide +kernel⟩,
    ⟨plain_of (by decide +kernel) (by decide +kernel), by decide +kernel⟩⟩
def epochFrameAndControl1 : State := (dS 0x402)
def epochFrameAndControl3 : State := (iS true)
def epochFrameAndControl4 : State := (iS false)
def epochFrameAndControl5 : State := (dS 0x400)
/-- States and operands that meet the hypotheses of the clauses of EpochFrameAndControl. -/
theorem witness_EpochFrameAndControl :
    ((epochFrameAndControl1.core 0).seq.Plain ∧ epochFrameAndControl1.phys 0 = some 0 ∧ epochFrameAndControl1.Issues 0 0 ∧ 0#16 = 0#16 ∧
      (epochFrameAndControl1.core 0).fld Reg.SEQ_CTRL 0 1 1 = 1 ∧ (epochFrameAndControl1.core 0).seq.asActive = false ∧
      (epochFrameAndControl1.core 0).inReset = false ∧ (epochFrameAndControl1.core 0).seq.run ≠ RunState.faulted) ∧
    ((fS.core 0).seq.Plain ∧ fS.phys 0 = some 0 ∧ (fS.core 0).seq.run = RunState.waiting Wait.launch ∧ (fS.core 0).fld Reg.SEQ_NEXT_SEL 0
      16 16 = 1 ∧ BitVec.toNat ((fS.core 0).reg Reg.SEQ_NEXT_LAUNCH 0) ≤ 1048576) ∧
    ((epochFrameAndControl3.core 0).seq.Plain ∧ epochFrameAndControl3.phys 0 = some 0 ∧ epochFrameAndControl3.Issues 0 0 ∧ 3 ≤ 3 ∧
      (epochFrameAndControl3.core 0).seq.frameOpen = true ∧ (epochFrameAndControl3.core 0).frames = [f1] ∧ f1.closed = false ∧ f1.left = []
      ∧ 936 + 64 ≤ f1.next) ∧
    ((epochFrameAndControl4.core 0).seq.Plain ∧ epochFrameAndControl4.phys 0 = some 0 ∧ epochFrameAndControl4.Issues 0 0 ∧ 3 < 4 ∧
      (epochFrameAndControl4.core 0).seq.frameOpen = false) ∧
    ((epochFrameAndControl5.core 0).seq.Plain ∧ epochFrameAndControl5.phys 0 = some 0 ∧ epochFrameAndControl5.Issues 0 0 ∧ 1#16 ≠ 0#16 ∧
      (epochFrameAndControl5.core 0).fld Reg.SEQ_CTRL 0 1 1 = 0) :=
  ⟨⟨plain_of (by decide +kernel) (by decide +kernel), by decide +kernel⟩,
    ⟨plain_of (by decide +kernel) (by decide +kernel), by decide +kernel⟩,
    ⟨plain_of (by decide +kernel) (by decide +kernel), by decide +kernel⟩,
    ⟨plain_of (by decide +kernel) (by decide +kernel), by decide +kernel⟩,
    ⟨plain_of (by decide +kernel) (by decide +kernel), by decide +kernel⟩⟩
/-- States and operands that meet the hypotheses of the clauses of CoreEvents. -/
theorem witness_CoreEvents :
    (fenced.phys 0 = some 0 ∧ fenced.fenced 0 = true ∧ ((fenced.core 0).seq.run = RunState.stopped ∨ (fenced.core 0).seq.run =
      RunState.faulted ∨ (fenced.core 0).anyHalted = true) ∧ (fenced.at' 500).watchdogDue 0 = false) ∧
    (wd.phys 0 = some 0 ∧ wd.fenced 0 = false ∧ (wd.at' 500).watchdogDue 0 = true ∧ ((wd.at' 500).nextValues (0 / 64) ((wd.at'
      500).nextEpochOf (0 / 64) ((wd.at' 500).core 0) 500) = (((wd.at' 500).quad (0 / 64)).rule.launch ((wd.at' 500).quad (0 /
      64)).variants ((wd.at' 500).nextEpochOf (0 / 64) ((wd.at' 500).core 0) 500), ((wd.at' 500).quad (0 / 64)).rule.variant, ((wd.at'
      500).nextEpochOf (0 / 64) ((wd.at' 500).core 0) 500 - ((wd.at' 500).quad (0 / 64)).kv) % max 1 ((Option.map (fun x =>
      x.switchOk.length) ((wd.at' 500).quad (0 / 64)).variants[((wd.at' 500).quad (0 / 64)).rule.variant]?).getD 1))) ∧ ((wd.at' 500).core
      0).fld Reg.SEQ_NEXT_SEL 0 16 16 = 0 ∧ (wd.at' 500).runs (0 / 64) = true ∧ (wd.at' 500).heldAt (((wd.at' 500).quad (0 /
      64)).rule.launch ((wd.at' 500).quad (0 / 64)).variants ((wd.at' 500).nextEpochOf (0 / 64) ((wd.at' 500).core 0) 500)) = false ∧
      (wd.at' 500).tbState ≠ 4) :=
  ⟨by decide +kernel,
    by decide +kernel⟩

end Sys2Proof.Tests.Frames

namespace Sys2Proof.Tests.Queues
open Sys2Proof Sys2Proof.Machine Sys2Proof.Tests

def mmul : Desc := ⟨0x300000008550000, 0, 0x10000, 0x12000, 0, 0, 0, 0⟩
def anchor : Desc := ⟨0x550001, 0, 0x10000, 0, 0, 0, 0, 0⟩
def wpadd : Desc := ⟨0x300000009000002, 0x10000, 0, 0x12000, 0, 0, 0, 0⟩
def vew (f : U64) : Desc := ⟨0x880040 + f * 0x1000000, 0x10000, 0x10040, 0x12000, 0, 0, 0, 0⟩
def vew1 (f : U64) : Desc := ⟨0x880040 + f * 0x1000000, 0x10000, 0, 0x12000, 0, 0, 0, 0⟩
def copy : Desc := ⟨0x80, 0x10000, 0x12000, 0, 0, 0, 0, 0⟩
def hs (k : Nat) (d : Desc) : State := oneCore (headCore k { desc := d })
def bad (k : Nat) (d : Desc) : State := oneCore { queues := [(k, { ents := [{ desc := d }] })] }
def exS (d : Desc) : State := oneCore { headCore 2 { desc := d, st := .executing, pend := [⟨0x12000, List.replicate 64 7, none, false⟩] } with queues := [(2, { ents := [{ desc := d, st := .executing, pend := [⟨0x12000, List.replicate 64 7, none, false⟩] }] })] }
def exO : QEntry := { desc := ⟨0x1382, 0x20000, 0, 0, 0, 0, 0, 0⟩, st := .executing, hbm := some (0x40, List.replicate 64 7) }
def rm (n : Nat) : QEntry := { desc := mmul, st := .executing, replays := n, saved := some {} }
def badSlot : MxSlot := { elems := [{ residue := 1 }] }
def rmS (n : Nat) (b : Bool) (r : Bool) : State := oneCore { headCore 0 { rm n with rehearse := r } with slots := if b then [(0, badSlot)] else [] }
def vcvt : Desc := ⟨0x780041, 0x10000, 0, 0x12000, 0, 0, 0, 0⟩
def vred : Desc := ⟨0x880042, 0x10000, 0, 0x12000, 0, 0, 0, 0⟩
def vpsum : Desc := ⟨0x48a0042, 0x10000, 0, 0x12000, 0, 0, 0, 0⟩
def vgather : Desc := ⟨0x880043, 0, 0, 0x12000, 0, 0x10000, 0, 0⟩
def fill : Desc := ⟨0x84, 0, 0x12000, 0, 0, 0xabcd, 0, 0⟩
def slowin : Desc := ⟨0x81, 0, 0x20000, 0, 0, 0, 0, 0⟩
def slowout : Desc := ⟨0x82, 0x20000, 0, 0, 0, 0, 0, 0⟩
def pull : Desc := ⟨0x83, 0x1000000000000, 0x12000, 0, 0, 0, 0, 0⟩
def hwin (s : State) : State := regs s [(.QD_HBM_RD_WIN, 0, 0x10000), (.QD_HBM_WR_WIN, 0, 0x10000)]
def pullS (st : EntSt) : State := powered { cores := [(0, withRegs (headCore 2 { desc := pull, st := st }) [(.MSH_FLOW, 3, 0x1000000001407)]), (1, headCore 0 {desc := mmul})] }
def send : Desc := ⟨0x500c0, 0, 0, 0, 0, 0, 0, 0⟩
def recv : Desc := ⟨0x500c1, 0, 0, 0x12000, 0, 0, 0, 0⟩
def bs64 : List Byte := List.replicate 64 3

def checksCompletionsAndReports1 : State := { quads := [(0, { faultQ := [[2, 3], [4]] })] }
def checksCompletionsAndReports2 : State := (exS { copy with w0 := 0x1380 })
def checksCompletionsAndReports3 : State := (bad 0 mmul)
def checksCompletionsAndReports4 : State := (regs (oneCore { queues := [(2, { ents := [exO] })] }) [(.QD_HBM_WR_WIN, 0, 0x10000)])
def checksCompletionsAndReports5 : State := { quads := [(0, { faultQ := [[9, 3], [4]] })] }
/-- States and operands that meet the hypotheses of the clauses of ChecksCompletionsAndReports. -/
theorem witness_ChecksCompletionsAndReports :
    ((checksCompletionsAndReports1.quad 0).faultQ = [[2#64, 3#64], [4#64]] ∧ programClass (wordAt [2#64, 3#64] 0) = true) ∧
    (checksCompletionsAndReports2.phys 0 = some 0 ∧ (checksCompletionsAndReports2.at' 500).mayComplete 0 2 0 = some { desc := { w0 := 4992#64, w1 := copy.w1, w2 := copy.w2, w3 := copy.w3, w4 := copy.w4, w5 := copy.w5, w6 := copy.w6, w7 := copy.w7 : Desc }, st := EntSt.executing, pend := [{ addr := 73728, data := List.replicate 64 7#8 : MemWrite }] : QEntry }
      ∧ ((checksCompletionsAndReports2.at' 500).core 0).tileDisagrees 2 { desc := { w0 := 4992#64, w1 := copy.w1, w2 := copy.w2, w3 := copy.w3, w4 := copy.w4, w5 := copy.w5, w6 := copy.w6, w7 := copy.w7 : Desc }, st := EntSt.executing, pend := [{ addr := 73728, data := List.replicate 64 7#8 : MemWrite }] : QEntry }
      = false ∧ ({ c := (checksCompletionsAndReports2.at' 500).core 0, now := 500 : Run }.settle 2 { desc := { w0 := 4992#64, w1 := copy.w1, w2 := copy.w2, w3 := copy.w3, w4 := copy.w4, w5 := copy.w5, w6 := copy.w6, w7 := copy.w7 : Desc }, st := EntSt.executing, pend := [{ addr := 73728, data := List.replicate 64 7#8 : MemWrite }] : QEntry }).fault
      = none ∧ { desc := { w0 := 4992#64, w1 := copy.w1, w2 := copy.w2, w3 := copy.w3, w4 := copy.w4, w5 := copy.w5, w6 := copy.w6, w7 := copy.w7 : Desc }, st := EntSt.executing, pend := [{ addr := 73728, data := List.replicate 64 7#8 : MemWrite }] : QEntry }.desc.sig
      = 0 ∧ ((checksCompletionsAndReports2.at' 500).core 0).frames = [] ∧ { desc := { w0 := 4992#64, w1 := copy.w1, w2 := copy.w2, w3 := copy.w3, w4 := copy.w4, w5 := copy.w5, w6 := copy.w6, w7 := copy.w7 : Desc }, st := EntSt.executing, pend := [{ addr := 73728, data := List.replicate 64 7#8 : MemWrite }] : QEntry }.desc.f
      0 12 12 = 1) ∧
    ((matrixJudge = matrixJudge ∧ [Instr.mmul 0 5#64, Instr.anchor 0 5#64, Instr.wpadd 0 5#64] = [Instr.mmul 0 5#64, Instr.anchor 0 5#64,
      Instr.wpadd 0 5#64] ∨ matrixJudge = vectorJudge ∧ [Instr.mmul 0 5#64, Instr.anchor 0 5#64, Instr.wpadd 0 5#64] = [Instr.vewAdd 0
      5#64, Instr.vewErf 0 5#64, Instr.vcvt 0 5#64, Instr.vredSum 0 5#64, Instr.vredMax 0 5#64, Instr.vredPsum 0 5#64, Instr.vgather 0
      5#64] ∨ matrixJudge = moveJudge ∧ [Instr.mmul 0 5#64, Instr.anchor 0 5#64, Instr.wpadd 0 5#64] = [Instr.copy 0 5#64, Instr.fill 0
      5#64, Instr.slowIn 0 5#64 { bad := [], sec := 0, ondie := 0 : HbmFinds }, Instr.slowOut 0 5#64 [], Instr.pull 0 5#64] ∨ matrixJudge =
      exchangeJudge ∧ [Instr.mmul 0 5#64, Instr.anchor 0 5#64, Instr.wpadd 0 5#64] = [Instr.send 0 5#64, Instr.recv 0 5#64, Instr.esend 0
      5#64, Instr.eread 0 5#64]) ∧ checksCompletionsAndReports3.phys 0 = some 0 ∧ (checksCompletionsAndReports3.core 0).head
      matrixJudge.queue = some (0, { desc := mmul : QEntry }) ∧ sigReserved { desc := mmul : QEntry }.desc (matrixJudge.check
      checksCompletionsAndReports3 (0 / 64) (checksCompletionsAndReports3.core 0) { desc := mmul : QEntry }.desc) = some { kind := 4, detail := 0, addr := 0 : MemFault }
      ∧ Instr.mmul 0 5#64 ∈ [Instr.mmul 0 5#64, Instr.anchor 0 5#64, Instr.wpadd 0 5#64] ∧ Instr.anchor 0 5#64 ∈ [Instr.mmul 0 5#64,
      Instr.anchor 0 5#64, Instr.wpadd 0 5#64] ∧ Instr.wpadd 0 5#64 ∈ [Instr.mmul 0 5#64, Instr.anchor 0 5#64, Instr.wpadd 0 5#64] ∧ 1 ≠
      matrixJudge.queue ∧ 2 ≠ matrixJudge.queue ∧ 72 ≠ matrixJudge.queue) ∧
    (checksCompletionsAndReports4.phys 0 = some 0 ∧ (checksCompletionsAndReports4.at' 500).mayComplete 0 2 0 = none) ∧
    ((checksCompletionsAndReports5.quad 0).faultQ = [[9#64, 3#64], [4#64]] ∧ programClass (wordAt [9#64, 3#64] 0) = false) :=
  ⟨by decide +kernel,
    by decide +kernel,
    ⟨.inl ⟨rfl, rfl⟩, by decide +kernel⟩,
    by decide +kernel,
    by decide +kernel⟩
def matrixStartsAndResidue1 : State := (hs 0 mmul)
def matrixStartsAndResidue2 : State := (rmS 0 true true)
def matrixStartsAndResidue3 : State := (rmS 1 true false)
def matrixStartsAndResidue4 : State := (hs 0 wpadd)
/-- States and operands that meet the hypotheses of the clauses of MatrixStartsAndResidue. -/
theorem witness_MatrixStartsAndResidue :
    (matrixStartsAndResidue1.MayStart 0 0 0 matrixJudge { desc := mmul : QEntry } ∧ (0, Instr.mmul 0 5#64) ∈ [(0, Instr.mmul 0 5#64), (1,
      Instr.anchor 0 5#64), (2, Instr.wpadd 0 5#64)] ∧ { desc := mmul : QEntry }.desc.op = 0 ∧ (matrixStartsAndResidue1.core
      0).injectResidue = false ∧ (matrixWork { desc := mmul : QEntry }.desc (matrixStartsAndResidue1.workOn 0 5 0 { desc := mmul : QEntry })).fst.fault
      = none) ∧
    (matrixStartsAndResidue2.phys 0 = some 0 ∧ ((List.filter (fun x => decide (x.fst.st = EntSt.executing)) ((matrixStartsAndResidue2.core
      0).queue 0).ents.zipIdx)[0]? = some ({ desc := (rm 0).desc, pc := (rm 0).pc, tpl := (rm 0).tpl, stage := (rm 0).stage, ord := (rm 0).ord, frame := (rm 0).frame, seqNo := (rm 0).seqNo, st := (rm 0).st, claims := (rm 0).claims, pend := (rm 0).pend, anchor := (rm 0).anchor, saved := (rm 0).saved, replays := (rm 0).replays, rehearse := true, moved := (rm 0).moved, req := (rm 0).req, hbm := (rm 0).hbm, hbmBad := (rm 0).hbmBad, flits := (rm 0).flits : QEntry },
      0)) ∧ { desc := (rm 0).desc, pc := (rm 0).pc, tpl := (rm 0).tpl, stage := (rm 0).stage, ord := (rm 0).ord, frame := (rm 0).frame, seqNo := (rm 0).seqNo, st := (rm 0).st, claims := (rm 0).claims, pend := (rm 0).pend, anchor := (rm 0).anchor, saved := (rm 0).saved, replays := (rm 0).replays, rehearse := true, moved := (rm 0).moved, req := (rm 0).req, hbm := (rm 0).hbm, hbmBad := (rm 0).hbmBad, flits := (rm 0).flits : QEntry }.replays
      = 0 ∧ 0 = 0 ∧ (matrixStartsAndResidue2.at' 500).mayComplete 0 0 0 = some { desc := (rm 0).desc, pc := (rm 0).pc, tpl := (rm 0).tpl, stage := (rm 0).stage, ord := (rm 0).ord, frame := (rm 0).frame, seqNo := (rm 0).seqNo, st := (rm 0).st, claims := (rm 0).claims, pend := (rm 0).pend, anchor := (rm 0).anchor, saved := (rm 0).saved, replays := (rm 0).replays, rehearse := true, moved := (rm 0).moved, req := (rm 0).req, hbm := (rm 0).hbm, hbmBad := (rm 0).hbmBad, flits := (rm 0).flits : QEntry }
      ∧ (matrixStartsAndResidue2.core 0).tileDisagrees 0 { desc := (rm 0).desc, pc := (rm 0).pc, tpl := (rm 0).tpl, stage := (rm 0).stage, ord := (rm 0).ord, frame := (rm 0).frame, seqNo := (rm 0).seqNo, st := (rm 0).st, claims := (rm 0).claims, pend := (rm 0).pend, anchor := (rm 0).anchor, saved := (rm 0).saved, replays := (rm 0).replays, rehearse := true, moved := (rm 0).moved, req := (rm 0).req, hbm := (rm 0).hbm, hbmBad := (rm 0).hbmBad, flits := (rm 0).flits : QEntry }
      = true) ∧
    (matrixStartsAndResidue3.phys 0 = some 0 ∧ ((List.filter (fun x => decide (x.fst.st = EntSt.executing)) ((matrixStartsAndResidue3.core
      0).queue 0).ents.zipIdx)[0]? = some (rm 1, 0)) ∧ (rm 1).replays ≠ 0 ∧ 0 = 0 ∧ (matrixStartsAndResidue3.at' 500).mayComplete 0 0 0 =
      some (rm 1) ∧ (matrixStartsAndResidue3.core 0).tileDisagrees 0 (rm 1) = true) ∧
    (matrixStartsAndResidue4.MayStart 0 0 0 matrixJudge { desc := wpadd : QEntry } ∧ (2, Instr.wpadd 0 5#64) ∈ [(0, Instr.mmul 0 5#64), (1,
      Instr.anchor 0 5#64), (2, Instr.wpadd 0 5#64)] ∧ { desc := wpadd : QEntry }.desc.op = 2 ∧ (matrixStartsAndResidue4.core
      0).injectResidue = false ∧ (matrixWork { desc := wpadd : QEntry }.desc (matrixStartsAndResidue4.workOn 0 5 0 { desc := wpadd : QEntry })).fst.fault
      = some { kind := 2, detail := 4, addr := 0 : MemFault }) :=
  ⟨⟨(by constructor <;> decide +kernel), by decide +kernel⟩,
    by decide +kernel,
    by decide +kernel,
    ⟨(by constructor <;> decide +kernel), by decide +kernel⟩⟩
def vectorStarts1 : State := (hs 1 (vew 0))
def vectorStarts2 : State := (hs 1 (vew 3))
def vectorStarts3 : State := (hs 1 (vew1 0x19))
def vectorStarts4 : State := (hs 1 vcvt)
def vectorStarts5 : State := (hs 1 vred)
def vectorStarts6 : State := (hs 1 vpsum)
def vectorStarts7 : State := (hs 1 vgather)
/-- States and operands that meet the hypotheses of the clauses of VectorStarts. -/
theorem witness_VectorStartsA :
    (vectorStarts1.MayStart 0 0 0 vectorJudge { desc := vew 0#64 : QEntry } ∧ (0, Instr.vewAdd 0 5#64) ∈ [(0, Instr.vewAdd 0 5#64), (1,
      Instr.vewSub 0 5#64), (2, Instr.vewMul 0 5#64), (3, Instr.vewDiv 0 5#64), (4, Instr.vewFma 0 5#64), (5, Instr.vewFms 0 5#64), (6,
      Instr.vewFmai 0 5#64), (7, Instr.vewMaximum 0 5#64), (8, Instr.vewMinimum 0 5#64), (9, Instr.vewAbs 0 5#64), (10, Instr.vewNeg 0
      5#64), (11, Instr.vewMov 0 5#64), (12, Instr.vewMulfrac 0 5#64), (13, Instr.vewSqrt 0 5#64), (16, Instr.vewExp2 0 5#64), (17,
      Instr.vewLog2 0 5#64), (18, Instr.vewRecip 0 5#64), (19, Instr.vewRsqrt 0 5#64), (20, Instr.vewSturn 0 5#64), (21, Instr.vewCturn 0
      5#64), (22, Instr.vewTanh 0 5#64), (23, Instr.vewSigmoid 0 5#64), (24, Instr.vewErf 0 5#64), (25, Instr.vewSilu 0 5#64)] ∧ { desc := vew 0#64 : QEntry }.desc.op
      = 0 ∧ { desc := vew 0#64 : QEntry }.desc.vFunc = 0) ∧
    (vectorStarts2.MayStart 0 0 0 vectorJudge { desc := vew 3#64 : QEntry } ∧ (3, Instr.vewDiv 0 5#64) ∈ [(0, Instr.vewAdd 0 5#64), (1,
      Instr.vewSub 0 5#64), (2, Instr.vewMul 0 5#64), (3, Instr.vewDiv 0 5#64), (4, Instr.vewFma 0 5#64), (5, Instr.vewFms 0 5#64), (6,
      Instr.vewFmai 0 5#64), (7, Instr.vewMaximum 0 5#64), (8, Instr.vewMinimum 0 5#64), (9, Instr.vewAbs 0 5#64), (10, Instr.vewNeg 0
      5#64), (11, Instr.vewMov 0 5#64), (12, Instr.vewMulfrac 0 5#64), (13, Instr.vewSqrt 0 5#64), (16, Instr.vewExp2 0 5#64), (17,
      Instr.vewLog2 0 5#64), (18, Instr.vewRecip 0 5#64), (19, Instr.vewRsqrt 0 5#64), (20, Instr.vewSturn 0 5#64), (21, Instr.vewCturn 0
      5#64), (22, Instr.vewTanh 0 5#64), (23, Instr.vewSigmoid 0 5#64), (24, Instr.vewErf 0 5#64), (25, Instr.vewSilu 0 5#64)] ∧ { desc := vew 3#64 : QEntry }.desc.op
      = 0 ∧ { desc := vew 3#64 : QEntry }.desc.vFunc = 3) ∧
    (vectorStarts3.MayStart 0 0 0 vectorJudge { desc := vew1 25#64 : QEntry } ∧ (25, Instr.vewSilu 0 5#64) ∈ [(0, Instr.vewAdd 0 5#64), (1,
      Instr.vewSub 0 5#64), (2, Instr.vewMul 0 5#64), (3, Instr.vewDiv 0 5#64), (4, Instr.vewFma 0 5#64), (5, Instr.vewFms 0 5#64), (6,
      Instr.vewFmai 0 5#64), (7, Instr.vewMaximum 0 5#64), (8, Instr.vewMinimum 0 5#64), (9, Instr.vewAbs 0 5#64), (10, Instr.vewNeg 0
      5#64), (11, Instr.vewMov 0 5#64), (12, Instr.vewMulfrac 0 5#64), (13, Instr.vewSqrt 0 5#64), (16, Instr.vewExp2 0 5#64), (17,
      Instr.vewLog2 0 5#64), (18, Instr.vewRecip 0 5#64), (19, Instr.vewRsqrt 0 5#64), (20, Instr.vewSturn 0 5#64), (21, Instr.vewCturn 0
      5#64), (22, Instr.vewTanh 0 5#64), (23, Instr.vewSigmoid 0 5#64), (24, Instr.vewErf 0 5#64), (25, Instr.vewSilu 0 5#64)] ∧ { desc := vew1 25#64 : QEntry }.desc.op
      = 0 ∧ { desc := vew1 25#64 : QEntry }.desc.vFunc = 25) ∧
    ((1, 0, Instr.vcvt 0 5#64, vectorVcvt) ∈ [(1, { desc := vcvt : QEntry }.desc.f 0 31 24, Instr.vcvt 0 5#64, vectorVcvt), (2, 0,
      Instr.vredSum 0 5#64, vectorVred), (2, 1, Instr.vredSumsq 0 5#64, vectorVred), (2, 2, Instr.vredMax 0 5#64, vectorVred), (2, 3,
      Instr.vredMin 0 5#64, vectorVred), (2, 4, Instr.vredPsum 0 5#64, vectorVred), (3, { desc := vcvt : QEntry }.desc.f 0 31 24,
      Instr.vgather 0 5#64, vectorGather)] ∧ vectorStarts4.MayStart 0 0 0 vectorJudge { desc := vcvt : QEntry } ∧ { desc := vcvt : QEntry }.desc.op
      = 1 ∧ { desc := vcvt : QEntry }.desc.f 0 31 24 = 0 ∧ (vectorVcvt (vectorStarts4.workOn 0 5 1 { desc := vcvt : QEntry }) { desc := vcvt : QEntry }.desc).fault
      = none) ∧
    ((2, 0, Instr.vredSum 0 5#64, vectorVred) ∈ [(1, { desc := vred : QEntry }.desc.f 0 31 24, Instr.vcvt 0 5#64, vectorVcvt), (2, 0,
      Instr.vredSum 0 5#64, vectorVred), (2, 1, Instr.vredSumsq 0 5#64, vectorVred), (2, 2, Instr.vredMax 0 5#64, vectorVred), (2, 3,
      Instr.vredMin 0 5#64, vectorVred), (2, 4, Instr.vredPsum 0 5#64, vectorVred), (3, { desc := vred : QEntry }.desc.f 0 31 24,
      Instr.vgather 0 5#64, vectorGather)] ∧ vectorStarts5.MayStart 0 0 0 vectorJudge { desc := vred : QEntry } ∧ { desc := vred : QEntry }.desc.op
      = 2 ∧ { desc := vred : QEntry }.desc.f 0 31 24 = 0 ∧ (vectorVred (vectorStarts5.workOn 0 5 1 { desc := vred : QEntry }) { desc := vred : QEntry }.desc).fault
      = none) ∧
    ((2, 4, Instr.vredPsum 0 5#64, vectorVred) ∈ [(1, { desc := vpsum : QEntry }.desc.f 0 31 24, Instr.vcvt 0 5#64, vectorVcvt), (2, 0,
      Instr.vredSum 0 5#64, vectorVred), (2, 1, Instr.vredSumsq 0 5#64, vectorVred), (2, 2, Instr.vredMax 0 5#64, vectorVred), (2, 3,
      Instr.vredMin 0 5#64, vectorVred), (2, 4, Instr.vredPsum 0 5#64, vectorVred), (3, { desc := vpsum : QEntry }.desc.f 0 31 24,
      Instr.vgather 0 5#64, vectorGather)] ∧ vectorStarts6.MayStart 0 0 0 vectorJudge { desc := vpsum : QEntry } ∧ { desc := vpsum : QEntry }.desc.op
      = 2 ∧ { desc := vpsum : QEntry }.desc.f 0 31 24 = 4 ∧ (vectorVred (vectorStarts6.workOn 0 5 1 { desc := vpsum : QEntry }) { desc := vpsum : QEntry }.desc).fault
      = some { kind := 2, detail := 4, addr := 0 : MemFault }) ∧
    ((3, 0, Instr.vgather 0 5#64, vectorGather) ∈ [(1, { desc := vgather : QEntry }.desc.f 0 31 24, Instr.vcvt 0 5#64, vectorVcvt), (2, 0,
      Instr.vredSum 0 5#64, vectorVred), (2, 1, Instr.vredSumsq 0 5#64, vectorVred), (2, 2, Instr.vredMax 0 5#64, vectorVred), (2, 3,
      Instr.vredMin 0 5#64, vectorVred), (2, 4, Instr.vredPsum 0 5#64, vectorVred), (3, { desc := vgather : QEntry }.desc.f 0 31 24,
      Instr.vgather 0 5#64, vectorGather)] ∧ vectorStarts7.MayStart 0 0 0 vectorJudge { desc := vgather : QEntry } ∧ { desc := vgather : QEntry }.desc.op
      = 3 ∧ { desc := vgather : QEntry }.desc.f 0 31 24 = 0 ∧ (vectorGather (vectorStarts7.workOn 0 5 1 { desc := vgather : QEntry }) { desc := vgather : QEntry }.desc).fault
      = none) :=
  ⟨⟨(by constructor <;> decide +kernel), by decide +kernel⟩,
    ⟨(by constructor <;> decide +kernel), by decide +kernel⟩,
    ⟨(by constructor <;> decide +kernel), by decide +kernel⟩,
    ⟨.head _, (by constructor <;> decide +kernel), by decide +kernel⟩,
    ⟨.tail _ (.head _), (by constructor <;> decide +kernel), by decide +kernel⟩,
    ⟨.tail _ (.tail _ (.tail _ (.tail _ (.tail _ (.head _))))), (by constructor <;> decide +kernel), by decide +kernel⟩,
    ⟨.tail _ (.tail _ (.tail _ (.tail _ (.tail _ (.tail _ (.head _)))))), (by constructor <;> decide +kernel), by decide +kernel⟩⟩
def movesAndPulls1 : State := (pullS .executing)
def movesAndPulls2 : State := (hwin (hs 2 slowin))
def movesAndPulls3 : State := (hwin (hs 2 slowout))
def movesAndPulls4 : State := (pullS .waiting)
def movesAndPulls5 : State := (regs (pullS .executing) [(.MSH_ROUTER_STAT, 1, 0x1000000000000)])
def movesAndPulls6 : State := (hs 2 copy)
def movesAndPulls7 : State := (hs 2 fill)
/-- States and operands that meet the hypotheses of the clauses of MovesAndPulls. -/
theorem witness_MovesAndPullsA :
    (movesAndPulls1.phys 0 = some 0 ∧ (((movesAndPulls1.core 0).pulling fun x => decide (x.req = 0)) = some ({ desc := pull, st := EntSt.executing : QEntry },
      0)) ∧ movesAndPulls1.phys ({ desc := pull, st := EntSt.executing : QEntry }.desc.f 1 55 48) = some 1 ∧ 1 ≠ 0 ∧ movesAndPulls1.fenced
      1 = false ∧ { c := movesAndPulls1.core 1, now := movesAndPulls1.now : Run }.read ({ desc := pull, st := EntSt.executing : QEntry }.desc.f
      1 47 0) (({ desc := pull, st := EntSt.executing : QEntry }.desc.f 4 23 0 + 1) * 64) = ({ c := movesAndPulls1.core 1, now := 0 : Run },
      List.replicate 64 0#8) ∧ { c := movesAndPulls1.core 1, now := 0 : Run }.fault = none ∧ { c := movesAndPulls1.core 1, now := 0 : Run }.evs
      = [] ∧ (movesAndPulls1.core 0).pullFlow ({ desc := pull, st := EntSt.executing : QEntry }.desc.f 1 55 48) = some 3) ∧
    (movesAndPulls2.MayStart 0 0 0 moveJudge { desc := slowin : QEntry } ∧ { desc := slowin : QEntry }.desc.op = 1 ∧ (movesAndPulls2.quad
      (0 / 72)).hbmBad = [] ∧ ((movesAndPulls2.workOn 0 5 2 { desc := slowin : QEntry }).write ({ desc := slowin : QEntry }.desc.f 2 47 0)
      ((movesAndPulls2.quad (0 / 72)).hbm.readN ({ desc := slowin : QEntry }.desc.f 1 39 0) (({ desc := slowin : QEntry }.desc.f 4 23 0 +
      1) * 64))).fault = none ∧ ((movesAndPulls2.workOn 0 5 2 { desc := slowin : QEntry }).write ({ desc := slowin : QEntry }.desc.f 2 47
      0) ((movesAndPulls2.quad (0 / 72)).hbm.readN ({ desc := slowin : QEntry }.desc.f 1 39 0) (({ desc := slowin : QEntry }.desc.f 4 23 0
      + 1) * 64))).evs = []) ∧
    (movesAndPulls3.MayStart 0 0 0 moveJudge { desc := slowout : QEntry } ∧ { desc := slowout : QEntry }.desc.op = 2 ∧
      (movesAndPulls3.workOn 0 5 2 { desc := slowout : QEntry }).read ({ desc := slowout : QEntry }.desc.f 1 47 0) (({ desc := slowout : QEntry }.desc.f
      4 23 0 + 1) * 64) = (movesAndPulls3.workOn 0 5 2 { desc := slowout : QEntry }, List.take (({ desc := slowout : QEntry }.desc.f 4 23 0
      + 1) * 64) (List.drop ({ desc := slowout : QEntry }.desc.f 1 47 0 - { desc := slowout : QEntry }.desc.f 1 47 0 / 64 * 64)
      (List.replicate 64 0#8 ++ []))) ∧ (movesAndPulls3.workOn 0 5 2 { desc := slowout : QEntry }).fault = none ∧ (movesAndPulls3.workOn 0
      5 2 { desc := slowout : QEntry }).evs = []) ∧
    (movesAndPulls4.MayStart 0 0 0 moveJudge { desc := pull : QEntry } ∧ { desc := pull : QEntry }.desc.op = 3 ∧ (movesAndPulls4.workOn 0 5
      2 { desc := pull : QEntry }).fault = none ∧ (movesAndPulls4.workOn 0 5 2 { desc := pull : QEntry }).evs = []) ∧
    (movesAndPulls5.phys 0 = some 0 ∧ (((movesAndPulls5.core 0).pulling fun x => decide (x.req = 0)) = some ({ desc := pull, st := EntSt.executing : QEntry },
      0)) ∧ movesAndPulls5.phys ({ desc := pull, st := EntSt.executing : QEntry }.desc.f 1 55 48) = some 1 ∧ 1 ≠ 0 ∧ movesAndPulls5.fenced
      1 = true) ∧
    (movesAndPulls6.MayStart 0 0 0 moveJudge { desc := copy : QEntry } ∧ { desc := copy : QEntry }.desc.op = 0 ∧ ((List.foldl (fun r i =>
      (r.read ({ desc := copy : QEntry }.desc.f 1 47 0 + i * if { desc := copy : QEntry }.desc.f 1 63 48 = 0 then 64 * ({ desc := copy : QEntry }.desc.f
      4 23 0 + 1) else 64 * { desc := copy : QEntry }.desc.f 1 63 48) (64 * ({ desc := copy : QEntry }.desc.f 4 23 0 + 1))).fst.write ({ desc := copy : QEntry }.desc.f
      2 47 0 + i * if { desc := copy : QEntry }.desc.f 2 63 48 = 0 then 64 * ({ desc := copy : QEntry }.desc.f 4 23 0 + 1) else 64 * { desc := copy : QEntry }.desc.f
      2 63 48) (r.read ({ desc := copy : QEntry }.desc.f 1 47 0 + i * if { desc := copy : QEntry }.desc.f 1 63 48 = 0 then 64 * ({ desc := copy : QEntry }.desc.f
      4 23 0 + 1) else 64 * { desc := copy : QEntry }.desc.f 1 63 48) (64 * ({ desc := copy : QEntry }.desc.f 4 23 0 + 1))).snd)
      (movesAndPulls6.workOn 0 5 2 { desc := copy : QEntry }) (List.range ({ desc := copy : QEntry }.desc.f 4 47 32 + 1))).fault = none)) ∧
    (movesAndPulls7.MayStart 0 0 0 moveJudge { desc := fill : QEntry } ∧ { desc := fill : QEntry }.desc.op = 4 ∧ (((movesAndPulls7.workOn 0
      5 2 { desc := fill : QEntry }).write ({ desc := fill : QEntry }.desc.f 2 47 0) (List.flatMap (fun x => leBytes 8 (BitVec.toNat { desc := fill : QEntry }.desc.w5))
      (List.range (8 * ({ desc := fill : QEntry }.desc.f 4 23 0 + 1))))).fault = none)) :=
  ⟨by decide +kernel,
    ⟨(by constructor <;> decide +kernel), by decide +kernel⟩,
    ⟨(by constructor <;> decide +kernel), by decide +kernel⟩,
    ⟨(by constructor <;> decide +kernel), by decide +kernel⟩,
    by decide +kernel,
    ⟨(by constructor <;> decide +kernel), by decide +kernel⟩,
    ⟨(by constructor <;> decide +kernel), by decide +kernel⟩⟩
def exchangeStarts1 : State := (hs 3 send)
def exchangeStarts4 : State := (oneCore { headCore 3 { desc := recv } with staged := [(5, [⟨bs64, 9⟩, ⟨bs64, 8⟩])] })
def exchangeStarts5 : State := (powered (oneCore (withRegs {} [(.MSH_FLOW, 5, 0x10000)])))
/-- States and operands that meet the hypotheses of the clauses of ExchangeStarts. -/
theorem witness_ExchangeStartsA :
    (exchangeStarts1.MayStart 0 0 0 exchangeJudge { desc := send : QEntry } ∧ { desc := send : QEntry }.desc.op = 0 ∧
      (exchangeStarts1.workOn 0 5 3 { desc := send : QEntry }).read ({ desc := send : QEntry }.desc.f 1 47 0) (({ desc := send : QEntry }.desc.f
      4 23 0 + 1) * 64) = (exchangeStarts1.workOn 0 5 3 { desc := send : QEntry }, List.take (({ desc := send : QEntry }.desc.f 4 23 0 + 1)
      * 64) (List.drop ({ desc := send : QEntry }.desc.f 1 47 0 - { desc := send : QEntry }.desc.f 1 47 0 / 64 * 64) (List.replicate 64 0#8
      ++ []))) ∧ (exchangeStarts1.workOn 0 5 3 { desc := send : QEntry }).fault = none ∧ (exchangeStarts1.workOn 0 5 3 { desc := send : QEntry }).evs
      = [] ∧ exchangeStarts1.phys 0 = some 0 ∧ exchangeStarts1.fenced 0 = true) ∧
    (exchangeStarts4.MayStart 0 0 0 exchangeJudge { desc := recv : QEntry } ∧ { desc := recv : QEntry }.desc.op = 1 ∧ (exchangeStarts4.core
      0).staged.get { desc := recv : QEntry }.desc.flow [] = [{ data := bs64, crc := 9 : Granule }, { data := bs64, crc := 8 : Granule }] ∧
      (exchangeStarts4.workOn 0 5 3 { desc := recv : QEntry }).fault = none ∧ (exchangeStarts4.workOn 0 5 3 { desc := recv : QEntry }).evs
      = [] ∧ (List.map QEntry.seqNo ((exchangeStarts4.core 0).queue 3).ents).Nodup ∧ (∀ (x : QEntry), x ∈ ((exchangeStarts4.core 0).queue
      3).ents → x.st = EntSt.executing → x.desc.op ≠ 1 ∨ x.desc.flow ≠ { desc := recv : QEntry }.desc.flow ∨ x.desc.granules ≤ x.moved)) ∧
    (exchangeStarts5.phys 0 = some 0 ∧ exchangeStarts5.fenced 0 = false ∧ bs64.length = 64 ∧ ((exchangeStarts5.core 0).queue 3).ents = [] ∧
      ((exchangeStarts5.core 0).queue 2).ents = [] ∧ (exchangeStarts5.core 0).staged.get 5 [] = [] ∧ ([] : List Byte).length < 2 *
      (exchangeStarts5.core 0).fld Reg.MSH_FLOW 5 27 16) :=
  ⟨⟨(by constructor <;> decide +kernel), by decide +kernel⟩,
    ⟨(by constructor <;> decide +kernel), by decide +kernel⟩,
    by decide +kernel⟩

end Sys2Proof.Tests.Queues

namespace Sys2Proof.Tests.Starts
open Sys2Proof Sys2Proof.Machine Sys2Proof.Tests

def copy : Desc := ⟨0x80, 0x10000, 0x12000, 0, 0, 0, 0, 0⟩
def vcvt : Desc := ⟨0x780041, 0x10000, 0, 0x12000, 0, 0, 0, 0⟩
def ps (k : Nat) (d : Desc) : State := oneCore { headCore k { desc := d } with units := [(0x400, { poison := true, init := false }), (0x480, { poison := true, init := false })] }
def esend : Desc := ⟨0xc2, 0, 0x1000, 0, 0, 7, 0, 0⟩
def eread : Desc := ⟨0xc3, 0, 0x1000, 0x12000, 0, 7, 0, 0⟩
def win1 (d : Desc) : State := regs (oneCore (headCore 3 { desc := d })) [(.QD_ELA_WIN, 0, 0xF)]

/-- States and operands that meet the hypotheses of the clauses of ResetState. -/
theorem witness_ResetState :
    (0 < 12 ∧ 1 < 12 ∧ 2 < 12 ∧ 0 < 256 ∧ 1 < 256 ∧ 2 < 256 ∧ 72 < 256) :=
  by decide +kernel
/-- States and operands that meet the hypotheses of the clauses of SequencerFrame. -/
theorem witness_SequencerFrame :
    (exec (Instr.add 0 1 2 3) (win1 eread) = Host.Outcome.next (win1 eread) ∧ seqCommand (Instr.add 0 1 2 3) = some 0 ∧ (win1 eread).phys 0
      ≠ some 1 ∧ (win1 eread).phys 0 ≠ some 2 ∧ (win1 eread).phys 0 ≠ some 72) :=
  ⟨rfl, by decide +kernel⟩
def vectorStarts8 : State := (ps 1 vcvt)
/-- States and operands that meet the hypotheses of the clauses of VectorStarts. -/
theorem witness_VectorStartsB :
    ((1, 0, Instr.vcvt 0 5#64, vectorVcvt) ∈ [(1, { desc := vcvt : QEntry }.desc.f 0 31 24, Instr.vcvt 0 5#64, vectorVcvt), (2, 0,
      Instr.vredSum 0 5#64, vectorVred), (2, 1, Instr.vredSumsq 0 5#64, vectorVred), (2, 2, Instr.vredMax 0 5#64, vectorVred), (2, 3,
      Instr.vredMin 0 5#64, vectorVred), (2, 4, Instr.vredPsum 0 5#64, vectorVred), (3, { desc := vcvt : QEntry }.desc.f 0 31 24,
      Instr.vgather 0 5#64, vectorGather)] ∧ vectorStarts8.MayStart 0 0 0 vectorJudge { desc := vcvt : QEntry } ∧ { desc := vcvt : QEntry }.desc.op
      = 1 ∧ { desc := vcvt : QEntry }.desc.f 0 31 24 = 0 ∧ (vectorVcvt (vectorStarts8.workOn 0 5 1 { desc := vcvt : QEntry }) { desc := vcvt : QEntry }.desc).fault
      = some { kind := if decide ((vectorStarts8.workOn 0 5 1 { desc := vcvt : QEntry }).c.unitType (({ desc := vcvt : QEntry }.desc.f 1 47 0 + 0 * rowStep ({ desc := vcvt : QEntry }.desc.f 1 63 48) (vRowBytes { desc := vcvt : QEntry }.desc.vSrc { desc := vcvt : QEntry }.desc.vLen)) / 64) = 1) = true then 9 else 10, detail := 1, addr := ({ desc := vcvt : QEntry }.desc.f 1 47 0 + 0 * rowStep ({ desc := vcvt : QEntry }.desc.f 1 63 48) (vRowBytes { desc := vcvt : QEntry }.desc.vSrc { desc := vcvt : QEntry }.desc.vLen)) / 64 * 64 : MemFault }) :=
  ⟨.head _, (by constructor <;> decide +kernel), by decide +kernel⟩
def movesAndPulls8 : State := (ps 2 copy)
/-- States and operands that meet the hypotheses of the clauses of MovesAndPulls. -/
theorem witness_MovesAndPullsB :
    (movesAndPulls8.MayStart 0 0 0 moveJudge { desc := copy : QEntry } ∧ { desc := copy : QEntry }.desc.op = 0 ∧ ((List.foldl (fun r i =>
      (r.read ({ desc := copy : QEntry }.desc.f 1 47 0 + i * if { desc := copy : QEntry }.desc.f 1 63 48 = 0 then 64 * ({ desc := copy : QEntry }.desc.f
      4 23 0 + 1) else 64 * { desc := copy : QEntry }.desc.f 1 63 48) (64 * ({ desc := copy : QEntry }.desc.f 4 23 0 + 1))).fst.write ({ desc := copy : QEntry }.desc.f
      2 47 0 + i * if { desc := copy : QEntry }.desc.f 2 63 48 = 0 then 64 * ({ desc := copy : QEntry }.desc.f 4 23 0 + 1) else 64 * { desc := copy : QEntry }.desc.f
      2 63 48) (r.read ({ desc := copy : QEntry }.desc.f 1 47 0 + i * if { desc := copy : QEntry }.desc.f 1 63 48 = 0 then 64 * ({ desc := copy : QEntry }.desc.f
      4 23 0 + 1) else 64 * { desc := copy : QEntry }.desc.f 1 63 48) (64 * ({ desc := copy : QEntry }.desc.f 4 23 0 + 1))).snd)
      (movesAndPulls8.workOn 0 5 2 { desc := copy : QEntry }) (List.range ({ desc := copy : QEntry }.desc.f 4 47 32 + 1))).fault = some { kind := if decide ((movesAndPulls8.workOn 0 5 2 { desc := copy : QEntry }).c.unitType (({ desc := copy : QEntry }.desc.f 1 47 0 + 0 * if { desc := copy : QEntry }.desc.f 1 63 48 = 0 then 64 * ({ desc := copy : QEntry }.desc.f 4 23 0 + 1) else 64 * { desc := copy : QEntry }.desc.f 1 63 48) / 64) = 1) = true then 9 else 10, detail := 1, addr := ({ desc := copy : QEntry }.desc.f 1 47 0 + 0 * if { desc := copy : QEntry }.desc.f 1 63 48 = 0 then 64 * ({ desc := copy : QEntry }.desc.f 4 23 0 + 1) else 64 * { desc := copy : QEntry }.desc.f 1 63 48) / 64 * 64 : MemFault })) :=
  ⟨(by constructor <;> decide +kernel), by decide +kernel⟩
def exchangeStarts2 : State := (win1 esend)
def exchangeStarts3 : State := (win1 eread)
/-- States and operands that meet the hypotheses of the clauses of ExchangeStarts. -/
theorem witness_ExchangeStartsB :
    (exchangeStarts2.MayStart 0 0 0 exchangeJudge { desc := esend : QEntry } ∧ (exchangeStarts2.workOn 0 5 3 { desc := esend : QEntry }).fault
      = none ∧ (exchangeStarts2.workOn 0 5 3 { desc := esend : QEntry }).evs = [] ∧ exchangeStarts2.findWin (0 / 72) { desc := esend : QEntry }.desc.elaDst
      ({ desc := esend : QEntry }.desc.elaCore / 64) = some 0 ∧ { desc := esend : QEntry }.desc.op = 2 ∧ (exchangeStarts2.workOn 0 5 3 { desc := esend : QEntry }).read
      ({ desc := esend : QEntry }.desc.f 1 47 0) (({ desc := esend : QEntry }.desc.f 4 23 0 + 1) * 64) = (exchangeStarts2.workOn 0 5 3 { desc := esend : QEntry },
      List.take (({ desc := esend : QEntry }.desc.f 4 23 0 + 1) * 64) (List.drop ({ desc := esend : QEntry }.desc.f 1 47 0 - { desc := esend : QEntry }.desc.f
      1 47 0 / 64 * 64) (List.replicate 64 0#8 ++ [])))) ∧
    (exchangeStarts3.MayStart 0 0 0 exchangeJudge { desc := eread : QEntry } ∧ (exchangeStarts3.workOn 0 5 3 { desc := eread : QEntry }).fault
      = none ∧ (exchangeStarts3.workOn 0 5 3 { desc := eread : QEntry }).evs = [] ∧ exchangeStarts3.findWin (0 / 72) { desc := eread : QEntry }.desc.elaDst
      ({ desc := eread : QEntry }.desc.elaCore / 64) = some 0 ∧ { desc := eread : QEntry }.desc.op = 3) :=
  ⟨⟨(by constructor <;> decide +kernel), by decide +kernel⟩,
    ⟨(by constructor <;> decide +kernel), by decide +kernel⟩⟩

end Sys2Proof.Tests.Starts

namespace Sys2Proof.Tests.Storage
open Sys2Proof Sys2Proof.Machine Sys2Proof.Tests

def busy : State := oneCore { seq := { run := .issuing } }
def busyRun : State := regs busy [(.QD_VARIANT, 0, 8)]
def still : State := oneCore {}
def unitS (m : UnitMeta) (b : List (Nat × Byte)) : State := oneCore { withRegs {} regions with wbq := [0, 5], units := [(0, m)], sram := b }
def chkOf (b : Byte) : List Byte := rsCheck (b :: List.replicate 63 0)
def mfw : List U64 := [0x0100000100000007, 64, 0x550000000040, 0, 0, 0x1000000000000, 0x3000, 0, 0,0,0,0,0,0,0,0]
def recS : State := let z : List Byte := List.replicate 64 0
  { oneCore { withRegs {} regions with units := [(0, {poison := true, init := false})] } with
    quads := [(0, { recrys := [0], shards := [{ words := mfw, pieces := [(0,0,64,0, sha256 z)], live := true, bytes := 64 }] })] }
def recB : State := { recS with quads := [(0, { recS.quad 0 with hbmBad := [0x3000] })] }
def mfb (ws : List U64) : List Byte := ws.flatMap (fun w => leBytes 8 w.toNat)
/-- stored form: a 64-byte header, one chunk of method 1 that decodes to 32 bytes of 7 -/
def form : List Byte := [0x4B, 0x4E, 0x53, 0x43, 1, 1, 0, 0] ++ leBytes 8 32 ++ leBytes 4 1 ++ List.replicate 44 0 ++ [1,0,0,0,1,0,0,0,7]
def mf1 (staged : Bool) : List U64 := [if staged then 0x0109000100000007 else 0x0101000100000007, 73, 0x550000000020, 0, if staged then 0xF
  else 0x5000, 0, 0x3000, 0] ++
  (chunks 8 (sha256 form)).map (fun c => BitVec.ofNat 64 (ofLe c)) ++ [0,0,0,0]
def hostS : State := regs (oneCore {}) [(.HIF_CTRL, 0, 1), (.ING_CTRL, 0, 3), (.ING_STAGE, 0, 0x10002), (.QD_HBM_RD_WIN, 0, 0x10000),
  (.ING_TARGET_CFG, 0, 0x8000000)]
def eload : Entry := ⟨0x2200050020, 0x1000, 0,0,0,0,0,0⟩
def ld (st : List Byte) (m : Option Nat) (lim : Nat): LoadSt := { words := mf1 false, places := [], cid := 5, tag := 9, stored := st, asked := 73, outst := [(0, 73, 6)], limit := lim, marked := m }
def sfr (ce : Bool) (d : StoragePdu) : StorageFrame := { tags := 1, pause := false, length := 4200, ip := 6, options := false, udpPort := 4791, ce := ce, pdu := d }
def loadS (l : LoadSt) : State := { hostS with quads := [(0, { load := some l })] }
def mfD (src : U64) (f : List Byte) : List U64 := [0x0101000100000007, BitVec.ofNat 64 f.length, 0x500000000020 + src * 0x10000000000, 0,
  0x5000, 0, 0x3000, 0] ++
  (chunks 8 (sha256 f)).map (fun c => BitVec.ofNat 64 (ofLe c)) ++ [0,0,0,0]
def ldD (ws : List U64) (f : List Byte) : LoadSt := { words := ws, places := [], cid := 5, tag := 9, stored := f, asked := f.length, outst := [] }
def form8 : List Byte := form.take 72 ++ [8]
/-- A stored form whose decoded bytes are 0xFF. -/
def formF : List Byte := form.take 72 ++ [0xFF]
def badForm : List Byte := 0 :: form.drop 1
def rk (dg : List Byte) (ws : List U64) : ShardRec := { words := ws, pieces := [(0,0,32,0,dg)], live := true, bytes := 32 }
def recheckS (r : ShardRec) (k : Option Nat) (c : U64): State := { regs hostS [(.ING_CTRL, 0, c)] with quads := [(0, {shards := [r], recheck := k})] }
def z32 := sha256 (List.replicate 32 0)
def unS (run : Bool) (live : Bool) : State := { regs hostS [(.QD_VARIANT, 0, if run then 8 else 0), (.ING_SLOT_RANGE, 0, 0x2000), (.HUB_ADAPTER_SLOT, 1, if live then 0x20001 else 0x10001), (.HUB_ADAPTER_ID, 1, 7)] with
  quads := [(0, { shards := [rk z32 (mf1 true)], plan := some {role := 0, manifests := [mf1 true]} })] }
def eun : Entry := ⟨0x2200050021, 0x100000007, 0,0,0,0,0,0⟩

/-- States and operands that meet the hypotheses of the clauses of RegionAndShareWrites. -/
theorem witness_RegionAndShareWrites :
    (busyRun.phys 0 = some 0 ∧ (busyRun.core 0).quiescent = false ∧ (¬((true && busyRun.runs (0 / 64)) = true ∧ ((busyRun.core 0).regType 0
      = 0 ∧ bitsOf (536936448#64 &&& 17590038560767#64) 30 28 = 1 ∨ (busyRun.core 0).regType 0 = 1 ∧ bitsOf (536936448#64 &&&
      17590038560767#64) 30 28 = 0))) ∧ ((busyRun.core 0).quiescent && shareOk 536936448#64) = false) ∧
    (still.phys 0 = some 0 ∧ (still.core 0).quiescent = true ∧ shareOk 36610993058547848#64 = true) ∧
    (busyRun.phys 0 = some 0 ∧ (busyRun.core 0).quiescent = false ∧ (true && busyRun.runs (0 / 64)) = true ∧ ((busyRun.core 0).regType 0 =
      0 ∧ bitsOf (268500992#64 &&& 17590038560767#64) 30 28 = 1 ∨ (busyRun.core 0).regType 0 = 1 ∧ bitsOf (268500992#64 &&&
      17590038560767#64) 30 28 = 0)) :=
  ⟨by decide +kernel,
    by decide +kernel,
    by decide +kernel⟩
def crystalAndHbmUpkeep1 : State := (unitS ⟨chkOf 1, false, false⟩ [(0,1),(62,3),(63,9)])
def crystalAndHbmUpkeep3 : State := (oneCore { (unitS ⟨chkOf 1, false, false⟩ [(0,1),(63,9)]).core 0 with regs := [] })
def crystalAndHbmUpkeep5 : State := (unitS ⟨chkOf 1, false, false⟩ [(0,1)])
def crystalAndHbmUpkeep6 : State := (unitS ⟨chkOf 1, false, false⟩ [(0,1),(63,9)])
/-- States and operands that meet the hypotheses of the clauses of CrystalAndHbmUpkeep. -/
theorem witness_CrystalAndHbmUpkeep :
    ((crystalAndHbmUpkeep1.core 0).wbq = [0, 5] ∧ ((crystalAndHbmUpkeep1.core 0).unit 0).init = false ∧ ((crystalAndHbmUpkeep1.core 0).unit
      0).poison = false ∧ (crystalAndHbmUpkeep1.core 0).unitType 0 = 1 ∧ rsDecode ((crystalAndHbmUpkeep1.core 0).unitBytes 0 ++
      ((crystalAndHbmUpkeep1.core 0).unit 0).check) = RsResult.bad ∧ (crystalAndHbmUpkeep1.virtOf 0 = some (0 / 72 * 64 + 0 % 72 / 9 * 8 +
      (List.takeWhile (fun x => decide (x ≠ 0 % 9)) (insideCols (crystalAndHbmUpkeep1.outMask (0 / 72) (0 % 72 / 9)))).length))) ∧
    (recB.phys 0 = some 0 ∧ (recB.core 0).sram.wf = true ∧ (recB.quad (0 / 64)).recrys.contains 0 = true ∧ (recB.quad (0 / 64)).moved = []
      ∧ (recB.quad (0 / 64)).shards = [{ words := mfw, pieces := [(0, 0, 64, 0, sha256 (List.replicate 64 0#8))], live := true, bytes := 64 : ShardRec }]
      ∧ mfCrystal { words := mfw, pieces := [(0, 0, 64, 0, sha256 (List.replicate 64 0#8))], live := true, bytes := 64 : ShardRec }.words =
      true ∧ { words := mfw, pieces := [(0, 0, 64, 0, sha256 (List.replicate 64 0#8))], live := true, bytes := 64 : ShardRec }.bad = false
      ∧ { words := mfw, pieces := [(0, 0, 64, 0, sha256 (List.replicate 64 0#8))], live := true, bytes := 64 : ShardRec }.pieces = [(0, 0,
      64, 0, sha256 (List.replicate 64 0#8))] ∧ (recB.quad (0 / 64)).hbmBad = [mfAddr { words := mfw, pieces := [(0, 0, 64, 0, sha256 (List.replicate 64 0#8))], live := true, bytes := 64 : ShardRec }.words]
      ∧ mfStaged { words := mfw, pieces := [(0, 0, 64, 0, sha256 (List.replicate 64 0#8))], live := true, bytes := 64 : ShardRec }.words =
      false ∧ (recB.quad (0 / 64)).load = none) ∧
    ((crystalAndHbmUpkeep3.core 0).wbq = [0, 5] ∧ ((crystalAndHbmUpkeep3.core 0).unit 0).init = false ∧ ((crystalAndHbmUpkeep3.core 0).unit
      0).poison = false ∧ (crystalAndHbmUpkeep3.core 0).unitType 0 ≠ 1) ∧
    (recS.phys 0 = some 0 ∧ (recS.core 0).sram.wf = true ∧ (recS.quad (0 / 64)).recrys.contains 0 = true ∧ (recS.quad (0 / 64)).moved = []
      ∧ (recS.quad (0 / 64)).shards = [{ words := mfw, pieces := [(0, 0, 64, 0, sha256 (List.replicate 64 0#8))], live := true, bytes := 64 : ShardRec }]
      ∧ mfCrystal { words := mfw, pieces := [(0, 0, 64, 0, sha256 (List.replicate 64 0#8))], live := true, bytes := 64 : ShardRec }.words =
      true ∧ { words := mfw, pieces := [(0, 0, 64, 0, sha256 (List.replicate 64 0#8))], live := true, bytes := 64 : ShardRec }.bad = false
      ∧ { words := mfw, pieces := [(0, 0, 64, 0, sha256 (List.replicate 64 0#8))], live := true, bytes := 64 : ShardRec }.pieces = [(0, 0,
      64, 0, sha256 (List.replicate 64 0#8))] ∧ (recS.quad (0 / 64)).hbmBad = [] ∧ (recS.core 0).crystalAt 0 = some 0 ∧ ((recS.core 0).unit
      ((recS.core 0).regBase 0 / 64)).poison = true) ∧
    ((crystalAndHbmUpkeep5.core 0).wbq = [0, 5] ∧ ((crystalAndHbmUpkeep5.core 0).unit 0).init = false ∧ ((crystalAndHbmUpkeep5.core 0).unit
      0).poison = false ∧ (crystalAndHbmUpkeep5.core 0).unitType 0 = 1 ∧ rsDecode ((crystalAndHbmUpkeep5.core 0).unitBytes 0 ++
      ((crystalAndHbmUpkeep5.core 0).unit 0).check) = RsResult.clean) ∧
    ((crystalAndHbmUpkeep6.core 0).wbq = [0, 5] ∧ ((crystalAndHbmUpkeep6.core 0).unit 0).init = false ∧ ((crystalAndHbmUpkeep6.core 0).unit
      0).poison = false ∧ (crystalAndHbmUpkeep6.core 0).unitType 0 = 1 ∧ rsDecode ((crystalAndHbmUpkeep6.core 0).unitBytes 0 ++
      ((crystalAndHbmUpkeep6.core 0).unit 0).check) = RsResult.corrected (setNth ((crystalAndHbmUpkeep6.core 0).unitBytes 0 ++
      ((crystalAndHbmUpkeep6.core 0).unit 0).check) (66 - (0 + 1 + 1 + 1)) (nthD ((crystalAndHbmUpkeep6.core 0).unitBytes 0 ++
      ((crystalAndHbmUpkeep6.core 0).unit 0).check) (66 - (0 + 1 + 1 + 1)) 0#8 ^^^ BitVec.ofNat 8 (rsEval 1 ((crystalAndHbmUpkeep6.core
      0).unitBytes 0 ++ ((crystalAndHbmUpkeep6.core 0).unit 0).check))))) ∧
    (7 ∈ [7, 25769803775, 25769803776] ∧ 7 / 8 * 8 < 25769803776 ∧ 25769803775 ∈ [7, 25769803775, 25769803776] ∧ 25769803775 / 8 * 8 <
      25769803776) :=
  ⟨by decide +kernel,
    by decide +kernel,
    by decide +kernel,
    by decide +kernel,
    by decide +kernel,
    by decide +kernel,
    by decide +kernel⟩
/-- States and operands that meet the hypotheses of the clauses of CrystalCodeCorrects. -/
theorem witness_CrystalCodeCorrects :
    ((List.replicate 64 5#8).length = 64 ∧ 66 < 67 ∧ 5#8 ≠ nthD (List.replicate 64 5#8 ++ rsCheck (List.replicate 64 5#8)) 66 0#8) :=
  by decide +kernel
def loadsAndStorageReads1 : State := (loadS (ld [] (some 0) 1))
def loadsAndStorageReads4 : State := (loadS (ld [] none 16))
def loadsAndStorageReads5 : State := (regs hostS [(.ING_CTRL, 0, 2)])
def loadsAndStorageReads7 : State := (loadS (ld [] none 16))
/-- States and operands that meet the hypotheses of the clauses of LoadsAndStorageReads. -/
theorem witness_LoadsAndStorageReads :
    ((loadsAndStorageReads1.quad 0).load = some (ld [] (some 0) 1) ∧ mfStaged (ld [] (some 0) 1).words = false ∧ (ld [] (some 0) 1).ready =
      none ∧ mfStored (ld [] (some 0) 1).words ≤ (ld [] (some 0) 1).asked ∧ storageFrameOk (sfr false (StoragePdu.readResponse (List.take
      72 form))) = true ∧ (sfr false (StoragePdu.readResponse (List.take 72 form))).pdu = StoragePdu.readResponse (List.take 72 form) ∧ (ld
      [] (some 0) 1).port = 0 ∧ (ld [] (some 0) 1).outst = [(0, 73, 6)] ∧ 6 < 7 ∧ (ld [] (some 0) 1).marked = some 0 ∧ 0 + 100000 ≤ 100000
      ∧ (ld [] (some 0) 1).limit < 16) ∧
    ((placesOf (entryWords eload) ≤ (hostS.func 0).placesFree) ∧ hostS.ingestIdle 0 = true ∧ (((hostS.func 0).fetched.any fun e =>
      Option.any ingestOp e.words) = false) ∧ cmdOk (entryWords eload) [2 ^ 64 - 64] = true ∧ manifestOk (wordsOf (mfb (mf1 false))) = true
      ∧ hostS.mfPlaces 0 (wordsOf (mfb (mf1 false))) = some [] ∧ [].all (hostS.placeOk 0 (wordsOf (mfb (mf1 false)))) = true ∧ (mfCrystal
      (wordsOf (mfb (mf1 false))) = true → coverAll (mfUnits (wordsOf (mfb (mf1 false)))) 0 [] = true) ∧ hostS.homeOk 0 (wordsOf (mfb (mf1
      false))) [] = true ∧ mfHome (wordsOf (mfb (mf1 false))) < 2 ∧ mfStaged (wordsOf (mfb (mf1 false))) = false ∧ hostS.targetValid (wf
      (wordsOf (mfb (mf1 false))) 0 55 52) = true ∧ hostS.power.lost.contains 38 = false ∧ hostS.keeper.block = none) ∧
    ((placesOf (entryWords eload) ≤ (hostS.func 0).placesFree) ∧ hostS.ingestIdle 0 = true ∧ (((hostS.func 0).fetched.any fun e =>
      Option.any ingestOp e.words) = false) ∧ cmdOk (entryWords eload) [2 ^ 64 - 64] = true ∧ manifestOk (wordsOf (mfb (mf1 true))) = true
      ∧ hostS.mfPlaces 0 (wordsOf (mfb (mf1 true))) = some [] ∧ [].all (hostS.placeOk 0 (wordsOf (mfb (mf1 true)))) = true ∧ (mfCrystal
      (wordsOf (mfb (mf1 true))) = true → coverAll (mfUnits (wordsOf (mfb (mf1 true)))) 0 [] = true) ∧ hostS.homeOk 0 (wordsOf (mfb (mf1
      true))) [] = true ∧ mfHome (wordsOf (mfb (mf1 true))) < 2 ∧ mfStaged (wordsOf (mfb (mf1 true))) = true ∧ BitVec.toNat (wordAt
      (wordsOf (mfb (mf1 true))) 4) + mfStored (wordsOf (mfb (mf1 true))) ≤ (hostS.staging 0).snd) ∧
    ((loadsAndStorageReads4.quad 0).load = some (ld [] none 16) ∧ mfStaged (ld [] none 16).words = false ∧ (ld [] none 16).ready = none ∧
      mfStored (ld [] none 16).words ≤ (ld [] none 16).asked ∧ (ld [] none 16).outst = [(0, 73, 6)] ∧ 6 < 7 ∧ storageFrameOk (sfr true
      StoragePdu.nak) = true ∧ (sfr true StoragePdu.nak).pdu = StoragePdu.nak ∧ (ld [] none 16).port = 0) ∧
    ((placesOf (entryWords eload) ≤ (loadsAndStorageReads5.func 0).placesFree) ∧ (loadsAndStorageReads5.ingestIdle 0 = false ∨
      ((loadsAndStorageReads5.func 0).fetched.any fun e => Option.any ingestOp e.words) = true)) ∧
    ((placesOf (entryWords eload) ≤ (hostS.func 0).placesFree) ∧ hostS.ingestIdle 0 = true ∧ (((hostS.func 0).fetched.any fun e =>
      Option.any ingestOp e.words) = false) ∧ cmdOk (entryWords eload) [2 ^ 64 - 64] = true ∧ manifestOk (wordsOf []) = false ∧ hostS.bit
      Reg.HIF_CTRL 0 0 = true ∧ (hostS.quad 0).refetch = []) ∧
    ((loadsAndStorageReads7.quad 0).load = some (ld [] none 16) ∧ mfStaged (ld [] none 16).words = false ∧ (ld [] none 16).ready = none ∧
      mfStored (ld [] none 16).words ≤ (ld [] none 16).asked ∧ storageFrameOk (sfr true StoragePdu.other) = false) :=
  ⟨by decide +kernel,
    by decide +kernel,
    by decide +kernel,
    by decide +kernel,
    by decide +kernel,
    by decide +kernel,
    by decide +kernel⟩
def loadsFinishAndRecheck1 : State := (loadS (ldD (mf1 false) form8))
def loadsFinishAndRecheck2 : State := (loadS (ldD (mf1 false) badForm))
def loadsFinishAndRecheck3 : State := (loadS (ldD (mfD 7 formF) formF))
def loadsFinishAndRecheck4 : State := (regs (loadS (ldD (mf1 false) form)) [(.QD_VARIANT, 0, 8)])
def loadsFinishAndRecheck5 : State := (recheckS (rk [] (mf1 false)) (some 90) 1)
def loadsFinishAndRecheck6 : State := (recheckS (rk z32 (mf1 true)) (some 90) 3)
def loadsFinishAndRecheck7 : State := (recheckS (rk z32 (mf1 true)) none 3)
/-- States and operands that meet the hypotheses of the clauses of LoadsFinishAndRecheck. -/
theorem witness_LoadsFinishAndRecheck :
    ((loadsFinishAndRecheck1.quad 0).load = some (ldD (mf1 false) form8) ∧ (ldD (mf1 false) form8).ready = none ∧ (ldD (mf1 false)
      form8).refetch = false ∧ mfStaged (ldD (mf1 false) form8).words = false ∧ (ldD (mf1 false) form8).stored.length = mfStored (ldD (mf1
      false) form8).words ∧ (loadsFinishAndRecheck1.quad 0).hbmBad = [] ∧ (ldD (mf1 false) form8).slot = none ∧ loadsFinishAndRecheck1.bit
      Reg.HIF_CTRL 0 0 = true ∧ (loadsFinishAndRecheck1.quad 0).refetch = [] ∧ decodeStored (mfDecoded (ldD (mf1 false) form8).words) (ldD
      (mf1 false) form8).stored = Decoded.ok (List.replicate 32 8#8) ∧ convertAll (mfSrc (ldD (mf1 false) form8).words) (mfDst (ldD (mf1
      false) form8).words) (List.replicate 32 8#8) (mfElems (ldD (mf1 false) form8).words) = some (List.replicate 32 8, []) ∧ sha256 (ldD
      (mf1 false) form8).stored ≠ mfDigest (ldD (mf1 false) form8).words 8) ∧
    ((loadsFinishAndRecheck2.quad 0).load = some (ldD (mf1 false) badForm) ∧ (ldD (mf1 false) badForm).ready = none ∧ (ldD (mf1 false)
      badForm).refetch = false ∧ mfStaged (ldD (mf1 false) badForm).words = false ∧ (ldD (mf1 false) badForm).stored.length = mfStored (ldD
      (mf1 false) badForm).words ∧ (loadsFinishAndRecheck2.quad 0).hbmBad = [] ∧ (ldD (mf1 false) badForm).slot = none ∧
      loadsFinishAndRecheck2.bit Reg.HIF_CTRL 0 0 = true ∧ (loadsFinishAndRecheck2.quad 0).refetch = [] ∧ decodeStored (mfDecoded (ldD (mf1
      false) badForm).words) (ldD (mf1 false) badForm).stored = Decoded.bad 0) ∧
    ((loadsFinishAndRecheck3.quad 0).load = some (ldD (mfD (7#64) formF) formF) ∧ (ldD (mfD (7#64) formF) formF).ready = none ∧ (ldD (mfD
      (7#64) formF) formF).refetch = false ∧ mfStaged (ldD (mfD (7#64) formF) formF).words = false ∧ (ldD (mfD (7#64) formF)
      formF).stored.length = mfStored (ldD (mfD (7#64) formF) formF).words ∧ (loadsFinishAndRecheck3.quad 0).hbmBad = [] ∧ (ldD (mfD (7#64)
      formF) formF).slot = none ∧ loadsFinishAndRecheck3.bit Reg.HIF_CTRL 0 0 = true ∧ (loadsFinishAndRecheck3.quad 0).refetch = [] ∧
      decodeStored (mfDecoded (ldD (mfD (7#64) formF) formF).words) (ldD (mfD (7#64) formF) formF).stored = Decoded.ok (List.replicate 32
      255#8) ∧ convertAll (mfSrc (ldD (mfD (7#64) formF) formF).words) (mfDst (ldD (mfD (7#64) formF) formF).words) (List.replicate 32
      255#8) (mfElems (ldD (mfD (7#64) formF) formF).words) = none) ∧
    ((loadsFinishAndRecheck4.quad 0).load = some (ldD (mf1 false) form) ∧ (ldD (mf1 false) form).ready = none ∧ (ldD (mf1 false)
      form).refetch = false ∧ mfStaged (ldD (mf1 false) form).words = false ∧ (ldD (mf1 false) form).stored.length = mfStored (ldD (mf1
      false) form).words ∧ (loadsFinishAndRecheck4.quad 0).hbmBad = [] ∧ decodeStored (mfDecoded (ldD (mf1 false) form).words) (ldD (mf1
      false) form).stored = Decoded.ok (List.replicate 32 7#8) ∧ convertAll (mfSrc (ldD (mf1 false) form).words) (mfDst (ldD (mf1 false)
      form).words) (List.replicate 32 7#8) (mfElems (ldD (mf1 false) form).words) = some (List.replicate 32 7, []) ∧ sha256 (ldD (mf1
      false) form).stored = mfDigest (ldD (mf1 false) form).words 8 ∧ (((mfDigest (ldD (mf1 false) form).words 12).any fun x => decide (x ≠
      0#8)) = false) ∧ loadsFinishAndRecheck4.runs 0 = true) ∧
    ((loadsFinishAndRecheck5.bit Reg.ING_CTRL 0 1 = false ∨ ¬∀ (a : Nat), (loadsFinishAndRecheck5.quad 0).recheckAt = some a → a + max 1000
      (loadsFinishAndRecheck5.fld Reg.ING_RECHECK 0 31 0) * 1000000 ≤ 100) ∧ (loadsFinishAndRecheck5.quad 0).recheck = some 90 ∧
      (loadsFinishAndRecheck5.quad 0).recheckDue = false ∧ (loadsFinishAndRecheck5.quad 0).shards = [rk [] (mf1 false)] ∧ (rk [] (mf1
      false)).live = true ∧ (loadsFinishAndRecheck5.quad 0).hbmBad = [] ∧ mfCrystal (rk [] (mf1 false)).words = false ∧ (rk [] (mf1
      false)).pieces = [(0, 0, 32, 0, [])] ∧ ¬imageDigest (loadsFinishAndRecheck5.hbmRead 0) (mfAddr (rk [] (mf1 false)).words) 32 0 = [] ∧
      mfStaged (rk [] (mf1 false)).words = false ∧ (loadsFinishAndRecheck5.quad 0).load = none) ∧
    (loadsFinishAndRecheck6.bit Reg.ING_CTRL 0 1 = true ∧ (∀ (a : Nat), (loadsFinishAndRecheck6.quad 0).recheckAt = some a → a + max 1000
      (loadsFinishAndRecheck6.fld Reg.ING_RECHECK 0 31 0) * 1000000 ≤ 100) ∧ (loadsFinishAndRecheck6.quad 0).recheck = some 90 ∧
      (loadsFinishAndRecheck6.quad 0).recheckDue = false ∧ (loadsFinishAndRecheck6.quad 0).shards = [rk z32 (mf1 true)] ∧ (rk z32 (mf1
      true)).live = true ∧ (loadsFinishAndRecheck6.quad 0).hbmBad = [] ∧ mfCrystal (rk z32 (mf1 true)).words = false ∧ (rk z32 (mf1
      true)).pieces = [(0, 0, 32, 0, z32)] ∧ imageDigest (loadsFinishAndRecheck6.hbmRead 0) (mfAddr (rk z32 (mf1 true)).words) 32 0 = z32) ∧
    (loadsFinishAndRecheck7.bit Reg.ING_CTRL 0 1 = true ∧ (∀ (a : Nat), (loadsFinishAndRecheck7.quad 0).recheckAt = some a → a + max 1000
      (loadsFinishAndRecheck7.fld Reg.ING_RECHECK 0 31 0) * 1000000 ≤ 100) ∧ (loadsFinishAndRecheck7.quad 0).recheck = none) :=
  ⟨by decide +kernel,
    by decide +kernel,
    by decide +kernel,
    by decide +kernel,
    by decide +kernel,
    by decide +kernel,
    by decide +kernel⟩
def stagingUnloadRetire1 : State := (regs (unS true false) [(.ING_STAT, 0, 2)])
def stagingUnloadRetire2 : State := (regs (unS false false) [(.ING_CTRL, 0, 2)])
def stagingUnloadRetire3 : State := (unS false false)
def stagingUnloadRetire4 : State := (unS true true)
/-- States and operands that meet the hypotheses of the clauses of StagingUnloadRetire. -/
theorem witness_StagingUnloadRetire :
    (stagingUnloadRetire1.bit Reg.ING_STAT 0 1 = true ∧ 0 + 0 ≤ min (stagingUnloadRetire1.staging 0).snd (2 ^ 32) ∧
      (stagingUnloadRetire1.quad 0).hbmBad = [] ∧ stagingUnloadRetire1.ingestIdle 0 = true ∧ (((stagingUnloadRetire1.func 0).fetched.any
      fun e => Option.any ingestOp e.words) = false) ∧ (placesOf (entryWords { w0 := 146029215778#64, w1 := eun.w1, w2 := eun.w2, w3 := eun.w3, w4 := eun.w4, w5 := eun.w5, w6 := eun.w6, w7 := eun.w7 : Entry })
      ≤ (stagingUnloadRetire1.func 0).placesFree) ∧ cmdOk (entryWords { w0 := 146029215778#64, w1 := eun.w1, w2 := eun.w2, w3 := eun.w3, w4 := eun.w4, w5 := eun.w5, w6 := eun.w6, w7 := eun.w7 : Entry })
      [281474976710655] = true ∧ stagingUnloadRetire1.bit Reg.HIF_CTRL 0 0 = true ∧ (((stagingUnloadRetire1.quad 0).shards.any fun r =>
      decide (mfId r.words = wf (entryWords { w0 := 146029215778#64, w1 := eun.w1, w2 := eun.w2, w3 := eun.w3, w4 := eun.w4, w5 := eun.w5, w6 := eun.w6, w7 := eun.w7 : Entry })
      1 31 0) && decide (mfGen r.words = wf (entryWords { w0 := 146029215778#64, w1 := eun.w1, w2 := eun.w2, w3 := eun.w3, w4 := eun.w4, w5 := eun.w5, w6 := eun.w6, w7 := eun.w7 : Entry })
      1 47 32) && decide (mfHome r.words < 2)) = true) ∧ stagingUnloadRetire1.shardInUse 0 (wf (entryWords { w0 := 146029215778#64, w1 := eun.w1, w2 := eun.w2, w3 := eun.w3, w4 := eun.w4, w5 := eun.w5, w6 := eun.w6, w7 := eun.w7 : Entry })
      1 31 0) (wf (entryWords { w0 := 146029215778#64, w1 := eun.w1, w2 := eun.w2, w3 := eun.w3, w4 := eun.w4, w5 := eun.w5, w6 := eun.w6, w7 := eun.w7 : Entry })
      1 47 32) = true ∧ cmdOk (entryWords { w0 := 146029215778#64, w1 := eun.w1, w2 := eun.w2, w3 := eun.w3, w4 := eun.w4, w5 := eun.w5, w6 := eun.w6, w7 := eun.w7 : Entry })
      [562949953421311] = true ∧ (stagingUnloadRetire1.slotRange 0 (decide (wf (entryWords { w0 := 146029215778#64, w1 := eun.w1, w2 := eun.w2, w3 := eun.w3, w4 := eun.w4, w5 := eun.w5, w6 := eun.w6, w7 := eun.w7 : Entry })
      1 48 48 = 1))).snd ≠ 0 ∧ stagingUnloadRetire1.runs 0 = true ∧ (List.find? (fun k => decide (stagingUnloadRetire1.slotVersion (decide
      (wf (entryWords { w0 := 146029215778#64, w1 := eun.w1, w2 := eun.w2, w3 := eun.w3, w4 := eun.w4, w5 := eun.w5, w6 := eun.w6, w7 := eun.w7 : Entry })
      1 48 48 = 1)) k = wf (entryWords { w0 := 146029215778#64, w1 := eun.w1, w2 := eun.w2, w3 := eun.w3, w4 := eun.w4, w5 := eun.w5, w6 := eun.w6, w7 := eun.w7 : Entry })
      1 47 32) && decide (stagingUnloadRetire1.slotState (decide (wf (entryWords { w0 := 146029215778#64, w1 := eun.w1, w2 := eun.w2, w3 := eun.w3, w4 := eun.w4, w5 := eun.w5, w6 := eun.w6, w7 := eun.w7 : Entry })
      1 48 48 = 1)) k = 2)) (stagingUnloadRetire1.slotsOf 0 (decide (wf (entryWords { w0 := 146029215778#64, w1 := eun.w1, w2 := eun.w2, w3 := eun.w3, w4 := eun.w4, w5 := eun.w5, w6 := eun.w6, w7 := eun.w7 : Entry })
      1 48 48 = 1)) (wf (entryWords { w0 := 146029215778#64, w1 := eun.w1, w2 := eun.w2, w3 := eun.w3, w4 := eun.w4, w5 := eun.w5, w6 := eun.w6, w7 := eun.w7 : Entry })
      1 31 0)) = none)) ∧
    (stagingUnloadRetire2.bit Reg.ING_STAT 0 1 = false ∧ 0 + [9#8].length ≤ min (stagingUnloadRetire2.staging 0).snd (2 ^ 32) ∧
      stagingUnloadRetire2.ingestIdle 0 = false ∧ (placesOf (entryWords eun) ≤ (stagingUnloadRetire2.func 0).placesFree)) ∧
    (stagingUnloadRetire3.ingestIdle 0 = true ∧ (((stagingUnloadRetire3.func 0).fetched.any fun e => Option.any ingestOp e.words) = false)
      ∧ (placesOf (entryWords eun) ≤ (stagingUnloadRetire3.func 0).placesFree) ∧ cmdOk (entryWords eun) [281474976710655] = true ∧
      stagingUnloadRetire3.bit Reg.HIF_CTRL 0 0 = true ∧ (((stagingUnloadRetire3.quad 0).shards.any fun r => decide (mfId r.words = wf
      (entryWords eun) 1 31 0) && decide (mfGen r.words = wf (entryWords eun) 1 47 32) && decide (mfHome r.words < 2)) = true) ∧
      stagingUnloadRetire3.shardInUse 0 (wf (entryWords eun) 1 31 0) (wf (entryWords eun) 1 47 32) = false) ∧
    ((placesOf (entryWords { w0 := 146029215778#64, w1 := eun.w1, w2 := eun.w2, w3 := eun.w3, w4 := eun.w4, w5 := eun.w5, w6 := eun.w6, w7 := eun.w7 : Entry })
      ≤ (stagingUnloadRetire4.func 0).placesFree) ∧ cmdOk (entryWords { w0 := 146029215778#64, w1 := eun.w1, w2 := eun.w2, w3 := eun.w3, w4 := eun.w4, w5 := eun.w5, w6 := eun.w6, w7 := eun.w7 : Entry })
      [562949953421311] = true ∧ (stagingUnloadRetire4.slotRange 0 (decide (wf (entryWords { w0 := 146029215778#64, w1 := eun.w1, w2 := eun.w2, w3 := eun.w3, w4 := eun.w4, w5 := eun.w5, w6 := eun.w6, w7 := eun.w7 : Entry })
      1 48 48 = 1))).snd ≠ 0 ∧ stagingUnloadRetire4.bit Reg.HIF_CTRL 0 0 = true ∧ stagingUnloadRetire4.runs 0 = true ∧ (List.find? (fun k
      => decide (stagingUnloadRetire4.slotVersion (decide (wf (entryWords { w0 := 146029215778#64, w1 := eun.w1, w2 := eun.w2, w3 := eun.w3, w4 := eun.w4, w5 := eun.w5, w6 := eun.w6, w7 := eun.w7 : Entry })
      1 48 48 = 1)) k = wf (entryWords { w0 := 146029215778#64, w1 := eun.w1, w2 := eun.w2, w3 := eun.w3, w4 := eun.w4, w5 := eun.w5, w6 := eun.w6, w7 := eun.w7 : Entry })
      1 47 32) && decide (stagingUnloadRetire4.slotState (decide (wf (entryWords { w0 := 146029215778#64, w1 := eun.w1, w2 := eun.w2, w3 := eun.w3, w4 := eun.w4, w5 := eun.w5, w6 := eun.w6, w7 := eun.w7 : Entry })
      1 48 48 = 1)) k = 2)) (stagingUnloadRetire4.slotsOf 0 (decide (wf (entryWords { w0 := 146029215778#64, w1 := eun.w1, w2 := eun.w2, w3 := eun.w3, w4 := eun.w4, w5 := eun.w5, w6 := eun.w6, w7 := eun.w7 : Entry })
      1 48 48 = 1)) (wf (entryWords { w0 := 146029215778#64, w1 := eun.w1, w2 := eun.w2, w3 := eun.w3, w4 := eun.w4, w5 := eun.w5, w6 := eun.w6, w7 := eun.w7 : Entry })
      1 31 0)) = some (stagingUnloadRetire4.fld Reg.ING_SLOT_RANGE 0 11 0 + 1))) :=
  ⟨by decide +kernel,
    by decide +kernel,
    by decide +kernel,
    by decide +kernel⟩

end Sys2Proof.Tests.Storage

namespace Sys2Proof.Tests.Serving
open Sys2Proof Sys2Proof.Machine Sys2Proof.Tests

def host (l : List (Reg × Nat × U64)) : State := regs (oneCore (withRegs {} regions)) ((.HIF_CTRL, 0, 1) :: l)
def ringS : State := { host [(.BUD_RANGE, 0, 0x800A), (.QD_VARIANT, 0, 8)] with
  funcs := [(0, { rings := [(3, ⟨false, false, 0, 64, 0, 0, none, 0, 0, []⟩), (4, ⟨true, false, 0, 64, 0, 0, none, 0, 0, []⟩), (5, ⟨true, false, 0, 64, 0, 0, some 9, 0, 0, []⟩)] })],
  quads := [(0, { master := true, slots := [(9, { state := 1, tag := 0x22, restored := true })] })] }
def en (op : Nat) (w1 : U64) (w2 : U64 := 0) (w3 : U64 := 0) (w4 : U64 := 0): Entry := ⟨BitVec.ofNat 64 (op + 0x2200050000), w1, w2, w3, w4, 0, 0, 0⟩
def plan (sv : Serving) : Plan := { role := 0, serving := sv, variants := [{ epochLen := 8192, floor := 0 }] }
def admBlk : List Byte := List.replicate 36 0 ++ leBytes 4 5 ++ List.replicate 28 0 ++ leBytes 4 0x3F800000 ++ leBytes 4 0 ++ leBytes 4
  0x3F800000 ++ List.replicate 48 0
def seqS (x : SlotSt) (l : List (Reg × Nat × U64) := [(.QD_VARIANT, 0, 8), (.ADM_CTRL, 0, 1)]) : State := { host l with
  quads := [(0, { plan := some (plan {}), slots := [(9, x)], adm := [(0, { cid := 1, tag := 7, dclass := 0, account := 0, adapter := (0,0), pfx := (0,0), seed := 0, sampler := {}, left := 0, promptAt := 0, resume := none, inRing := none, outRing := none, partner := none, ttl := 0, arrival := 0, since := 0 })] })]
  }
def adm0 : AdmEntry := { cid := 1, tag := 7, dclass := 0, account := 0, adapter := (0,0), pfx := (0,0), seed := 0, sampler := {}, left := 0, promptAt := 0, resume := none, inRing := none, outRing := none, partner := none, ttl := 0, arrival := 0, since := 0 }
def dec : SlotSt := { state := 2, tag := 0x22, pos := 20, d0 := 10, step := 10, evict := 3, log := [(5, 3), (6, 4)], counts := [(5,1),(6,1)] }
def inSv : Serving := { inputKind := 2, inCodes := 2, cadenceIn := 1, buffers := [⟨0, 0x10000, 0x20000, 0, 0⟩] }
def r3 : Ring := ⟨false, false, 0, 64, 0, 0, some 9, 0, 5, [{ due := 3 }]⟩
def inS (x : SlotSt) : State := { host [] with
  quads := [(0, { plan := some (plan inSv), slots := [(9, x)] })], funcs := [(0, { rings := [(3, r3)] })] }
def fr (k : U64 := 0x20104): Entry := ⟨k, 1, 0,0,0,0,0,0⟩
def act : SlotSt := { state := 2, frame := 1, inRing := some 3, gate := [(1, [1,2,3,4,5,6,7,8])], promptLen := 70, chunkDue := [(1, 0)] }
def rf (k idx : U64) : RingFetch := { due := 0, words := some (entryWords ⟨k, idx, 0,0,0,0,0,0⟩), payload := [1,2,3,4,5,6,7,8] }
def rd : RingFetch := { due := 3 }
def admS (l : List (Nat × AdmEntry)) : State := { host [] with quads := [(0, { master := true, adm := l })] }
def snapS : State := { regs (host [(.QD_VARIANT, 0, 8), (.QD_LAUNCH_NEXT, 0, 10240), (.HIF_RING_SIZE, 0, 0x4000000040)]) [] with
  quads := [(0, { plan := some (plan {}), rule := {first := 0, at' := 2048} })] }
def poll0 (n c : Nat) : HostPoll := ⟨BitVec.ofNat 32 n, BitVec.ofNat 32 c, [], 0⟩
def sgw (kind row idx : Nat) : List U64 := [BitVec.ofNat 64 (kind + row * 4 + idx * 2^10 + 3 * 2^40), 0, 0x100]
def sigs : List (List U64) := [sgw 0 0 0, sgw 1 0 0, sgw 0 0 1, sgw 1 0 1]
def smS (g : Group) (dq : List Nat := []) (sv : Option (Nat × Option Nat) := none) : State := { powered (host []) with
  quads := [(0, { plan := some { plan {} with signals := sigs }, slots := [(9, {state := 2})], groups := [(0, g)], drawQ := dq, serving := sv })] }
def g0 : Group := ⟨9, false, 1, 5, [], [], []⟩
def sg (i : Nat) : SigEntry := sigEntryOf (sigs.getD i [])
def g1 : Group := ⟨9, false, 1, 5, [0], [0], []⟩
def g2 : Group := ⟨9, false, 1, 5, [0], [0], [(0,2)]⟩
def sA := smS g1 [1]
def rdA := (sA.core 0).hwRead sA.now (sg 1).logits ((sg 1).vlen * 4)

def ringAccountCommands4 : State := (regs ringS [(.HIF_CTRL, 0, 1)])
/-- States and operands that meet the hypotheses of the clauses of RingAccountCommands. -/
theorem witness_RingAccountCommands :
    (placesOf (entryWords (en 2 3#64 0#64 0#64 0#64)) = 1 ∧ (1 ≤ (ringS.func 0).placesFree) ∧ ringS.bit Reg.HIF_CTRL 0 0 = true ∧ cmdOk
      (entryWords (en 2 3#64 0#64 0#64 0#64)) [8589934591, 2 ^ 64 - 1, 2 ^ 64 - 1] = true ∧ BitVec.toNat (wordAt (entryWords (en 2 3#64
      0#64 0#64 0#64)) 2) % 4096 = 0 ∧ BitVec.toNat (wordAt (entryWords (en 2 3#64 0#64 0#64 0#64)) 3) % 4096 = 0 ∧ (wf (entryWords (en 2
      3#64 0#64 0#64 0#64)) 1 8 8 = 1 ∨ wordAt (entryWords (en 2 3#64 0#64 0#64 0#64)) 3 = 0#64) ∧ ringS.ring 0 (wf (entryWords (en 2 3#64
      0#64 0#64 0#64)) 1 7 0) = some { output := false, irq := false, vector := 0, size := 64, base := 0, payload := 0 : Ring } ∧ cmdOk
      (entryWords (en 2 3#64 0#64 0#64 0#64)) [255] = true ∧ { output := false, irq := false, vector := 0, size := 64, base := 0, payload := 0 : Ring }.bound
      = none ∧ cmdOk (entryWords (en 2 3#64 0#64 0#64 0#64)) [8191, 4294967295, 1099511627775, 4294967295] = true ∧ ringS.ownsAccount 0 (wf
      (entryWords (en 2 3#64 0#64 0#64 0#64)) 1 12 0) = false ∧ cmdOk (entryWords (en 2 3#64 0#64 0#64 0#64)) [8191, 1099511627775] = true
      ∧ (ringS.quad 0).master = true ∧ ringS.runs 0 = true ∧ wf (entryWords (en 2 3#64 0#64 0#64 0#64)) 1 7 0 ≤ 7) ∧
    (placesOf (entryWords (en 2 255#64 0#64 0#64 0#64)) = 1 ∧ (1 ≤ (ringS.func 0).placesFree) ∧ ringS.bit Reg.HIF_CTRL 0 0 = true ∧ cmdOk
      (entryWords (en 2 255#64 0#64 0#64 0#64)) [8589934591, 2 ^ 64 - 1, 2 ^ 64 - 1] = true ∧ BitVec.toNat (wordAt (entryWords (en 2 255#64
      0#64 0#64 0#64)) 2) % 4096 = 0 ∧ BitVec.toNat (wordAt (entryWords (en 2 255#64 0#64 0#64 0#64)) 3) % 4096 = 0 ∧ (wf (entryWords (en 2
      255#64 0#64 0#64 0#64)) 1 8 8 = 1 ∨ wordAt (entryWords (en 2 255#64 0#64 0#64 0#64)) 3 = 0#64) ∧ ringS.ring 0 (wf (entryWords (en 2
      255#64 0#64 0#64 0#64)) 1 7 0) = none ∧ ringSizeOk (wf (entryWords (en 2 255#64 0#64 0#64 0#64)) 1 32 16) = false ∧ cmdOk (entryWords
      (en 2 255#64 0#64 0#64 0#64)) [255] = true ∧ (ringS.quad 0).master = true ∧ ringS.runs 0 = true ∧ wf (entryWords (en 2 255#64 0#64
      0#64 0#64)) 1 7 0 = 255) ∧
    (placesOf (entryWords (en 24 13#64 100#64 1000#64 327685#64)) = 1 ∧ (1 ≤ (ringS.func 0).placesFree) ∧ ringS.bit Reg.HIF_CTRL 0 0 = true
      ∧ cmdOk (entryWords (en 24 13#64 100#64 1000#64 327685#64)) [8191, 4294967295, 1099511627775, 4294967295] = true ∧ ringS.ownsAccount
      0 (wf (entryWords (en 24 13#64 100#64 1000#64 327685#64)) 1 12 0) = true) ∧
    (placesOf (entryWords (en 1 4194562#64 4096#64 8192#64 0#64)) = 1 ∧ (1 ≤ (ringAccountCommands4.func 0).placesFree) ∧
      ringAccountCommands4.bit Reg.HIF_CTRL 0 0 = true ∧ cmdOk (entryWords (en 1 4194562#64 4096#64 8192#64 0#64)) [8589934591, 2 ^ 64 - 1,
      2 ^ 64 - 1] = true ∧ BitVec.toNat (wordAt (entryWords (en 1 4194562#64 4096#64 8192#64 0#64)) 2) % 4096 = 0 ∧ BitVec.toNat (wordAt
      (entryWords (en 1 4194562#64 4096#64 8192#64 0#64)) 3) % 4096 = 0 ∧ (wf (entryWords (en 1 4194562#64 4096#64 8192#64 0#64)) 1 8 8 = 1
      ∨ wordAt (entryWords (en 1 4194562#64 4096#64 8192#64 0#64)) 3 = 0#64) ∧ ringAccountCommands4.ring 0 (wf (entryWords (en 1 4194562#64
      4096#64 8192#64 0#64)) 1 7 0) = none ∧ ringSizeOk (wf (entryWords (en 1 4194562#64 4096#64 8192#64 0#64)) 1 32 16) = true) ∧
    (placesOf (entryWords (en 2 5#64 0#64 0#64 0#64)) = 1 ∧ (1 ≤ (ringS.func 0).placesFree) ∧ ringS.bit Reg.HIF_CTRL 0 0 = true ∧ cmdOk
      (entryWords (en 2 5#64 0#64 0#64 0#64)) [255] = true ∧ ringS.ring 0 (wf (entryWords (en 2 5#64 0#64 0#64 0#64)) 1 7 0) = some { output := true, irq := false, vector := 0, size := 64, base := 0, payload := 0, bound := some 9 : Ring }
      ∧ { output := true, irq := false, vector := 0, size := 64, base := 0, payload := 0, bound := some 9 : Ring }.bound = some 9) ∧
    (placesOf (entryWords (en 3 262921#64 0#64 0#64 0#64)) = 1 ∧ (1 ≤ (ringS.func 0).placesFree) ∧ ringS.bit Reg.HIF_CTRL 0 0 = true ∧
      cmdOk (entryWords (en 3 262921#64 0#64 0#64 0#64)) [16777087] = true ∧ ringS.tagged 0 (entryWords (en 3 262921#64 0#64 0#64 0#64)) =
      true ∧ ((ringS.quad 0).slot (wf (entryWords (en 3 262921#64 0#64 0#64 0#64)) 1 6 0)).restored = true ∧ ringS.ringFree 0 false (ringId
      (wf (entryWords (en 3 262921#64 0#64 0#64 0#64)) 1 15 8)) = true ∧ ringS.ringFree 0 true (ringId (wf (entryWords (en 3 262921#64 0#64
      0#64 0#64)) 1 23 16)) = true) ∧
    (placesOf (entryWords (en 25 10#64 1099511627775#64 0#64 0#64)) = 1 ∧ (1 ≤ (ringS.func 0).placesFree) ∧ ringS.bit Reg.HIF_CTRL 0 0 =
      true ∧ cmdOk (entryWords (en 25 10#64 1099511627775#64 0#64 0#64)) [8191, 1099511627775] = true ∧ ringS.ownsAccount 0 (wf (entryWords
      (en 25 10#64 1099511627775#64 0#64 0#64)) 1 12 0) = true) :=
  ⟨by decide +kernel,
    by decide +kernel,
    by decide +kernel,
    by decide +kernel,
    by decide +kernel,
    by decide +kernel,
    by decide +kernel⟩
def sequenceCommands1 : State := (seqS dec)
def sequenceCommands2 : State := (seqS { dec with inStep := true })
def sequenceCommands3 : State := (seqS dec)
def sequenceCommands4 : State := (seqS {})
def sequenceCommands5 : State := (seqS {} [])
def sequenceCommands6 : State := (seqS {})
def sequenceCommands7 : State := (seqS dec)
/-- States and operands that meet the hypotheses of the clauses of SequenceCommands. -/
theorem witness_SequenceCommands :
    (placesOf (entryWords (en 18 9#64 0#64 0#64 0#64)) = 1 ∧ (1 ≤ (sequenceCommands1.func 0).placesFree) ∧ sequenceCommands1.bit
      Reg.HIF_CTRL 0 0 = true ∧ (Instr.endSequence 0 (en 18 9#64 0#64 0#64 0#64), 2) ∈ [(Instr.endSequence 0 (en 18 9#64 0#64 0#64 0#64),
      2), (Instr.abort 0 (en 18 9#64 0#64 0#64 0#64), 3)] ∧ cmdOk (entryWords (en 18 9#64 0#64 0#64 0#64)) [127] = true ∧
      sequenceCommands1.tagged 0 (entryWords (en 18 9#64 0#64 0#64 0#64)) = true ∧ (((sequenceCommands1.quad 0).slot (wf (entryWords (en 18
      9#64 0#64 0#64 0#64)) 1 6 0)).state = 1 ∨ ((sequenceCommands1.quad 0).slot (wf (entryWords (en 18 9#64 0#64 0#64 0#64)) 1 6 0)).state
      = 2) ∧ ((sequenceCommands1.quad 0).slot (wf (entryWords (en 18 9#64 0#64 0#64 0#64)) 1 6 0)).inStep = false ∧
      ((sequenceCommands1.quad 0).slot (wf (entryWords (en 18 9#64 0#64 0#64 0#64)) 1 6 0)).ended = false ∧ ((sequenceCommands1.quad
      0).slot (wf (entryWords (en 18 9#64 0#64 0#64 0#64)) 1 6 0)).cut = none ∧ (Instr.abort 0 (en 18 9#64 0#64 0#64 0#64), 3) ∈
      [(Instr.endSequence 0 (en 18 9#64 0#64 0#64 0#64), 2), (Instr.abort 0 (en 18 9#64 0#64 0#64 0#64), 3)] ∧ cmdOk (entryWords (en 18
      9#64 0#64 0#64 0#64)) [127, 16777215] = true ∧ ((sequenceCommands1.quad 0).slot (wf (entryWords (en 18 9#64 0#64 0#64 0#64)) 1 6
      0)).state = 2 ∧ wf (entryWords (en 18 9#64 0#64 0#64 0#64)) 2 23 0 < ((sequenceCommands1.quad 0).slot (wf (entryWords (en 18 9#64
      0#64 0#64 0#64)) 1 6 0)).pos ∧ (wf (entryWords (en 18 9#64 0#64 0#64 0#64)) 2 23 0 < ((sequenceCommands1.quad 0).slot (wf (entryWords
      (en 18 9#64 0#64 0#64 0#64)) 1 6 0)).d0 ∨ (wf (entryWords (en 18 9#64 0#64 0#64 0#64)) 2 23 0 - ((sequenceCommands1.quad 0).slot (wf
      (entryWords (en 18 9#64 0#64 0#64 0#64)) 1 6 0)).d0) / (sequenceCommands1.quad 0).params.np < ((sequenceCommands1.quad 0).slot (wf
      (entryWords (en 18 9#64 0#64 0#64 0#64)) 1 6 0)).evict)) ∧
    (placesOf (entryWords (en 18 9#64 0#64 0#64 0#64)) = 1 ∧ (1 ≤ (sequenceCommands2.func 0).placesFree) ∧ sequenceCommands2.bit
      Reg.HIF_CTRL 0 0 = true ∧ (Instr.endSequence 0 (en 18 9#64 0#64 0#64 0#64), 2) ∈ [(Instr.endSequence 0 (en 18 9#64 0#64 0#64 0#64),
      2), (Instr.abort 0 (en 18 9#64 0#64 0#64 0#64), 3)] ∧ cmdOk (entryWords (en 18 9#64 0#64 0#64 0#64)) [127] = true ∧
      sequenceCommands2.tagged 0 (entryWords (en 18 9#64 0#64 0#64 0#64)) = true ∧ (((sequenceCommands2.quad 0).slot (wf (entryWords (en 18
      9#64 0#64 0#64 0#64)) 1 6 0)).state = 1 ∨ ((sequenceCommands2.quad 0).slot (wf (entryWords (en 18 9#64 0#64 0#64 0#64)) 1 6 0)).state
      = 2) ∧ ((sequenceCommands2.quad 0).slot (wf (entryWords (en 18 9#64 0#64 0#64 0#64)) 1 6 0)).inStep = true ∧ (Instr.abort 0 (en 18
      9#64 0#64 0#64 0#64), 3) ∈ [(Instr.endSequence 0 (en 18 9#64 0#64 0#64 0#64), 2), (Instr.abort 0 (en 18 9#64 0#64 0#64 0#64), 3)] ∧
      cmdOk (entryWords (en 18 9#64 0#64 0#64 0#64)) [127, 16777215] = true ∧ ((sequenceCommands2.quad 0).slot (wf (entryWords (en 18 9#64
      0#64 0#64 0#64)) 1 6 0)).state = 2 ∧ ((sequenceCommands2.quad 0).slot (wf (entryWords (en 18 9#64 0#64 0#64 0#64)) 1 6 0)).cut =
      none) ∧
    (placesOf (entryWords (en 20 9#64 13#64 0#64 0#64)) = 1 ∧ (1 ≤ (sequenceCommands3.func 0).placesFree) ∧ sequenceCommands3.bit
      Reg.HIF_CTRL 0 0 = true ∧ cmdOk (entryWords (en 20 9#64 13#64 0#64 0#64)) [127, 16777215] = true ∧ sequenceCommands3.tagged 0
      (entryWords (en 20 9#64 13#64 0#64 0#64)) = true ∧ ((sequenceCommands3.quad 0).slot (wf (entryWords (en 20 9#64 13#64 0#64 0#64)) 1 6
      0)).state = 2 ∧ ((sequenceCommands3.quad 0).slot (wf (entryWords (en 20 9#64 13#64 0#64 0#64)) 1 6 0)).inStep = false ∧ wf
      (entryWords (en 20 9#64 13#64 0#64 0#64)) 2 23 0 < ((sequenceCommands3.quad 0).slot (wf (entryWords (en 20 9#64 13#64 0#64 0#64)) 1 6
      0)).pos ∧ ((sequenceCommands3.quad 0).slot (wf (entryWords (en 20 9#64 13#64 0#64 0#64)) 1 6 0)).d0 ≤ wf (entryWords (en 20 9#64
      13#64 0#64 0#64)) 2 23 0 ∧ ((sequenceCommands3.quad 0).slot (wf (entryWords (en 20 9#64 13#64 0#64 0#64)) 1 6 0)).evict ≤ (wf
      (entryWords (en 20 9#64 13#64 0#64 0#64)) 2 23 0 - ((sequenceCommands3.quad 0).slot (wf (entryWords (en 20 9#64 13#64 0#64 0#64)) 1 6
      0)).d0) / (sequenceCommands3.quad 0).params.np) ∧
    (placesOf (entryWords (en 16 4096#64 0#64 0#64 0#64)) = 1 ∧ (1 ≤ (sequenceCommands4.func 0).placesFree) ∧ sequenceCommands4.bit
      Reg.HIF_CTRL 0 0 = true ∧ cmdOk (entryWords (en 16 4096#64 0#64 0#64 0#64)) [2 ^ 64 - 64] = true ∧ sequenceCommands4.runs 0 = true ∧
      sequenceCommands4.bit Reg.ADM_CTRL 0 0 = true ∧ blockClean admBlk = true ∧ (samplerOf admBlk).ok = true ∧ 1 < 1024 ∧
      (sequenceCommands4.quad 0).adm.find 1 = none ∧ (∀ (j : Nat), j < 1 → (sequenceCommands4.quad 0).adm.find j ≠ none)) ∧
    (placesOf (entryWords (en 16 4096#64 0#64 0#64 0#64)) = 1 ∧ (1 ≤ (sequenceCommands5.func 0).placesFree) ∧ sequenceCommands5.bit
      Reg.HIF_CTRL 0 0 = true ∧ cmdOk (entryWords (en 16 4096#64 0#64 0#64 0#64)) [2 ^ 64 - 64] = true ∧ (sequenceCommands5.runs 0 = false
      ∨ sequenceCommands5.bit Reg.ADM_CTRL 0 0 = false)) ∧
    (placesOf (entryWords (en 17 7#64 0#64 0#64 0#64)) = 1 ∧ (1 ≤ (sequenceCommands6.func 0).placesFree) ∧ sequenceCommands6.bit
      Reg.HIF_CTRL 0 0 = true ∧ cmdOk (entryWords (en 17 7#64 0#64 0#64 0#64)) [4294967295] = true ∧ (List.filter (fun a => decide
      (a.snd.tag = wf (entryWords (en 17 7#64 0#64 0#64 0#64)) 1 31 0)) (sequenceCommands6.quad 0).adm = [(0, adm0)])) ∧
    (placesOf (entryWords (en 20 9#64 20#64 0#64 0#64)) = 1 ∧ (1 ≤ (sequenceCommands7.func 0).placesFree) ∧ sequenceCommands7.bit
      Reg.HIF_CTRL 0 0 = true ∧ cmdOk (entryWords (en 20 9#64 20#64 0#64 0#64)) [127, 16777215] = true ∧ sequenceCommands7.tagged 0
      (entryWords (en 20 9#64 20#64 0#64 0#64)) = true ∧ ((sequenceCommands7.quad 0).slot (wf (entryWords (en 20 9#64 20#64 0#64 0#64)) 1 6
      0)).state = 2 ∧ ((sequenceCommands7.quad 0).slot (wf (entryWords (en 20 9#64 20#64 0#64 0#64)) 1 6 0)).inStep = false ∧
      ((sequenceCommands7.quad 0).slot (wf (entryWords (en 20 9#64 20#64 0#64 0#64)) 1 6 0)).pos ≤ wf (entryWords (en 20 9#64 20#64 0#64
      0#64)) 2 23 0) :=
  ⟨by decide +kernel,
    by decide +kernel,
    by decide +kernel,
    by decide +kernel,
    by decide +kernel,
    by decide +kernel,
    by decide +kernel⟩
def inputAndPrompts1 : State := (inS act)
def inputAndPrompts2 : State := (inS act)
def inputAndPrompts3 : State := (inS act)
/-- States and operands that meet the hypotheses of the clauses of InputAndPrompts. -/
theorem witness_InputAndPrompts :
    (inputAndPrompts1.ring 0 3 = some r3 ∧ (rf 131332#64 1#64).words = some (entryWords (fr 131332#64)) ∧ (rf 131332#64 1#64).late = false
      ∧ (rf 131332#64 1#64).written = false ∧ frameOk (inputAndPrompts1.quad 0).params (entryWords (fr 131332#64)) = true ∧ BitVec.toNat
      (wordAt (entryWords (fr 131332#64)) 1) = ((inputAndPrompts1.quad 0).slot 9).frame ∧ ((inputAndPrompts1.quad 0).slot 9).gate = [(1,
      [1#8, 2#8, 3#8, 4#8, 5#8, 6#8, 7#8, 8#8])] ∧ ((inputAndPrompts1.quad 0).slot 9).inRing = some 3 ∧ 1 < (((inputAndPrompts1.quad
      0).slot 9).step + 2) * (inputAndPrompts1.quad 0).params.cadenceIn ∧ inputAndPrompts1.keeper.block ≠ some (4, 0) ∧
      (inputAndPrompts1.quad 0).params.buffers = [{ core := 0, inBuf := 65536, prompt := 131072, outBuf := 0, batch := 0 : Buffers }] ∧ { core := 0, inBuf := 65536, prompt := 131072, outBuf := 0, batch := 0 : Buffers }.inBuf
      ≠ 0 ∧ inputAndPrompts1.phys { core := 0, inBuf := 65536, prompt := 131072, outBuf := 0, batch := 0 : Buffers }.core = some 0 ∧
      ((inputAndPrompts1.quad 0).slot 9).chunkDue.find 1 = some 0 ∧ ¬1 ∈ ((inputAndPrompts1.quad 0).slot 9).chunks ∧ { core := 0, inBuf := 65536, prompt := 131072, outBuf := 0, batch := 0 : Buffers }.prompt
      ≠ 0) ∧
    (inputAndPrompts2.ring 0 3 = some r3 ∧ r3.asked = [] ++ [rd] ∧ (∀ (d : RingFetch), d ∈ [] → d.words ≠ none) ∧ rd.words = none) ∧
    (inputAndPrompts3.ring 0 3 = some r3 ∧ (rf 131332#64 2#64).words = some (entryWords { w0 := 131332#64, w1 := 2#64, w2 := 0#64, w3 := 0#64, w4 := 0#64, w5 := 0#64, w6 := 0#64, w7 := 0#64 : Entry })
      ∧ (rf 131332#64 2#64).late = false ∧ (rf 131332#64 2#64).written = false ∧ inputAndPrompts3.bit Reg.HIF_CTRL 0 0 = true ∧ (0 <
      (inputAndPrompts3.func 0).placesFree) ∧ (frameOk (inputAndPrompts3.quad 0).params (entryWords { w0 := 131332#64, w1 := 2#64, w2 := 0#64, w3 := 0#64, w4 := 0#64, w5 := 0#64, w6 := 0#64, w7 := 0#64 : Entry })
      = false ∨ BitVec.toNat (wordAt (entryWords { w0 := 131332#64, w1 := 2#64, w2 := 0#64, w3 := 0#64, w4 := 0#64, w5 := 0#64, w6 := 0#64, w7 := 0#64 : Entry })
      1) ≠ ((inputAndPrompts3.quad 0).slot 9).frame)) :=
  ⟨by decide +kernel,
    by decide +kernel,
    by decide +kernel⟩
def admissionAndTokenCounts1 : State := (admS [(0, {adm0 with dclass := 2}), (5, adm0), (6, {adm0 with inOrder := false})])
def admissionAndTokenCounts3 : State := (admS [(6, {adm0 with inOrder := false})])
/-- States and operands that meet the hypotheses of the clauses of AdmissionAndTokenCounts. -/
theorem witness_AdmissionAndTokenCounts :
    (admNext (admissionAndTokenCounts1.quad 0).adm = some (5, adm0) ∧ (0, { cid := adm0.cid, tag := adm0.tag, dclass := 2, account := adm0.account, adapter := adm0.adapter, pfx := adm0.pfx, seed := adm0.seed, sampler := adm0.sampler, left := adm0.left, promptAt := adm0.promptAt, resume := adm0.resume, inRing := adm0.inRing, outRing := adm0.outRing, partner := adm0.partner, ttl := adm0.ttl, arrival := adm0.arrival, since := adm0.since, inOrder := adm0.inOrder : AdmEntry })
      ∈ (admissionAndTokenCounts1.quad 0).adm ∧ (5, adm0) ∈ (admissionAndTokenCounts1.quad 0).adm ∧ (6, { cid := adm0.cid, tag := adm0.tag, dclass := adm0.dclass, account := adm0.account, adapter := adm0.adapter, pfx := adm0.pfx, seed := adm0.seed, sampler := adm0.sampler, left := adm0.left, promptAt := adm0.promptAt, resume := adm0.resume, inRing := adm0.inRing, outRing := adm0.outRing, partner := adm0.partner, ttl := adm0.ttl, arrival := adm0.arrival, since := adm0.since, inOrder := false : AdmEntry })
      ∈ (admissionAndTokenCounts1.quad 0).adm ∧ bitsOf (7341056#64) 26 16 < bitsOf (7341056#64) 10 0 ∧ (admissionAndTokenCounts1.quad
      0).master = true ∧ [1#32, 2#32, 3#32, 4#32, 5#32, 6#32].length = 6) ∧
    ({ seed := 0#64, counts := [(3, 1)], log := [(3, 1)] : SlotSt }.counts.wf = true ∧ { seed := 0#64, counts := [(3, 1)], log := [(3, 1)] : SlotSt }.log.length
      ≤ 4096 ∧ ({ seed := 0#64, counts := [(3, 1)], log := [(3, 1)] : SlotSt }.counts.get 3 0 ≠ 0 ∨ List.length { seed := 0#64, counts := [(3, 1)], log := [(3, 1)] : SlotSt }.counts
      < 4096) ∧ 0 ≠ 3 ∧ 1 ≠ 3 ∧ 2 ≠ 3 ∧ 72 ≠ 3 ∧ { seed := 0#64, counts := [(3, 1)], log := [(3, 1)] : SlotSt }.log.length < 4096) ∧
    ((∀ (a : Nat × AdmEntry), a ∈ (admissionAndTokenCounts3.quad 0).adm → a.snd.inOrder = false) ∧ bitsOf (67109888#64) 10 0 ≤ bitsOf
      (67109888#64) 26 16) ∧
    ({ seed := 0#64, counts := [(3, 1)], log := (9, 1) :: List.replicate 4095 (3, 1) : SlotSt }.counts.wf = true ∧ { seed := 0#64, counts := [(3, 1)], log := (9, 1) :: List.replicate 4095 (3, 1) : SlotSt }.log.length
      ≤ 4096 ∧ ({ seed := 0#64, counts := [(3, 1)], log := (9, 1) :: List.replicate 4095 (3, 1) : SlotSt }.counts.get 3 0 ≠ 0 ∨ List.length
      { seed := 0#64, counts := [(3, 1)], log := (9, 1) :: List.replicate 4095 (3, 1) : SlotSt }.counts < 4096) ∧ { seed := 0#64, counts := [(3, 1)], log := (9, 1) :: List.replicate 4095 (3, 1) : SlotSt }.log
      = (9, 1) :: List.replicate 4095 (3, 1) ∧ { seed := 0#64, counts := [(3, 1)], log := (9, 1) :: List.replicate 4095 (3, 1) : SlotSt }.log.length
      = 4096) ∧
    (({ seed := 0#64, counts := List.map (fun i => (i, 1)) (List.range 4096), log := [(3, 1)] : SlotSt }.counts.wf = true) ∧ ({ seed := 0#64, counts := List.map (fun i => (i, 1)) (List.range 4096), log := [(3, 1)] : SlotSt }.log.length
      ≤ 4096) ∧ ({ seed := 0#64, counts := List.map (fun i => (i, 1)) (List.range 4096), log := [(3, 1)] : SlotSt }.counts.get 4096 0 = 0)
      ∧ (4096 ≤ List.length { seed := 0#64, counts := List.map (fun i => (i, 1)) (List.range 4096), log := [(3, 1)] : SlotSt }.counts)) :=
  ⟨by decide +kernel,
    by decide +kernel,
    by decide +kernel,
    by decide +kernel,
    by decide +kernel⟩
def snapshotsAndPolls1 : State := ({host [] with funcs := [(0, {fetched := [⟨0, 0, none, none, 0, false⟩]})]})
def snapshotsAndPolls3 : State := (regs snapS [(.QD_VARIANT, 0, 0)])
def snapshotsAndPolls4 : State := ({host [] with funcs := [(0, {reserved := 1791, fetched := [⟨0, 0, none, none, 0, false⟩]})]})
/-- States and operands that meet the hypotheses of the clauses of SnapshotsAndPolls. -/
theorem witness_SnapshotsAndPolls :
    (snapshotsAndPolls1.launches 0 = false ∧ 2049 % 2048 ≠ 0 ∧ snapshotsAndPolls1.live 0 = true ∧ ((snapshotsAndPolls1.func 0).fetched = [{ no := 0, due := 0 : Fetched }])
      ∧ { no := 0, due := 0 : Fetched }.words = none ∧ (placesOf (entryWords (en 32 0#64 0#64 0#64 0#64)) ≤ (snapshotsAndPolls1.func
      0).placesFree)) ∧
    (snapS.launches 0 = true ∧ (snapS.quad 0).unload = none ∧ (snapS.quad 0).notice = none ∧ (snapS.quad 0).variants[(snapS.quad
      0).rule.variant]? = some { epochLen := 8192, floor := 0 : Variant }) ∧
    (2048 % 2048 = 0 ∧ snapshotsAndPolls3.live 0 = true ∧ (0 = 4 → snapshotsAndPolls3.restarting = false) ∧ (0 < 4 →
      snapshotsAndPolls3.runs 0 = false ∧ (snapshotsAndPolls3.quad 0).asleep = false ∧ (snapshotsAndPolls3.quad 0).heldReset = false) ∧
      snapshotsAndPolls3.trace.dump = none ∧ ((snapshotsAndPolls3.func 0).fetched = []) ∧ (ahead (snapshotsAndPolls3.func 0).cqCount (poll0
      64 0).cqCons.toNat ≤ snapshotsAndPolls3.cqSize 0) ∧ (ahead (poll0 64 0).sqProd.toNat (snapshotsAndPolls3.func 0).sqCount ≤
      snapshotsAndPolls3.sqSize 0)) ∧
    (snapshotsAndPolls4.live 0 = true ∧ ((snapshotsAndPolls4.func 0).fetched = [{ no := 0, due := 0 : Fetched }]) ∧ { no := 0, due := 0 : Fetched }.words
      = none ∧ ((snapshotsAndPolls4.func 0).placesFree < placesOf (entryWords (en 32 0#64 0#64 0#64 0#64)))) :=
  ⟨by decide +kernel,
    by decide +kernel,
    by decide +kernel,
    by decide +kernel⟩
def samplerAndCommits1 : State := (smS g2)
def samplerAndCommits2 : State := (smS g1 [] (some (1, some 2)))
def samplerAndCommits3 : State := (smS g0)
def samplerAndCommits4 : State := (smS g1 [1])
def samplerAndCommits6 : State := (smS g0)
def samplerAndCommits7 : State := (smS g0)
/-- States and operands that meet the hypotheses of the clauses of SamplerAndCommits. -/
theorem witness_SamplerAndCommits :
    (0 / 64 = 0 ∧ (samplerAndCommits1.quad 0).signal 1 = some (sg 1) ∧ (samplerAndCommits1.quad 0).groups.find (sg 1).row = some g2 ∧ (sg
      1).kind = 1 ∧ (g2.drawCount (samplerAndCommits1.quad 0).params ≤ (sg 1).index ∨ (sg 1).index ∈ g2.draws) ∧ (samplerAndCommits1.quad
      0).groups.find 0 = some g2 ∧ g2.complete (samplerAndCommits1.quad 0).params = true ∧ (samplerAndCommits1.quad 0).groups.wf = true) ∧
    ((samplerAndCommits2.quad 0).serving = some (1, some 2) ∧ (samplerAndCommits2.quad 0).signal 1 = some (sg 1) ∧ (samplerAndCommits2.quad
      0).groups.find (sg 1).row = some g1 ∧ (sg 1).index ∈ g1.draws ∧ samplerAndCommits2.phys (sg 1).rcore = some 0 ∧
      samplerAndCommits2.vFenced (sg 1).lcore = false ∧ samplerAndCommits2.vFenced (sg 1).rcore = false ∧ ({ c := samplerAndCommits2.core 0, now := samplerAndCommits2.now : Run }.poke
      (sg 1).result (leBytes 4 2)).fault = none ∧ (samplerAndCommits2.quad 0).groups.find 0 = some g1 ∧ g1.complete
      (samplerAndCommits2.quad 0).params = false) ∧
    (0 / 64 = 0 ∧ (samplerAndCommits3.quad 0).signal 2 = some (sg 2) ∧ (samplerAndCommits3.quad 0).groups.find (sg 2).row = some g0 ∧ (sg
      2).kind = 0 ∧ (g0.writeCount (samplerAndCommits3.quad 0).params ≤ (sg 2).index ∨ (sg 2).index ∈ g0.writes)) ∧
    ((samplerAndCommits4.quad 0).serving = none ∧ (samplerAndCommits4.quad 0).drawQ = [1] ∧ (samplerAndCommits4.quad 0).signal 1 = some (sg
      1) ∧ (samplerAndCommits4.quad 0).groups.find (sg 1).row = some g1 ∧ (sg 1).index ∈ g1.draws ∧ samplerAndCommits4.vFenced (sg 1).lcore
      = false ∧ samplerAndCommits4.vFenced (sg 1).rcore = false ∧ samplerAndCommits4.phys (sg 1).lcore = some 0 ∧ (sg 1).bf16 = false ∧
      (samplerAndCommits4.quad 0).params.outKind ≠ 1 ∧ (samplerAndCommits4.core 0).hwRead samplerAndCommits4.now (sg 1).logits ((sg 1).vlen
      * 4) = ({ c := samplerAndCommits4.core 0, now := samplerAndCommits4.now : Run }.c, some (List.take ((sg 1).vlen * 4) (List.drop ((sg
      1).logits - (sg 1).logits / 64 * 64) (List.replicate 64 0#8 ++ []))))) ∧
    ((sA.quad 0).serving = none ∧ (sA.quad 0).drawQ = [1] ∧ (sA.quad 0).signal 1 = some (sg 1) ∧ (sA.quad 0).groups.find (sg 1).row = some
      g1 ∧ (sg 1).index ∈ g1.draws ∧ sA.vFenced (sg 1).lcore = false ∧ sA.vFenced (sg 1).rcore = false ∧ sA.phys (sg 1).lcore = some 0 ∧
      (sg 1).bf16 = false ∧ (sA.quad 0).params.outKind ≠ 1 ∧ (sA.core 0).hwRead sA.now (sg 1).logits ((sg 1).vlen * 4) = (rdA.fst, some
      (rdA.snd.getD []))) ∧
    (0 / 64 = 0 ∧ (samplerAndCommits6.quad 0).signal 1 = some (sg 1) ∧ (samplerAndCommits6.quad 0).groups.find (sg 1).row = some g0 ∧ (sg
      1).kind = 1 ∧ (sg 1).index < g0.drawCount (samplerAndCommits6.quad 0).params ∧ (¬(sg 1).index ∈ g0.draws)) ∧
    (0 / 64 = 0 ∧ (samplerAndCommits7.quad 0).signal 0 = some (sg 0) ∧ (samplerAndCommits7.quad 0).groups.find (sg 0).row = some g0 ∧ (sg
      0).kind = 0 ∧ (sg 0).index < g0.writeCount (samplerAndCommits7.quad 0).params ∧ (¬(sg 0).index ∈ g0.writes)) :=
  ⟨by decide +kernel,
    by decide +kernel,
    by decide +kernel,
    by decide +kernel,
    by decide +kernel,
    by decide +kernel,
    by decide +kernel⟩

end Sys2Proof.Tests.Serving

namespace Sys2Proof.Tests.Links
open Sys2Proof Sys2Proof.Machine Sys2Proof.Tests

def host (l : List (Reg × Nat × U64)) : State := regs (oneCore (withRegs {} regions)) ((.HIF_CTRL, 0, 1) :: l)
/-- slot entry kind + in*4 + tag*64 of router 1 output o slot n -/
def slotW (p o n e : Nat) : Reg × Nat × U64 := (.MSH_SLOT, (p * 5 + o) * 256 + n / 4, BitVec.ofNat 64 (e * 2 ^ (16 * (n % 4))))
def meshS (l : List (Reg × Nat × U64)) : State := powered (host l)
def fl1 : Flit := mkFlit 5 1 true true false (List.replicate 128 3)
def fl2 : Flit := mkFlit 5 2 true true false (List.replicate 128 3)
def fl3 : Flit := mkFlit 5 3 true true false (List.replicate 128 3)
def flB : Flit := { fl1 with sb := fl1.sb ^^^ 1 }
def mm : MeshFlit := ⟨fl2, 1, 0, .other⟩
def fl0 : Flit := mkFlit 5 2 true true false (List.replicate 128 0)
def turnS : State := { meshS [slotW 1 1 0 2] with mesh := [((1*5+0)*3, [mm])] }
def mroom : State := { meshS [slotW 1 1 0 2] with mesh := [((1*5+0)*3, [mm]), ((2*5+3)*3, List.replicate 8 mm)] }
def ms3 : MeshFlit := ⟨fl3, 1, 0, .signal⟩
def turn3 : State := { meshS [slotW 1 1 0 3] with mesh := [((1*5+0)*3+2, [mm, ms3])] }
def sendE (l : List Flit) : QEntry := { desc := ⟨0x500c0, 0, 0, 0, 0, 0, 0, 0⟩, st := .executing, flits := l }
def injS (l : List Flit) : State := powered (regs (oneCore { queues := [(3, { ents := [sendE l] })] }) [slotW 0 1 0 (1 + 4*4 + 5*64)])
def injT : State := ((injS [fl1]).coreInjects 0 5).elim {} (·.2)
def pkt (hops : Nat) : Packet := ⟨BitVec.ofNat 64 (9 * 65536), BitVec.ofNat 64 (7 + 3 * 65536 + hops * 2^48), 0x10000, 0, List.replicate 64 5⟩
def pe (hops : Nat) : MeshFlit := ⟨mkFlit 0 2 true true false (packetBytes (pkt hops)), 1, 0, .other⟩
def peS (l : List (Reg × Nat × U64)) (hops : Nat) : State := { meshS (slotW 17 1 0 2 :: l) with mesh := [((17*5+0)*3, [pe hops])] }
def portS (l : List (Reg × Nat × U64)) (p : PortSt) : State := { host l with ports := [(0, p)] }
def tu : TxUnit := { seq := 7, cls := 1, mask := 0, payload := List.replicate 128 3, slot := some 3, sentAt := 0, replays := 6 }
def owner (k : Nat) : List (Reg × Nat × U64) := [(.LNK_STATE, 0, 5), (.LNK_TX_SLOT, 0, BitVec.ofNat 64 (k + 7 * 65536)), (.LNK_RX_SLOT, 0,
  BitVec.ofNat 64 (k + 7 * 65536))]
def rxU (seq cls k : Nat) : List (Byte × Bool) := (unitBytes seq cls 0 0 k (List.replicate 128 3) false).map (fun b => (b, false))
def badU : List (Byte × Bool) := List.replicate 136 (1, true)
def full : List Byte := List.replicate 5100 0
def st (n : Nat) : List (Reg × Nat × U64) := [(.LNK_STATE, 0, BitVec.ofNat 64 n), (.LNK_CTRL, 0, 0x10)]

def meshForwarding1 : State := (meshS [(.MSH_CTRL, 0, 2), (.MSH_SWAP_AT, 0, 500)])
def meshForwarding3 : State := (meshS [])
def meshForwarding4 : State := (injS [fl1])
def meshForwarding5 : State := (meshS [slotW 1 4 3 (1 + 2*4 + 5*64), (.MSH_ROUTER_STAT, 1, 0x1000000000000)])
def meshForwarding6 : State := (meshS [])
def meshForwarding8 : State := (peS [] 4)
def meshForwarding9 : State := (peS [(.LNK_PKEY, 1, 0x10007)] 0)
def meshForwarding10 : State := (peS [(.LNK_PKEY, 1, 0x10007)] 4)
def meshForwarding11 : State := (meshS [slotW 1 1 3 (1 + 2*4 + 5*64)])
def meshForwarding13 : State := (meshS [slotW 1 1 0 3])
def meshForwarding14 : State := (injS [])
/-- States and operands that meet the hypotheses of the clauses of MeshForwarding. -/
theorem witness_MeshForwarding :
    (flitParityOk flB = false ∧ (meshForwarding1.quad (1 / 72)).groups.wf = true ∧ meshForwarding1.bit Reg.MSH_CTRL 0 1 = true ∧ frameFrom
      (BitVec.toNat (meshForwarding1.reg Reg.MSH_SWAP_AT 0)) ≤ 683) ∧
    (flitParityOk fl3 = true ∧ (bridgeInput 1 2 = true → turnS.bridgeOpen 1 = true) ∧ flitClass fl3 = 3 ∧ turnS.mesh.wf = true ∧ entKind
      (turnS.liveEntry (turnS.meshBank (1 / 72)) 1 (↑(Fin.ofNat 5 1)) (0 % 1024)) = 2 ∧ turnS.buf 1 (turnS.kindBefore (turnS.meshBank (1 /
      72)) 1 (↑(Fin.ofNat 5 1)) 2 (0 % 1024) % 5) (turnS.kindBefore (turnS.meshBank (1 / 72)) 1 (↑(Fin.ofNat 5 1)) 2 (0 % 1024) / 5 % 2) =
      [mm] ∧ mm.exit = ↑(Fin.ofNat 5 1) ∧ mm.ready ≤ 0 ∧ turnS.roomBeyond 1 (↑(Fin.ofNat 5 1)) (turnS.kindBefore (turnS.meshBank (1 / 72))
      1 (↑(Fin.ofNat 5 1)) 2 (0 % 1024) / 5 % 2) = true ∧ turnS.channelFree 1 (↑(Fin.ofNat 5 1)) (turnS.kindBefore (turnS.meshBank (1 /
      72)) 1 (↑(Fin.ofNat 5 1)) 2 (0 % 1024) / 5 % 2) (turnS.kindBefore (turnS.meshBank (1 / 72)) 1 (↑(Fin.ofNat 5 1)) 2 (0 % 1024) % 5) =
      true ∧ (Fin.ofNat 5 1 = 4 ∧ turnS.fenced 1 = false ∨ Fin.ofNat 5 1 ≠ 4 ∧ nextRouter 1 ↑(Fin.ofNat 5 1) ≠ none) ∧ (turnS.bit
      Reg.MSH_CTRL 0 1 = false ∨ 683 < frameFrom (BitVec.toNat (turnS.reg Reg.MSH_SWAP_AT 0)))) ∧
    (flitParityOk fl1 = true ∧ bridgeInput 0 3 = true ∧ meshForwarding3.bridgeOpen 0 = false) ∧
    (flitParityOk fl1 = true ∧ (bridgeInput 0 2 = true → meshForwarding4.bridgeOpen 0 = true) ∧ flitClass fl1 = 1 ∧
      meshForwarding4.tapTakes (meshForwarding4.meshBank (0 / 72)) 0 ((0 + hopCycles 0 2) % 1024) (flitTag fl1) = false ∧
      meshForwarding4.plannedOuts (meshForwarding4.meshBank (0 / 72)) 0 ((0 + hopCycles 0 2) % 1024) 2 (flitTag fl1) = [] ∧ entKind
      (meshForwarding4.liveEntry (meshForwarding4.meshBank (0 / 72)) 0 1 (0 % 1024)) = 1 ∧ entIn (meshForwarding4.liveEntry
      (meshForwarding4.meshBank (0 / 72)) 0 1 (0 % 1024)) = 4 ∧ (meshForwarding4.plannedOuts (meshForwarding4.meshBank (0 / 72)) 0 (0 %
      1024) 4 (entTag (meshForwarding4.liveEntry (meshForwarding4.meshBank (0 / 72)) 0 1 (0 % 1024)))).head? = some 1 ∧
      meshForwarding4.coreInjects 0 (entTag (meshForwarding4.liveEntry (meshForwarding4.meshBank (0 / 72)) 0 1 (0 % 1024))) = some (fl1,
      injT)) ∧
    (flitParityOk fl1 = true ∧ (bridgeInput 1 2 = true → meshForwarding5.bridgeOpen 1 = true) ∧ flitClass fl1 = 1 ∧
      meshForwarding5.tapTakes (meshForwarding5.meshBank (1 / 72)) 1 ((0 + hopCycles 1 2) % 1024) (flitTag fl1) = false ∧
      meshForwarding5.plannedOuts (meshForwarding5.meshBank (1 / 72)) 1 ((0 + hopCycles 1 2) % 1024) 2 (flitTag fl1) = [4] ∧
      meshForwarding5.fenced 1 = true) ∧
    (flitParityOk fl0 = true ∧ (bridgeInput 1 2 = true → meshForwarding6.bridgeOpen 1 = true) ∧ flitClass fl0 = 2 ∧
      meshForwarding6.elasticExit 1 2 (meshForwarding6.elasticChannel 1 2 (0 % 1024) fl0 false) fl0 ≠ 5) ∧
    (turn3.mesh.wf = true ∧ entKind (turn3.liveEntry (turn3.meshBank (1 / 72)) 1 (↑(Fin.ofNat 5 1)) (0 % 1024)) = 3 ∧ (firstServed
      (List.filter (fun m => decide (m.exit = ↑(Fin.ofNat 5 1) ∧ m.ready ≤ 0)) (turn3.buf 1 (turn3.kindBefore (turn3.meshBank (1 / 72)) 1
      (↑(Fin.ofNat 5 1)) 3 (0 % 1024) % 5) 2)) = some ms3) ∧ (Fin.ofNat 5 1 = 4 ∧ turn3.fenced 1 = false ∨ Fin.ofNat 5 1 ≠ 4 ∧ nextRouter 1
      ↑(Fin.ofNat 5 1) ≠ none)) ∧
    (meshForwarding8.mesh.wf = true ∧ entKind (meshForwarding8.liveEntry (meshForwarding8.meshBank (17 / 72)) 17 1 (0 % 1024)) = 2 ∧
      meshForwarding8.buf 17 (meshForwarding8.kindBefore (meshForwarding8.meshBank (17 / 72)) 17 1 2 (0 % 1024) % 5)
      (meshForwarding8.kindBefore (meshForwarding8.meshBank (17 / 72)) 17 1 2 (0 % 1024) / 5 % 2) = [pe 4] ∧ (pe 4).exit = 1 ∧ (pe 4).ready
      ≤ 0 ∧ meshForwarding8.roomBeyond 17 1 (meshForwarding8.kindBefore (meshForwarding8.meshBank (17 / 72)) 17 1 2 (0 % 1024) / 5 % 2) =
      true ∧ meshForwarding8.channelFree 17 1 (meshForwarding8.kindBefore (meshForwarding8.meshBank (17 / 72)) 17 1 2 (0 % 1024) / 5 % 2)
      (meshForwarding8.kindBefore (meshForwarding8.meshBank (17 / 72)) 17 1 2 (0 % 1024) % 5) = true ∧ nextRouter 17 1 = none ∧ edgeOf 17 1
      = some (Attach.port 0) ∧ flitParityOk (pe 4).flit = true ∧ flitClass (pe 4).flit = 2 ∧ flitFirst (pe 4).flit = true ∧ pkHops
      (packetOf (pe 4).flit.data) ≠ 0 ∧ meshForwarding8.keyIn 0 (pkKey (packetOf (pe 4).flit.data)) = false) ∧
    (meshForwarding9.mesh.wf = true ∧ entKind (meshForwarding9.liveEntry (meshForwarding9.meshBank (17 / 72)) 17 1 (0 % 1024)) = 2 ∧
      meshForwarding9.buf 17 (meshForwarding9.kindBefore (meshForwarding9.meshBank (17 / 72)) 17 1 2 (0 % 1024) % 5)
      (meshForwarding9.kindBefore (meshForwarding9.meshBank (17 / 72)) 17 1 2 (0 % 1024) / 5 % 2) = [pe 0] ∧ (pe 0).exit = 1 ∧ (pe 0).ready
      ≤ 0 ∧ meshForwarding9.roomBeyond 17 1 (meshForwarding9.kindBefore (meshForwarding9.meshBank (17 / 72)) 17 1 2 (0 % 1024) / 5 % 2) =
      true ∧ meshForwarding9.channelFree 17 1 (meshForwarding9.kindBefore (meshForwarding9.meshBank (17 / 72)) 17 1 2 (0 % 1024) / 5 % 2)
      (meshForwarding9.kindBefore (meshForwarding9.meshBank (17 / 72)) 17 1 2 (0 % 1024) % 5) = true ∧ nextRouter 17 1 = none ∧ edgeOf 17 1
      = some (Attach.port 0) ∧ flitParityOk (pe 0).flit = true ∧ flitClass (pe 0).flit = 2 ∧ flitFirst (pe 0).flit = true ∧ pkHops
      (packetOf (pe 0).flit.data) = 0) ∧
    (meshForwarding10.mesh.wf = true ∧ entKind (meshForwarding10.liveEntry (meshForwarding10.meshBank (17 / 72)) 17 1 (0 % 1024)) = 2 ∧
      meshForwarding10.buf 17 (meshForwarding10.kindBefore (meshForwarding10.meshBank (17 / 72)) 17 1 2 (0 % 1024) % 5)
      (meshForwarding10.kindBefore (meshForwarding10.meshBank (17 / 72)) 17 1 2 (0 % 1024) / 5 % 2) = [pe 4] ∧ (pe 4).exit = 1 ∧ (pe
      4).ready ≤ 0 ∧ meshForwarding10.roomBeyond 17 1 (meshForwarding10.kindBefore (meshForwarding10.meshBank (17 / 72)) 17 1 2 (0 % 1024)
      / 5 % 2) = true ∧ meshForwarding10.channelFree 17 1 (meshForwarding10.kindBefore (meshForwarding10.meshBank (17 / 72)) 17 1 2 (0 %
      1024) / 5 % 2) (meshForwarding10.kindBefore (meshForwarding10.meshBank (17 / 72)) 17 1 2 (0 % 1024) % 5) = true ∧ nextRouter 17 1 =
      none ∧ edgeOf 17 1 = some (Attach.port 0) ∧ flitParityOk (pe 4).flit = true ∧ flitClass (pe 4).flit = 2 ∧ flitFirst (pe 4).flit =
      true ∧ pkHops (packetOf (pe 4).flit.data) ≠ 0 ∧ meshForwarding10.keyIn 0 (pkKey (packetOf (pe 4).flit.data)) = true) ∧
    (flitParityOk fl1 = true ∧ (bridgeInput 1 2 = true → meshForwarding11.bridgeOpen 1 = true) ∧ flitClass fl1 = 1 ∧
      meshForwarding11.tapTakes (meshForwarding11.meshBank (1 / 72)) 1 ((0 + hopCycles 1 2) % 1024) (flitTag fl1) = false ∧
      meshForwarding11.plannedOuts (meshForwarding11.meshBank (1 / 72)) 1 ((0 + hopCycles 1 2) % 1024) 2 (flitTag fl1) = [↑(Fin.ofNat 5 1)]
      ∧ (Fin.ofNat 5 1 = 4 ∧ meshForwarding11.fenced 1 = false ∨ Fin.ofNat 5 1 ≠ 4 ∧ nextRouter 1 ↑(Fin.ofNat 5 1) ≠ none)) ∧
    (mroom.mesh.wf = true ∧ entKind (mroom.liveEntry (mroom.meshBank (1 / 72)) 1 (↑(Fin.ofNat 5 1)) (0 % 1024)) = 2 ∧ mroom.buf 1
      (mroom.kindBefore (mroom.meshBank (1 / 72)) 1 (↑(Fin.ofNat 5 1)) 2 (0 % 1024) % 5) (mroom.kindBefore (mroom.meshBank (1 / 72)) 1
      (↑(Fin.ofNat 5 1)) 2 (0 % 1024) / 5 % 2) = [mm] ∧ (mm.exit ≠ ↑(Fin.ofNat 5 1) ∨ mroom.roomBeyond 1 (↑(Fin.ofNat 5 1))
      (mroom.kindBefore (mroom.meshBank (1 / 72)) 1 (↑(Fin.ofNat 5 1)) 2 (0 % 1024) / 5 % 2) = false)) ∧
    (meshForwarding13.mesh.wf = true ∧ entKind (meshForwarding13.liveEntry (meshForwarding13.meshBank (1 / 72)) 1 (↑(Fin.ofNat 5 1)) (0 %
      1024)) = 3 ∧ (List.filter (fun m => decide (m.exit = ↑(Fin.ofNat 5 1) ∧ m.ready ≤ 0)) (meshForwarding13.buf 1
      (meshForwarding13.kindBefore (meshForwarding13.meshBank (1 / 72)) 1 (↑(Fin.ofNat 5 1)) 3 (0 % 1024) % 5) 2) = [])) ∧
    (entKind (meshForwarding14.liveEntry (meshForwarding14.meshBank (0 / 72)) 0 1 (0 % 1024)) = 1 ∧ entIn (meshForwarding14.liveEntry
      (meshForwarding14.meshBank (0 / 72)) 0 1 (0 % 1024)) = 4 ∧ (meshForwarding14.plannedOuts (meshForwarding14.meshBank (0 / 72)) 0 (0 %
      1024) 4 (entTag (meshForwarding14.liveEntry (meshForwarding14.meshBank (0 / 72)) 0 1 (0 % 1024)))).head? = some 1 ∧
      meshForwarding14.coreInjects 0 (entTag (meshForwarding14.liveEntry (meshForwarding14.meshBank (0 / 72)) 0 1 (0 % 1024))) = none) :=
  ⟨by decide +kernel,
    by decide +kernel,
    by decide +kernel,
    by decide +kernel,
    by decide +kernel,
    by decide +kernel,
    by decide +kernel,
    by decide +kernel,
    by decide +kernel,
    by decide +kernel,
    by decide +kernel,
    by decide +kernel,
    by decide +kernel,
    by decide +kernel⟩
/-- States and operands that meet the hypotheses of the clauses of UnitRoundTrip. -/
theorem witness_UnitRoundTrip :
    (65535 < 65536 ∧ 3 < 4 ∧ 4095 < 4096 ∧ 2 < 3 ∧ (List.replicate 128 7#8).length = 128) :=
  by decide +kernel
def linkUnits1 : State := (portS (owner 0) { point := 1, lastAckAt := 300, rxStream := badU })
def linkUnits2 : State := (portS (owner 1) { planned := [(7, fl1)], stream := full })
def linkUnits3 : State := (portS (owner 1) { point := 65535, expected := 65535, lastAck := 65535, rxStream := rxU 65535 1 2 ++ [(9, false)] })
def linkUnits4 : State := (portS (owner 3) { replayQ := [(7, 9, true)], buffer := [tu], stream := full })
def linkUnits5 : State := (portS (owner 1) { stream := List.replicate 5100 0 })
def linkUnits6 : State := (portS (owner 0) { stream := full })
def linkUnits7 : State := (portS (owner 3) { buffer := [tu] })
def linkUnits8 : State := (portS (owner 1) { planned := [(7, fl1)] })
def linkUnits9 : State := (portS [(.LNK_STATE, 0, 3)] {})
def linkUnits10 : State := (portS (owner 3) { replayQ := [(7, 9, true)], buffer := [tu] })
/-- States and operands that meet the hypotheses of the clauses of LinkUnits. -/
theorem witness_LinkUnits :
    (linkUnits1.linkState 0 = 5 ∧ (linkUnits1.port 0).nakQ = [] ∧ (linkUnits1.port 0).ackQ = [] ∧ slotStream (linkUnits1.txEntry 0)
      ((linkUnits1.port 0).txSlot % 4096) = Stream.nobody ∧ (linkUnits1.port 0).stream.length + 136 < 640 * linkUnits1.lanes 0 ∧
      (linkUnits1.port 0).headGroup (linkUnits1.lanes 0) = none ∧ (linkUnits1.port 0).rxStream = badU ++ [] ∧ badU.length = 136 ∧
      ((badU.any fun x => x.snd) = true) ∧ (linkUnits1.port 0).rxSwap = false ∧ (linkUnits1.port 0).lastAckAt + 400 ≤ 700 ∧
      (linkUnits1.port 0).point ≠ (linkUnits1.port 0).lastAck) ∧
    (linkUnits2.linkState 0 = 5 ∧ (linkUnits2.port 0).nakQ = [] ∧ (linkUnits2.port 0).ackQ = [] ∧ slotStream (linkUnits2.txEntry 0)
      ((linkUnits2.port 0).txSlot % 4096) = Stream.planned 7 ∧ (linkUnits2.port 0).planned = [(7, fl1)] ∧ (linkUnits2.port 0).buffer.length
      < 8192 ∧ (linkUnits2.port 0).corrupt = 0 ∧ 640 * linkUnits2.lanes 0 ≤ (linkUnits2.port 0).stream.length + 136 ∧ (linkUnits2.port
      0).headGroup (linkUnits2.lanes 0) = none ∧ (linkUnits2.port 0).rxStream.length < 136 ∧ ((linkUnits2.port 0).lastAckAt + 400 > 700 ∨
      (linkUnits2.port 0).point = (linkUnits2.port 0).lastAck)) ∧
    (linkUnits3.linkState 0 = 5 ∧ (linkUnits3.port 0).nakQ = [] ∧ (linkUnits3.port 0).ackQ = [] ∧ slotStream (linkUnits3.txEntry 0)
      ((linkUnits3.port 0).txSlot % 4096) = Stream.planned 7 ∧ (linkUnits3.port 0).planned = [] ∧ (linkUnits3.port 0).stream.length + 136 <
      640 * linkUnits3.lanes 0 ∧ (linkUnits3.port 0).headGroup (linkUnits3.lanes 0) = none ∧ (linkUnits3.port 0).rxSwap = false ∧
      (linkUnits3.port 0).bad = [] ∧ (linkUnits3.port 0).held = [] ∧ (linkUnits3.port 0).got = [] ∧ (linkUnits3.port 0).point = 65535 ∧
      65535 < 65536 ∧ 2 < 3 ∧ (List.replicate 128 3#8).length = 128 ∧ ((linkUnits3.port 0).rxStream = List.map (fun b => (b, false))
      (unitBytes 65535 1 0 0 2 (List.replicate 128 3#8) false) ++ [(9#8, false)]) ∧ (slotStream (linkUnits3.rxEntry 0) ((linkUnits3.port
      0).rxSlot % 4096) = Stream.planned 7 ∧ 1 = 1 ∧ linkUnits3.bit Reg.LNK_STATE 0 16 = false ∨ slotStream (linkUnits3.rxEntry 0)
      ((linkUnits3.port 0).rxSlot % 4096) = Stream.control ∧ 1 = 3)) ∧
    (linkUnits4.linkState 0 = 5 ∧ (linkUnits4.port 0).nakQ = [] ∧ (linkUnits4.port 0).ackQ = [] ∧ slotStream (linkUnits4.txEntry 0)
      ((linkUnits4.port 0).txSlot % 4096) = Stream.control ∧ (linkUnits4.port 0).replayQ = [(tu.seq, 9, true)] ∧ (linkUnits4.port 0).buffer
      = [tu] ∧ tu.replays < 7 ∧ 640 * linkUnits4.lanes 0 ≤ (linkUnits4.port 0).stream.length + 136 ∧ 599 < tu.sentAt + linkUnits4.fld
      Reg.LNK_RTT 0 15 0 + 600) ∧
    (linkUnits5.linkState 0 = 5 ∧ (linkUnits5.port 0).nakQ = [] ∧ (linkUnits5.port 0).ackQ = [] ∧ slotStream (linkUnits5.txEntry 0)
      ((linkUnits5.port 0).txSlot % 4096) = Stream.planned 7 ∧ (linkUnits5.port 0).planned = [] ∧ 640 * linkUnits5.lanes 0 ≤
      (linkUnits5.port 0).stream.length + 136) ∧
    (linkUnits6.linkState 0 = 5 ∧ (linkUnits6.port 0).nakQ = [] ∧ (linkUnits6.port 0).ackQ = [] ∧ slotStream (linkUnits6.txEntry 0)
      ((linkUnits6.port 0).txSlot % 4096) = Stream.nobody ∧ 640 * linkUnits6.lanes 0 ≤ (linkUnits6.port 0).stream.length + 136) ∧
    ((linkUnits7.port 0).buffer = [tu] ∧ (linkUnits7.port 0).replayQ = [] ∧ tu.sentAt + linkUnits7.fld Reg.LNK_RTT 0 15 0 + 600 ≤ 600) ∧
    (linkUnits8.linkState 0 = 5 ∧ (linkUnits8.port 0).nakQ = [] ∧ (linkUnits8.port 0).ackQ = [] ∧ slotStream (linkUnits8.txEntry 0)
      ((linkUnits8.port 0).txSlot % 4096) = Stream.planned 7 ∧ (linkUnits8.port 0).planned = [(7, fl1)] ∧ (linkUnits8.port 0).buffer.length
      < 8192 ∧ (linkUnits8.port 0).corrupt = 0 ∧ (linkUnits8.port 0).stream.length + 136 < 640 * linkUnits8.lanes 0) ∧
    ((linkUnits9.linkState 0 < 4 ∨ linkUnits9.linkState 0 = 7)) ∧
    (linkUnits10.linkState 0 = 5 ∧ (linkUnits10.port 0).nakQ = [] ∧ (linkUnits10.port 0).ackQ = [] ∧ slotStream (linkUnits10.txEntry 0)
      ((linkUnits10.port 0).txSlot % 4096) = Stream.control ∧ (linkUnits10.port 0).replayQ = [(tu.seq, 9, true)] ∧ (linkUnits10.port
      0).buffer = [tu] ∧ tu.replays < 7 ∧ (linkUnits10.port 0).stream.length + 136 < 640 * linkUnits10.lanes 0) :=
  ⟨by decide +kernel,
    by decide +kernel,
    by decide +kernel,
    by decide +kernel,
    by decide +kernel,
    by decide +kernel,
    by decide +kernel,
    by decide +kernel,
    by decide +kernel,
    by decide +kernel⟩
def linkTraining1 : State := (portS (st 4) {})
def linkTraining2 : State := (portS (st 2) {})
def linkTraining3 : State := (portS (st 3) {})
def linkTraining4 : State := (portS (st 1) {probes := 1})
def linkTraining5 : State := (portS (st 5) {buffer := [tu]})
def linkTraining6 : State := (portS (st 0) {})
def linkTraining7 : State := (portS (st 4) {syncOut := true, paused := true})
def linkTraining8 : State := (portS ((.LNK_RTT, 0, 0xFFFF) :: st 4) {syncOut := true, buffer := [tu]})
def linkTraining9 : State := (portS (st 2) {})
def linkTraining10 : State := (portS (st 4) {syncOut := true, buffer := [tu]})
def linkTraining11 : State := (portS (st 1) {})
def linkTraining12 : State := (portS (st 3) {})
def linkTraining13 : State := (portS (st 7) {})
/-- States and operands that meet the hypotheses of the clauses of LinkTraining. -/
theorem witness_LinkTraining :
    (linkTraining1.linkState 0 = 4 ∧ (linkTraining1.port 0).syncOut = false) ∧
    (linkTraining2.linkState 0 = 2 ∧ linkTraining2.widthFor 0 (linkTraining2.wantWidth 0) 255 = some 0 ∧ 0 < 4) ∧
    (linkTraining3.linkState 0 = 3 ∧ 160 ≤ 160) ∧
    (linkTraining4.linkState 0 = 1 ∧ 1 ≤ (linkTraining4.port 0).probes) ∧
    ((linkTraining5.linkState 0 = 5 ∨ linkTraining5.linkState 0 = 6)) ∧
    (linkTraining6.linkState 0 = 0) ∧
    (linkTraining7.linkState 0 = 4 ∧ (linkTraining7.port 0).syncOut = true ∧ linkTraining7.rttTooLong 0 = false ∧ (linkTraining7.port
      0).paused = true) ∧
    (linkTraining8.linkState 0 = 4 ∧ (linkTraining8.port 0).syncOut = true ∧ linkTraining8.rttTooLong 0 = true) ∧
    (linkTraining9.linkState 0 = 2 ∧ linkTraining9.widthFor 0 (linkTraining9.wantWidth 0) 1 = none) ∧
    (linkTraining10.linkState 0 = 4 ∧ (linkTraining10.port 0).syncOut = true ∧ linkTraining10.rttTooLong 0 = false ∧ (linkTraining10.port
      0).paused = false) ∧
    (linkTraining11.linkState 0 = 1 ∧ (linkTraining11.port 0).probes = 0) ∧
    (linkTraining12.linkState 0 = 3 ∧ 160 < 161) ∧
    (linkTraining13.linkState 0 = 7) :=
  ⟨by decide +kernel,
    by decide +kernel,
    by decide +kernel,
    by decide +kernel,
    by decide +kernel,
    by decide +kernel,
    by decide +kernel,
    by decide +kernel,
    by decide +kernel,
    by decide +kernel,
    by decide +kernel,
    by decide +kernel,
    by decide +kernel⟩
def retrainsAndBanks1 : State := (portS (st 5) {rxSwap := true, rxStream := badU})
def retrainsAndBanks2 : State := (portS (st 6) {phase := some .align, delay := some 5})
def retrainsAndBanks3 : State := (portS (st (5 + 0x4000)) {})
def retrainsAndBanks4 : State := (portS (st 5) {retrains := [1,2], buffer := [tu]})
def retrainsAndBanks5 : State := (portS (st 7) {retrains := [1,2], buffer := [tu]})
def retrainsAndBanks6 : State := (portS (st 6) {phase := some .catchup, syncIn := true, buffer := [tu]})
def retrainsAndBanks7 : State := (portS ((.LNK_SWAP_AT, 0, 500) :: st (5 + 0x4000)) {armedBank := true})
def retrainsAndBanks8 : State := (portS (st 6) {phase := some .pause})
def retrainsAndBanks9 : State := (portS (st 6) {phase := some .sync, syncIn := true})
def retrainsAndBanks10 : State := (portS (st 6) {phase := some .align, target := some 3})
def retrainsAndBanks11 : State := (portS (st 5) {rxSwap := true, rxSlot := 5, rxStream := badU})
def retrainsAndBanks12 : State := (portS (st 6) {phase := some .align, delay := some 5})
def retrainsAndBanks13 : State := (portS (st 6) {phase := some .sync})
/-- States and operands that meet the hypotheses of the clauses of RetrainsAndBanks. -/
theorem witness_RetrainsAndBanks :
    (retrainsAndBanks1.linkState 0 = 5 ∧ ((Instr.retrainSymbol 0 500#64, 4) ∈ [(Instr.laneLost 0 500#64, 3), (Instr.retrainSymbol 0 500#64,
      4)] ∨ Instr.retrainSymbol 0 500#64 = Instr.errorWindow 0 500#64 ∧ 4 = 2 ∧ retrainsAndBanks1.errorLimit 0 < (retrainsAndBanks1.port
      0).uncorr) ∧ ((List.filter (fun x => decide (500 < x + 10000000000)) (retrainsAndBanks1.port 0).retrains).length < 2) ∧
      (retrainsAndBanks1.port 0).uncorr ≤ retrainsAndBanks1.errorLimit 0 ∧ 13 / 8 % 2 = 1 ∧ retrainsAndBanks1.bit Reg.LNK_STATE 0 14 =
      false ∧ (retrainsAndBanks1.linkState 0 ≠ 5 ∨ (retrainsAndBanks1.port 0).armedBank = false ∨ 500 < BitVec.toNat (retrainsAndBanks1.reg
      Reg.LNK_SWAP_AT 0) ∨ (retrainsAndBanks1.port 0).txSlot % 4096 ≠ 0) ∧ (retrainsAndBanks1.port 0).rxSwap = true ∧
      (retrainsAndBanks1.port 0).headGroup (retrainsAndBanks1.lanes 0) = none ∧ (retrainsAndBanks1.port 0).rxStream = badU ++ [] ∧
      badU.length = 136 ∧ ((badU.any fun x => x.snd) = true) ∧ (retrainsAndBanks1.port 0).rxSlot % 4096 = 0) ∧
    (retrainsAndBanks2.linkState 0 = 6 ∧ (retrainsAndBanks2.port 0).phase = some Phase.align ∧ 160 ≤ 160 ∧ (retrainsAndBanks2.widthFor 0
      ((Option.map (fun x => x % 4) (retrainsAndBanks2.port 0).target).getD (retrainsAndBanks2.fld Reg.LNK_STATE 0 4 3)) 255 = some 0) ∧
      ((retrainsAndBanks2.port 0).phase = some Phase.pause ∨ (retrainsAndBanks2.port 0).phase = some Phase.align) ∧ 9 / 8 % 2 = 1 ∧
      retrainsAndBanks2.linkState 0 ≠ 5) ∧
    (retrainsAndBanks3.linkState 0 = 5 ∧ 5 / 8 % 2 = 0 ∧ retrainsAndBanks3.bit Reg.LNK_STATE 0 14 = true ∧ (retrainsAndBanks3.port
      0).request = false) ∧
    (retrainsAndBanks4.linkState 0 = 5 ∧ ((Instr.retrainSymbol 0 500#64, 4) ∈ [(Instr.laneLost 0 500#64, 3), (Instr.retrainSymbol 0 500#64,
      4)] ∨ Instr.retrainSymbol 0 500#64 = Instr.errorWindow 0 500#64 ∧ 4 = 2 ∧ retrainsAndBanks4.errorLimit 0 < (retrainsAndBanks4.port
      0).uncorr) ∧ (2 ≤ (List.filter (fun x => decide (500 < x + 10000000000)) (retrainsAndBanks4.port 0).retrains).length)) ∧
    (retrainsAndBanks5.linkState 0 = 7) ∧
    (retrainsAndBanks6.linkState 0 = 6 ∧ (retrainsAndBanks6.port 0).phase = some Phase.catchup ∧ (retrainsAndBanks6.port 0).caughtUp =
      true) ∧
    (retrainsAndBanks7.linkState 0 = 5 ∧ (retrainsAndBanks7.port 0).armedBank = true ∧ BitVec.toNat (retrainsAndBanks7.reg Reg.LNK_SWAP_AT
      0) ≤ 500 ∧ (retrainsAndBanks7.port 0).txSlot % 4096 = 0) ∧
    (retrainsAndBanks8.linkState 0 = 6 ∧ (retrainsAndBanks8.port 0).phase = some Phase.pause) ∧
    (retrainsAndBanks9.linkState 0 = 6 ∧ (retrainsAndBanks9.port 0).phase = some Phase.sync ∧ (retrainsAndBanks9.port 0).syncIn = true) ∧
    (retrainsAndBanks10.linkState 0 = 6 ∧ (retrainsAndBanks10.port 0).phase = some Phase.align ∧ 160 ≤ 160 ∧ (retrainsAndBanks10.widthFor 0
      ((Option.map (fun x => x % 4) (retrainsAndBanks10.port 0).target).getD (retrainsAndBanks10.fld Reg.LNK_STATE 0 4 3)) 0 = none)) ∧
    (retrainsAndBanks11.linkState 0 = 5 ∧ (retrainsAndBanks11.port 0).rxSwap = true ∧ (retrainsAndBanks11.port 0).headGroup
      (retrainsAndBanks11.lanes 0) = none ∧ (retrainsAndBanks11.port 0).rxStream = badU ++ [] ∧ badU.length = 136 ∧ ((badU.any fun x =>
      x.snd) = true) ∧ (retrainsAndBanks11.port 0).rxSlot % 4096 ≠ 0) ∧
    (retrainsAndBanks12.linkState 0 = 6 ∧ (retrainsAndBanks12.port 0).phase = some Phase.align ∧ 160 < 161) ∧
    (retrainsAndBanks13.linkState 0 = 6 ∧ ((retrainsAndBanks13.port 0).phase = some Phase.sync ∧ (retrainsAndBanks13.port 0).syncIn = false
      ∨ (retrainsAndBanks13.port 0).phase = some Phase.catchup ∧ (retrainsAndBanks13.port 0).caughtUp = false)) :=
  ⟨by decide +kernel,
    by decide +kernel,
    by decide +kernel,
    by decide +kernel,
    by decide +kernel,
    by decide +kernel,
    by decide +kernel,
    by decide +kernel,
    by decide +kernel,
    by decide +kernel,
    by decide +kernel,
    by decide +kernel,
    by decide +kernel⟩

end Sys2Proof.Tests.Links

namespace Sys2Proof.Tests.Traffic
open Sys2Proof Sys2Proof.Machine Sys2Proof.Tests

def host (l : List (Reg × Nat × U64)) : State := regs (oneCore (withRegs {} regions)) ((.HIF_CTRL, 0, 1) :: l)
def ela (l : List (Reg × Nat × U64)) (w : WinSt) (c : CoreSt) : State := { regs (oneCore c) ([(.HIF_CTRL, 0, 1), (.LNK_PKEY, 1, 0x10007), (.LNK_PKEY, 192, 0x10007), (.KPR_FABRIC_ID, 0, 0x100005), (.QD_ELA_WIN, 0, BitVec.ofNat 64 (1 + 9 * 2 + 7 * 2^33 + 2^49)), (.LNK_STATE, 0, 5),(.LNK_STATE, 3, 5), (.PWR_DOMAIN_STAT, 4, 2)] ++ l) with
   quads := [(0, { wins := [(0, w)] })] }
/-- type, dst id, dst core -/
def pk (ty dst : Nat) (key : Nat := 7) (req : Nat := 3) (fg : Nat := 0) (hops : Nat := 4): Packet := ⟨BitVec.ofNat 64 (ty + fg * 16 + dst *
  65536 + 9 * 2^36), BitVec.ofNat 64 (key + req * 65536 + hops * 2^48), 0x10000, 0, List.replicate 64 5⟩
def r0 : ElaReq := { id := 3, core := 0, seqNo := 0, write := true, granules := 1, packets := [pk 0 9], reqFlits := 1, rspFlits := 1 }
def c0 : CoreSt := withRegs {} regions
def hd : HeldReq := ⟨0, pk 0 5 7 3 1, 0⟩
def pk1023 : Packet := { pk 0 5 with w1 := BitVec.ofNat 64 (7 + 3 * 65536 + 1023 * 2^32 + 4 * 2^48) }
def opens (r : Nat) : List (Reg × Nat × U64) := [(.LNK_DEST, 4, BitVec.ofNat 64 (0xFFFFFFFFFFFFFFFF - (0xF - 3) * 2 ^ (32 + 4 * r)))]
def tmsg : List Byte := [3, 9, 2, 0, 5, 0,0,0] ++ leBytes 8 1000 ++ leBytes 8 3 ++ leBytes 8 900 ++ leBytes 4 5 ++ List.replicate 92 0
def ptm : PortSt := { marksOut := [(2, 57600)], marksIn := [(9, 65000)], lastOut := some 2, told := false, markNo := 63 }
def tS (l : List (Reg × Nat × U64)) (p : PortSt) (x : TimeSt) : State := { host ((.LNK_STATE, 0, 5) :: l) with ports := [(0, p)], time := x }
def plan : Plan := { role := 0, variants := [{ epochLen := 8192, floor := 1000 }, { epochLen := 8192, floor := 1200 }] }
def bS (l : List (Reg × Nat × U64)) (x : TimeSt) : State := { host l with quads := [(0, { plan := some plan })], time := x }
def vS (l : List (Reg × Nat × U64)) (n : Option VarNotice) (b := true): State := { host ([(.QD_VARIANT, 0, 8), (.QD_EPOCH_INDEX, 0, 4), (.QD_LAUNCH_NEXT, 0, 9000)] ++ l) with quads := [(0, { plan := some plan, notice := n, begun := b })] }
def va : Variant := { epochLen := 8192, floor := 1000 }
def vb : Variant := { epochLen := 8192, floor := 1200 }
def kS (l : List (Reg × Nat × U64)) (c : CoreSt) (g : List (Reg × Nat × U64)) : State := regs (oneCore (withRegs c l)) g
def bh := bS [(.TB_SNAP_CFG, 0, 0x1000F000), (.QD_VARIANT, 0, 8), (.QD_VARIANT, 3, 8)] {}
def held (t : State) (j : Nat) := decide (t.bit .TB_SNAP_STAT 0 7 = true ∧ (bh.runs j = true → t.bit .QD_VARIANT j 8 = true ∧ (t.quad
  j).notice = none ∧ (t.quad j).restart = none))

def elasticTraffic1 : State := (ela (opens 1) {reqs := [r0]} c0)
def elasticTraffic2 : State := (ela [(.KPR_QUAD_STAT, 0, 2)] {} c0)
def elasticTraffic3 : State := (ela [] {} { c0 with held := [hd] })
def elasticTraffic4 : State := (ela [] {reqs := [{r0 with waiting := some 5}]} c0)
def elasticTraffic5 : State := (ela [(.LNK_DEST, 4, 0xFFFFFFFFFFFFFFFF)] {} c0)
def elasticTraffic6 : State := (ela [] {} c0)
def elasticTraffic7 : State := (ela [] {} c0)
def elasticTraffic8 : State := (ela [(.LNK_DEST, 4, 0xFFFFFFF3FFFFFFFF)] {} c0)
def elasticTraffic9 : State := (ela [] {high := some 3, part := [(3, [0])]} c0)
def elasticTraffic10 : State := (ela [] {reqs := [r0]} c0)
/-- States and operands that meet the hypotheses of the clauses of ElasticTraffic. -/
theorem witness_ElasticTraffic :
    (elasticTraffic1.keyIn 0 (pkKey (pk 2 5)) = true ∧ pkDst (pk 2 5) = elasticTraffic1.globalId ∧ elasticTraffic1.bit Reg.KPR_QUAD_STAT
      (pkDstCore (pk 2 5) / 64) 1 = false ∧ pkWin (pk 2 5) ≠ 1023 ∧ elasticTraffic1.phys (pkDstCore (pk 2 5)) = some 0 ∧ pkType (pk 2 5) =
      2 ∧ pkStatus (pk 2 5) = 0 ∧ elasticTraffic1.winAccepts 0 (pk 2 5) = true ∧ ((elasticTraffic1.quad 0).win (pkWin (pk 2 5))).reqs =
      [r0] ∧ r0.id = pkReq (pk 2 5) ∧ r0.waiting = none ∧ r0.write = true ∧ ((elasticTraffic1.quad 0).win 0).reqs = [r0] ∧ r0.id < 65536 ∧
      r0.sentAt + elasticTraffic1.retryDrips 0 ≤ 3000000 ∧ elasticTraffic1.nextRoute 0 r0 = some 1) ∧
    (elasticTraffic2.keyIn 0 (pkKey (pk 0 5)) = true ∧ pkDst (pk 0 5) = elasticTraffic2.globalId ∧ elasticTraffic2.bit Reg.KPR_QUAD_STAT
      (pkDstCore (pk 0 5) / 64) 1 = true ∧ pkType (pk 0 5) = 0 ∧ pkDstCore (pk 0 5) / 64 = 0 ∧ elasticTraffic2.winAccepts 0 (pk 0 5) = true
      ∧ elasticTraffic2.phys (pkDstCore (pk 0 5)) = some 0 ∧ elasticTraffic2.fenced 0 = false ∧ (elasticTraffic2.core 0).serves (pk 0 5) =
      true ∧ pkMember (pk 0 5) = false ∧ pkFlagged (pk 0 5) = false ∧ pkLen (pk 0 5) ≤ 64 ∧ pkIndex (pk 0 5) = 0 ∧ ((elasticTraffic2.quad
      0).win (pkWin (pk 0 5))).arrival (pkReq (pk 0 5)) 0 = Arrival.fresh true ∧ ((elasticTraffic2.quad 0).win (pkWin (pk 0 5))).part = []
      ∧ (elasticTraffic2.core 0).held = []) ∧
    (0 / 64 = 0 ∧ elasticTraffic3.phys 0 = some 0 ∧ (elasticTraffic3.core 0).held = [hd] ∧ hd.win = 0 ∧ pkWin hd.pkt = 0 ∧ hd.since +
      elasticTraffic3.orderDrips 0 ≤ 3000000) ∧
    (((elasticTraffic4.quad 0).win 0).reqs = [{ id := r0.id, core := r0.core, seqNo := r0.seqNo, write := r0.write, granules := r0.granules, packets := r0.packets, reqFlits := r0.reqFlits, rspFlits := r0.rspFlits, route := r0.route, tries := r0.tries, sentAt := r0.sentAt, waiting := some 5, data := r0.data : ElaReq }]
      ∧ { id := r0.id, core := r0.core, seqNo := r0.seqNo, write := r0.write, granules := r0.granules, packets := r0.packets, reqFlits := r0.reqFlits, rspFlits := r0.rspFlits, route := r0.route, tries := r0.tries, sentAt := r0.sentAt, waiting := some 5, data := r0.data : ElaReq }.waiting
      = some 5 ∧ elasticTraffic4.winRoom 0 0 { id := r0.id, core := r0.core, seqNo := r0.seqNo, write := r0.write, granules := r0.granules, packets := r0.packets, reqFlits := r0.reqFlits, rspFlits := r0.rspFlits, route := r0.route, tries := r0.tries, sentAt := r0.sentAt, waiting := some 5, data := r0.data : ElaReq }
      = true) ∧
    (elasticTraffic5.keyIn 0 (pkKey (pk 0 9)) = true ∧ pkDst (pk 0 9) ≠ elasticTraffic5.globalId ∧ pkDst (pk 0 9) / 65536 =
      elasticTraffic5.globalId / 65536 ∧ elasticTraffic5.routePort (portQuad 0) (pkDst (pk 0 9) % 65536) (pkRoute (pk 0 9)) = none) ∧
    (elasticTraffic6.keyIn 0 (pkKey pk1023) = true ∧ pkDst pk1023 = elasticTraffic6.globalId ∧ elasticTraffic6.bit Reg.KPR_QUAD_STAT
      (pkDstCore pk1023 / 64) 1 = false ∧ pkWin pk1023 = 1023) ∧
    (elasticTraffic7.keyIn 0 (pkKey (pk 0 5 8)) = false) ∧
    (elasticTraffic8.keyIn 0 (pkKey (pk 0 9)) = true ∧ pkDst (pk 0 9) ≠ elasticTraffic8.globalId ∧ pkDst (pk 0 9) / 65536 =
      elasticTraffic8.globalId / 65536 ∧ elasticTraffic8.routePort (portQuad 0) (pkDst (pk 0 9) % 65536) (pkRoute (pk 0 9)) = some 3) ∧
    (pkType (pk 0 5) = 0 ∧ pkDst (pk 0 5) = elasticTraffic9.globalId ∧ pkDstCore (pk 0 5) / 64 = 0 ∧ elasticTraffic9.winAccepts 0 (pk 0 5)
      = true ∧ elasticTraffic9.phys (pkDstCore (pk 0 5)) = some 0 ∧ elasticTraffic9.fenced 0 = false ∧ (elasticTraffic9.core 0).serves (pk
      0 5) = true ∧ ((elasticTraffic9.quad 0).win (pkWin (pk 0 5))).arrival (pkReq (pk 0 5)) (pkIndex (pk 0 5)) = Arrival.duplicate) ∧
    (((elasticTraffic10.quad 0).win 0).reqs = [r0] ∧ r0.waiting = none ∧ r0.id < 65536 ∧ r0.sentAt + elasticTraffic10.retryDrips 0 ≤
      3000000 ∧ elasticTraffic10.nextRoute 0 r0 = none) :=
  ⟨by decide +kernel,
    by decide +kernel,
    by decide +kernel,
    by decide +kernel,
    by decide +kernel,
    by decide +kernel,
    by decide +kernel,
    by decide +kernel,
    by decide +kernel,
    by decide +kernel⟩
def timeTransfer1 : State := (tS [(.TB_STAT, 0, 0xF3)] {} {retrain := some (2, 7)})
def timeTransfer2 : State := (tS [] ptm {})
def timeTransfer3 : State := (tS [] {symQ := [(4, 2)], markAt := some 500} {})
def timeTransfer4 : State := (tS [(.TB_STAT, 0, 0x02)] {} {})
def timeTransfer5 : State := (tS [(.KPR_FABRIC_ID, 0, 0x100005), (.TB_CFG, 0, 0x29FFFFC), (.TB_STAT, 0, 0xF0)] {} {})
def timeTransfer6 : State := (tS [(.TB_STAT, 0, 0xF3)] {} {lostBound := 928001})
def timeTransfer7 : State := (tS [] ptm {hold := some 20900})
def timeTransfer8 : State := (tS [] ptm {hold := some 20900})
def timeTransfer9 : State := (tS [(.TB_STAT, 0, 0xF3)] {} {retrain := some (2, 7)})
/-- States and operands that meet the hypotheses of the clauses of TimeTransfer. -/
theorem witness_TimeTransfer :
    (timeTransfer1.linkState 0 = 5 ∧ (timeTransfer1.port 0).markAt = none ∧ 4 ≤ timeTransfer1.linkState 0 ∧ timeTransfer1.linkState 0 ≤ 6 ∧
      [3#8].headD 0#8 = 3#8 ∧ (timeTransfer1.port 0).exchange [3#8] = none ∧ timeTransfer1.tbState = 3 ∧ timeTransfer1.time.lostBound +
      (100000008 - timeTransfer1.time.lostAt) * 192 / 1000000 ≤ 928000 ∧ timeTransfer1.time.retrain = some (2, 7) ∧ 7 + 100000000 <
      100000008) ∧
    ((timeTransfer2.port 0).lastOut = some 2 ∧ (timeTransfer2.port 0).told = false ∧ (timeTransfer2.port 0).marksOut.get 2 0 + 20000 * 64 ≤
      20900 * 64 ∧ 20900 * 64 ≤ (timeTransfer2.port 0).marksOut.get 2 0 + 200000 * 64 ∧ 4 ≤ timeTransfer2.linkState 0 ∧
      timeTransfer2.linkState 0 ≤ 6 ∧ tmsg.headD 0#8 = 3#8 ∧ (timeTransfer2.port 0).exchange tmsg = some ((57600, 57605, 64003, 65000).fst,
      (57600, 57605, 64003, 65000).snd.fst, (57600, 57605, 64003, 65000).snd.snd.fst, (57600, 57605, 64003, 65000).snd.snd.snd)) ∧
    (nextSymbol (timeTransfer3.port 0).symQ = some (4, 2) ∧ (timeTransfer3.port 0).markAt = some 500) ∧
    ((timeTransfer4.tbState = 1 ∨ timeTransfer4.tbState = 2) ∧ timeTransfer4.isGm = false ∧ timeTransfer4.bit Reg.TB_CFG 0 0 = false) ∧
    (timeTransfer5.candidate = true ∧ timeTransfer5.keyPorts = [] ∧ timeTransfer5.isGm = false ∧ timeTransfer5.tbParent = 15 ∧
      timeTransfer5.time.keySeen + 3000000 ≤ 3000000) ∧
    (timeTransfer6.tbState = 3 ∧ 928000 < timeTransfer6.time.lostBound + (0 - timeTransfer6.time.lostAt) * 192 / 1000000) ∧
    ((timeTransfer7.port 0).lastOut = some 2 ∧ ((timeTransfer7.port 0).told = true ∨ 20899 * 64 < (timeTransfer7.port 0).marksOut.get 2 0 +
      20000 * 64 ∨ (timeTransfer7.port 0).marksOut.get 2 0 + 200000 * 64 < 20899 * 64) ∧ timeTransfer7.time.hold = some 20900 ∧ 20899 <
      20900) ∧
    (timeTransfer8.time.hold = some 20900 ∧ 20900 ≤ 20900) ∧
    (timeTransfer9.time.retrain = some (2, 7) ∧ 100000007 ≤ 7 + 100000000) :=
  ⟨by decide +kernel,
    by decide +kernel,
    by decide +kernel,
    by decide +kernel,
    by decide +kernel,
    by decide +kernel,
    by decide +kernel,
    by decide +kernel,
    by decide +kernel⟩
def snapBarrier1 : State := (bS [(.TB_STAT, 0, 2), (.TB_SNAP_CFG, 0, 0x1000F000)] {release := some 2000, epoch0 := some 2000})
def snapBarrier2 : State := (bS [(.TB_SNAP_STAT, 0, 0x80), (.TB_HOLD_AT, 0, 2000), (.QD_VARIANT, 0, 8)] {})
def snapBarrier3 : State := (bS [(.TB_STAT, 0, 2), (.TB_SNAP_CFG, 0, 0x10010001)] {})
def snapBarrier4 : State := (bS [(.TB_SNAP_CFG, 0, 0x1000F000)] {seen := [⟨1, 4, 0⟩, ⟨2, 4, 0⟩, ⟨3, 4, 0⟩]})
/-- States and operands that meet the hypotheses of the clauses of SnapBarrier. -/
theorem witness_SnapBarrier :
    (snapBarrier1.keeper.start = none ∧ snapBarrier1.bit Reg.TB_SNAP_STAT 0 7 = false ∧ snapBarrier1.seenSnap 1 4 2000 = false ∧ 2000 ≤
      countOf 4 2000 ∧ snapBarrier1.seenSnap 2 4 2000 = false ∧ snapBarrier1.seenSnap 3 4 2000 = false ∧ snapBarrier1.time.release = some
      2000 ∧ 2000 ≤ 2000 ∧ snapBarrier1.time.epoch0 = some 2000 ∧ snapBarrier1.takesPart 0 = true) ∧
    ((∀ (j : Nat), (snapBarrier2.quad j).moved = []) ∧ snapBarrier2.keeper.start = none ∧ snapBarrier2.runs 0 = true ∧
      snapBarrier2.seenSnap 3 4 2000 = false ∧ 2000 ≤ countOf 4 2000 ∧ snapBarrier2.bit Reg.TB_SNAP_STAT 0 7 = true ∧ BitVec.toNat
      (snapBarrier2.reg Reg.TB_HOLD_AT 0) ≤ 2000 ∧ snapBarrier2.time.holdFired = false ∧ 0 / 72 = 0) ∧
    (snapBarrier3.bit Reg.TB_SNAP_STAT 0 6 = false ∧ snapBarrier3.readyToArrive = true ∧ snapBarrier3.keeper.window' ≤ 5 ∧ (maskPorts
      (snapBarrier3.fld Reg.TB_SNAP_CFG 0 27 16)).all snapBarrier3.time.arrived.contains = false ∧ snapBarrier3.fld Reg.TB_SNAP_STAT 0 5 0
      = 0 ∧ snapBarrier3.bit Reg.TB_SNAP_CFG 0 (16 + 0) = true ∧ ¬0 ∈ snapBarrier3.time.arrived ∧ snapBarrier3.seenSnap 2 0 5 = false ∧
      countOf 0 5 < 5) ∧
    (snapBarrier4.readyToArrive = false ∧ 1 ∈ [1, 2, 3] ∧ snapBarrier4.seenSnap 1 4 7 = true ∧ snapBarrier4.keeper.start = none ∧ 2 ∈ [1,
      2, 3] ∧ snapBarrier4.seenSnap 2 4 7 = true ∧ 3 ∈ [1, 2, 3] ∧ snapBarrier4.seenSnap 3 4 7 = true) :=
  ⟨by decide +kernel,
    ⟨(by intro j; cases j <;> rfl), by decide +kernel⟩,
    by decide +kernel,
    by decide +kernel⟩
def variantSwitches1 : State := (vS [] none)
def variantSwitches2 : State := (vS [] (some ⟨1, 6, 9000⟩))
def variantSwitches3 : State := (vS [] none)
def variantSwitches4 : State := (vS [] (some ⟨0, 6, 9001⟩))
/-- States and operands that meet the hypotheses of the clauses of VariantSwitches. -/
theorem witness_VariantSwitches :
    (variantSwitches1.runs 0 = true ∧ (variantSwitches1.quad 0).notice = none ∧ 9000 ≤ 9000 ∧ (variantSwitches1.quad 0).begun = true ∧ 5 ≤
      variantSwitches1.epoch 0 + 1) ∧
    (variantSwitches2.runs 0 = true ∧ (variantSwitches2.quad 0).notice = some { target := 1, ks := 6, count := 9000 : VarNotice } ∧ { target := 1, ks := 6, count := 9000 : VarNotice }.ks
      = 6 ∧ (variantSwitches2.quad 0).variants[{ target := 1, ks := 6, count := 9000 : VarNotice }.target]? = some vb ∧
      variantSwitches2.variant 0 = some va ∧ va.floor < vb.floor ∧ 0 / 64 = 0 ∧ variantSwitches2.phys 0 = some 0 ∧ { target := 1, ks := 6, count := 9000 : VarNotice }.count
      = BitVec.toNat (variantSwitches2.reg Reg.QD_LAUNCH_NEXT 0)) ∧
    (variantSwitches3.runs 0 = true ∧ (variantSwitches3.quad 0).notice = none ∧ 8999 < 9000 ∧ ((variantSwitches3.quad 0).begun = false ∨
      variantSwitches3.epoch 0 + 1 < 6)) ∧
    (variantSwitches4.runs 0 = true ∧ (variantSwitches4.quad 0).notice = some { target := 0, ks := 6, count := 9001 : VarNotice } ∧ { target := 0, ks := 6, count := 9001 : VarNotice }.ks
      = 6 ∧ (variantSwitches4.quad 0).variants[{ target := 0, ks := 6, count := 9001 : VarNotice }.target]? = some va ∧
      variantSwitches4.variant 0 = some va ∧ va.floor ≤ va.floor ∧ { target := 0, ks := 6, count := 9001 : VarNotice }.count ≠ BitVec.toNat
      (variantSwitches4.reg Reg.QD_LAUNCH_NEXT 0)) :=
  ⟨by decide +kernel,
    by decide +kernel,
    by decide +kernel,
    by decide +kernel⟩
def coreClocks1 : State := (kS [(.CLK_CORE_STAT, 0, 0x1A1F), (.CLK_CORE_CTRL, 0, 0x1A20)] {stretchUsed := 64} [(.QD_VARIANT, 0, 8)])
def coreClocks2 : State := (kS [(.CLK_CORE_STAT, 0, 0xA21), (.CLK_CORE_CTRL, 0, 0x5A20)] {} [(.QD_VARIANT, 0, 8)])
def coreClocks3 : State := (kS [] {} [])
def coreClocks4 : State := (kS [(.CLK_CORE_STAT, 0, 0x1000)] {stretchUsed := 64, warnCycles := 3071} [])
def coreClocks5 : State := (kS [(.CLK_CORE_STAT, 0, 0x1000)] {stretchUsed := 64, warnCycles := 3072} [])
/-- States and operands that meet the hypotheses of the clauses of CoreClocks. -/
theorem witness_CoreClocks :
    (coreClocks1.phys 0 = some 0 ∧ (coreClocks1.core 0).fld Reg.CLK_CORE_STAT 0 5 0 < (coreClocks1.core 0).request ∧ (coreClocks1.core
      0).stretchWin = 0 ∧ 64 ≤ (coreClocks1.core 0).stretchUsed ∧ (coreClocks1.core 0).fld Reg.CLK_CORE_STAT 0 12 12 = 1 ∧
      (coreClocks1.core 0).fld Reg.CLK_CORE_STAT 0 11 6 ≠ 0 ∧ (coreClocks1.runs (0 / 64) = false ∨ (coreClocks1.core 0).fld
      Reg.CLK_CORE_CTRL 0 17 12 ≤ min 40 (bitsOf (1#64) 5 0))) ∧
    (coreClocks2.phys 0 = some 0 ∧ (coreClocks2.core 0).request < (coreClocks2.core 0).fld Reg.CLK_CORE_STAT 0 5 0 ∧ (coreClocks2.core
      0).stretchWin ≠ 3 ∧ coreClocks2.runs (0 / 64) = true ∧ min 40 (bitsOf (4#64) 5 0) < (coreClocks2.core 0).fld Reg.CLK_CORE_CTRL 0 17
      12) ∧
    (coreClocks3.phys 0 = some 0 ∧ (coreClocks3.core 0).fld Reg.CLK_CORE_STAT 0 5 0 = (coreClocks3.core 0).request ∧ (coreClocks3.core
      0).stretchWin = 0 ∧ (coreClocks3.core 0).stretchUsed < 64) ∧
    (coreClocks4.phys 0 = some 0 ∧ (coreClocks4.core 0).fld Reg.CLK_CORE_STAT 0 12 12 = 1 ∧ 64 ≤ (coreClocks4.core 0).stretchUsed ∧
      (coreClocks4.core 0).fld Reg.CLK_CORE_STAT 0 11 6 = 0 ∧ (coreClocks4.core 0).warnCycles < 3072) ∧
    (coreClocks5.phys 0 = some 0 ∧ (coreClocks5.core 0).fld Reg.CLK_CORE_STAT 0 12 12 = 1 ∧ 64 ≤ (coreClocks5.core 0).stretchUsed ∧
      (coreClocks5.core 0).fld Reg.CLK_CORE_STAT 0 11 6 = 0 ∧ 3072 ≤ (coreClocks5.core 0).warnCycles) :=
  ⟨by decide +kernel,
    by decide +kernel,
    by decide +kernel,
    by decide +kernel,
    by decide +kernel⟩

end Sys2Proof.Tests.Traffic

namespace Sys2Proof.Tests.Recovery
open Sys2Proof Sys2Proof.Machine Sys2Proof.Tests

def host (l : List (Reg × Nat × U64)) : State := regs (oneCore (withRegs {} regions)) ((.HIF_CTRL, 0, 1) :: l)
def plan : Plan := { role := 0, variants := [{ epochLen := 8192, floor := 1000 }, { epochLen := 8192, floor := 1200 }] }
def m0 : Moved := { v := 0, old := 0, new := 8, lost := true }
def rS (l : List (Reg × Nat × U64)) (x : QuadSt) : State := { host ([(.QD_VARIANT, 0, 8), (.QD_EPOCH_INDEX, 0, 4)] ++ l) with quads := [(0, { x with plan := some plan, begun := true })] }
def dl (w0 w1 w2 w6 : Nat) : List Byte := (leBytes 8 w0 ++ leBytes 8 w1 ++ leBytes 8 w2 ++ leBytes 8 5 ++ leBytes 8 0 ++ leBytes 8 10 ++
  leBytes 8 w6 ++ leBytes 8 0) ++ List.replicate 64 3
def cp : MirrorCopy := ⟨3, 0, 0, 0, 0, 0, [], [], [], 0, false, true⟩
def me : MirrorEntry := { dseq := 0xFFFFFFFF }
def mS (l : List (Reg × Nat × U64)) (x : QuadSt) (c : CoreSt := {}) (pt : PortSt := {}) : State := { regs (oneCore c) l with quads := [(0, x)], ports := [(0, pt)] }
def rehL (kind arg : Nat) : List (Reg × Nat × U64) := [(.KPR_REH_CTRL, 0, 1), (.KPR_REH_ENTRY, 5, BitVec.ofNat 64 (8 + kind + arg * 2^16)),
  (.KPR_REH_AT, 5, 4), (.QD_EPOCH_INDEX, 0, 4), (.QD_VARIANT, 0, 8)]

def cordonsAndReleases1 : State := (host [])
def cordonsAndReleases2 : State := (host [(.KPR_CORDON_STAT, 0, 0x20000)])
def cordonsAndReleases3 : State := { host [(.KPR_SPARE_ROW, 0, 0x300), (.KPR_QUAD_STAT, 0, 2)] with ports := [(0, {cordoned := true})], keeper := { testing := [0] } }
def cordonsAndReleases4 : State := (host [(.KPR_SPARE_ROW, 0, 0x100)])
/-- States and operands that meet the hypotheses of the clauses of CordonsAndReleases. -/
theorem witness_CordonsAndReleases :
    (cordonsAndReleases1.bit Reg.KPR_CORDON_STAT 0 17 = false ∧ cordonsAndReleases1.restarting = false ∧ (cordonsAndReleases1.rowFailed
      (↑(Fin.ofNat 288 8) / 72) (↑(Fin.ofNat 288 8) % 72 / 9)).testBit (↑(Fin.ofNat 288 8) % 9) = false ∧ (cordonsAndReleases1.rowOut
      (↑(Fin.ofNat 288 8) / 72) (↑(Fin.ofNat 288 8) % 72 / 9)).testBit (↑(Fin.ofNat 288 8) % 9) = true ∧ portQuad 0 = 0 ∧
      (cordonsAndReleases1.port 0).cordoned = false ∧ (cordonsAndReleases1.bit Reg.KPR_QUAD_STAT 0 1 = false ∨ (cordonsAndReleases1.quad
      0).plan.isSome = true)) ∧
    (cordonsAndReleases2.bit Reg.KPR_CORDON_STAT 0 17 = true) ∧
    (cordonsAndReleases3.bit Reg.KPR_CORDON_STAT 0 17 = false ∧ cordonsAndReleases3.restarting = false ∧ (cordonsAndReleases3.rowFailed
      (↑(Fin.ofNat 288 0) / 72) (↑(Fin.ofNat 288 0) % 72 / 9)).testBit (↑(Fin.ofNat 288 0) % 9) = true ∧ (cordonsAndReleases3.port
      0).cordoned = true ∧ cordonsAndReleases3.linkState 0 = 0 ∧ cordonsAndReleases3.bit Reg.KPR_QUAD_STAT 0 1 = true ∧
      (cordonsAndReleases3.quad 0).plan = none ∧ cordonsAndReleases3.keeper.testing = [↑(Fin.ofNat 288 0)]) ∧
    (cordonsAndReleases4.bit Reg.KPR_CORDON_STAT 0 17 = false ∧ cordonsAndReleases4.restarting = false ∧ (cordonsAndReleases4.rowFailed
      (↑(Fin.ofNat 288 7) / 72) (↑(Fin.ofNat 288 7) % 72 / 9)).testBit (↑(Fin.ofNat 288 7) % 9) = false ∧ (cordonsAndReleases4.rowOut
      (↑(Fin.ofNat 288 7) / 72) (↑(Fin.ofNat 288 7) % 72 / 9)).testBit (↑(Fin.ofNat 288 7) % 9) = false ∧ (cordonsAndReleases4.quad
      (↑(Fin.ofNat 288 7) / 72)).plan = none ∧ cordonsAndReleases4.runs (↑(Fin.ofNat 288 7) / 72) = false ∧ nearestSpare
      (cordonsAndReleases4.rowOut (↑(Fin.ofNat 288 7) / 72) (↑(Fin.ofNat 288 7) % 72 / 9)) (maskSet (cordonsAndReleases4.rowFailed
      (↑(Fin.ofNat 288 7) / 72) (↑(Fin.ofNat 288 7) % 72 / 9)) (↑(Fin.ofNat 288 7) % 9) true) (↑(Fin.ofNat 288 7) % 9) = some 8) :=
  ⟨by decide +kernel,
    by decide +kernel,
    by decide +kernel,
    by decide +kernel⟩
def restartsAndReplacement1 : State := (rS [] {master := true, repairs := [(7, false)]})
def restartsAndReplacement2 : State := (rS [(.QD_RECOVERY, 0, 3), (.QD_RESTART_AT, 0, 900)] {restart := some (6, 2)})
def restartsAndReplacement3 : State := (rS [(.QD_MIRROR, 0, 0x800000)] {})
def restartsAndReplacement4 : State := (rS [] {moved := [m0]})
def restartsAndReplacement5 : State := (rS [] {weight := some 6, groups := [(3, ⟨9, false, 1, 5, [], [], []⟩)]})
def restartsAndReplacement6 : State := (rS [(.QD_RECOVERY, 0, 3), (.QD_RESTART_AT, 0, 900)] {restart := some (6, 2)})
/-- States and operands that meet the hypotheses of the clauses of RestartsAndReplacement. -/
theorem witness_RestartsAndReplacement :
    ((restartsAndReplacement1.quad 0).master = true ∧ restartsAndReplacement1.runs 0 = true ∧ (restartsAndReplacement1.quad 0).repairs =
      [(7, false)] ∧ (restartsAndReplacement1.quad 0).restartPoint (restartsAndReplacement1.epoch 0) = some (5, 3) ∧
      restartsAndReplacement1.bit Reg.QD_RECOVERY 0 0 = false ∧ restartsAndReplacement1.launchEpoch 0 + 2 ≤ 7 ∧
      restartsAndReplacement1.launchEpoch 0 + 1 ≤ 6) ∧
    (restartsAndReplacement2.runs 0 = true ∧ 6 < restartsAndReplacement2.launchEpoch 0 + 2 ∧ 5 < restartsAndReplacement2.launchEpoch 0 + 1
      ∧ (restartsAndReplacement2.quad 0).restart = some (6, 2) ∧ restartsAndReplacement2.bit Reg.QD_RECOVERY 0 1 = true ∧
      restartsAndReplacement2.epoch 0 + 2 = 6 ∧ (restartsAndReplacement2.quad 0).moved = [] ∧ 0 / 72 = 0 ∧ BitVec.toNat
      (restartsAndReplacement2.reg Reg.QD_RESTART_AT 0) ≤ 900) ∧
    (restartsAndReplacement3.bit Reg.KPR_QUAD_STAT 0 2 = false ∧ restartsAndReplacement3.runs 0 = true ∧ restartsAndReplacement3.bit
      Reg.QD_MIRROR 0 23 = true) ∧
    (0 / 64 = 0 ∧ (restartsAndReplacement4.quad 0).moved = [m0] ∧ m0.v = 0 ∧ m0.flow = true) ∧
    ((restartsAndReplacement5.quad 0).weight = some 6 ∧ (restartsAndReplacement5.nextValues 0 6).fst ≤ 200000) ∧
    ((restartsAndReplacement6.quad 0).restart = some (6, 2) ∧ restartsAndReplacement6.bit Reg.QD_RECOVERY 0 1 = true ∧ 899 < BitVec.toNat
      (restartsAndReplacement6.reg Reg.QD_RESTART_AT 0)) :=
  ⟨by decide +kernel,
    by decide +kernel,
    by decide +kernel,
    by decide +kernel,
    by decide +kernel,
    by decide +kernel⟩
def mirrorsAndRehearsals1 : State := (mS [(.HUB_SEQ_MIRROR, 9, 0x50002)] {mirrors := [(3, me)], slots := [(9, {state := 2})]})
def mirrorsAndRehearsals2 : State := (mS ((.HUB_SEQ_MIRROR, 9, 0x50001) :: rehL 5 9) {})
def mirrorsAndRehearsals3 : State := (mS [] {})
def mirrorsAndRehearsals4 : State := (mS ((.QD_RECOVERY, 0, 1) :: rehL 5 9) {})
def mirrorsAndRehearsals5 : State := (mS [(.HUB_SEQ_MIRROR, 9, 0x50002)] {mirrors := [(3, me)], slots := [(9, {state := 2})]})
def mirrorsAndRehearsals6 : State := (mS (rehL 3 1030) {})
def mirrorsAndRehearsals7 : State := (mS [] {mirrors := [(3, me)]})
def mirrorsAndRehearsals8 : State := (mS (rehL 0 1024) {})
def mirrorsAndRehearsals9 : State := (mS ((.LNK_STATE, 0, 5) :: rehL 1 1024) {})
def mirrorsAndRehearsals10 : State := (mS (rehL 2 1024) {})
def mirrorsAndRehearsals11 : State := (mS [] {})
/-- States and operands that meet the hypotheses of the clauses of MirrorsAndRehearsals. -/
theorem witness_MirrorsAndRehearsals :
    ((mirrorsAndRehearsals1.quad 0).mirrors.find (deltaOf (dl 3 5 281474976710661 0)).slot = some me ∧ (deltaOf (dl 3 5 281474976710661
      0)).kind < 3 ∧ (deltaOf (dl 3 5 281474976710661 0)).dseq = (me.dseq + 1) % 2 ^ 32 ∧ mirrorsAndRehearsals1.mirrorState 0 9 = 2 ∧
      mirrorsAndRehearsals1.fld Reg.HUB_SEQ_MIRROR (0 * 128 + 9) 39 16 = 5 % 2 ^ 24 ∧ ((mirrorsAndRehearsals1.quad 0).slot 9).state ≠ 0 ∧
      mirrorsAndRehearsals1.mirrorState 0 9 ≠ 0) ∧
    (mirrorsAndRehearsals2.mirrorState 0 9 ≠ 0 ∧ (5, Instr.mirrorPromotion 5 cp) ∈ [(0, Instr.linkUnitCorruption 5), (1,
      Instr.forcedRetrain 5 77#64), (2, Instr.residueInjection 5), (3, Instr.crystalSymbolError 5), (4, Instr.rehearsalCordon 5), (5,
      Instr.mirrorPromotion 5 cp)] ∧ ((mirrorsAndRehearsals2.bit Reg.KPR_REH_CTRL 0 0 && mirrorsAndRehearsals2.bit Reg.KPR_REH_ENTRY 5 3 &&
      decide (mirrorsAndRehearsals2.fld Reg.KPR_REH_ENTRY 5 2 0 = 5) && !mirrorsAndRehearsals2.bit Reg.KPR_REH_ENTRY 5 4 &&
      !mirrorsAndRehearsals2.bit Reg.KPR_REH_ENTRY 5 5 && mirrorsAndRehearsals2.runs (mirrorsAndRehearsals2.rehTarget 5 % 4) && decide
      (mirrorsAndRehearsals2.reg Reg.KPR_REH_AT 5 = mirrorsAndRehearsals2.reg Reg.QD_EPOCH_INDEX (mirrorsAndRehearsals2.rehTarget 5 % 4))
      && (List.range 5).all fun j => !(mirrorsAndRehearsals2.rehDue j && decide (mirrorsAndRehearsals2.reg Reg.KPR_REH_AT j =
      mirrorsAndRehearsals2.reg Reg.KPR_REH_AT 5))) = true) ∧ mirrorsAndRehearsals2.bit Reg.QD_RECOVERY (mirrorsAndRehearsals2.rehTarget 5
      % 4) 0 = false ∧ mirrorsAndRehearsals2.bit Reg.TB_SNAP_STAT 0 7 = false ∧ (5 = 4 → (nearestSpare (mirrorsAndRehearsals2.rowOut
      (mirrorsAndRehearsals2.rehTarget 5 % 4) (mirrorsAndRehearsals2.rehTarget 5 % 288 % 72 / 9)) (mirrorsAndRehearsals2.rowFailed
      (mirrorsAndRehearsals2.rehTarget 5 % 4) (mirrorsAndRehearsals2.rehTarget 5 % 288 % 72 / 9)) (mirrorsAndRehearsals2.rehTarget 5 % 288
      % 9)).isSome = true) ∧ (5 = 5 → mirrorsAndRehearsals2.mirrorState (mirrorsAndRehearsals2.rehTarget 5 % 4)
      (mirrorsAndRehearsals2.rehArg 5 % 128) = 1)) ∧
    ((mirrorsAndRehearsals3.quad 0).mirrors.find (deltaOf (dl 771 5 0 0)).slot = none ∧ (deltaOf (dl 771 5 0 0)).kind = 3 ∧ (deltaOf (dl
      771 5 0 0)).dseq = 0) ∧
    ((5, Instr.mirrorPromotion 5 cp) ∈ [(0, Instr.linkUnitCorruption 5), (1, Instr.forcedRetrain 5 77#64), (2, Instr.residueInjection 5),
      (3, Instr.crystalSymbolError 5), (4, Instr.rehearsalCordon 5), (5, Instr.mirrorPromotion 5 cp)] ∧ ((mirrorsAndRehearsals4.bit
      Reg.KPR_REH_CTRL 0 0 && mirrorsAndRehearsals4.bit Reg.KPR_REH_ENTRY 5 3 && decide (mirrorsAndRehearsals4.fld Reg.KPR_REH_ENTRY 5 2 0
      = 5) && !mirrorsAndRehearsals4.bit Reg.KPR_REH_ENTRY 5 4 && !mirrorsAndRehearsals4.bit Reg.KPR_REH_ENTRY 5 5 &&
      mirrorsAndRehearsals4.runs (mirrorsAndRehearsals4.rehTarget 5 % 4) && decide (mirrorsAndRehearsals4.reg Reg.KPR_REH_AT 5 =
      mirrorsAndRehearsals4.reg Reg.QD_EPOCH_INDEX (mirrorsAndRehearsals4.rehTarget 5 % 4)) && (List.range 5).all fun j =>
      !(mirrorsAndRehearsals4.rehDue j && decide (mirrorsAndRehearsals4.reg Reg.KPR_REH_AT j = mirrorsAndRehearsals4.reg Reg.KPR_REH_AT
      5))) = true) ∧ (mirrorsAndRehearsals4.bit Reg.QD_RECOVERY (mirrorsAndRehearsals4.rehTarget 5 % 4) 0 = true ∨
      mirrorsAndRehearsals4.bit Reg.TB_SNAP_STAT 0 7 = true)) ∧
    ((mirrorsAndRehearsals5.quad 0).mirrors.find (deltaOf (dl 1027 5 281474976710661 0)).slot = some me ∧ (deltaOf (dl 1027 5
      281474976710661 0)).kind = 4 ∧ (deltaOf (dl 1027 5 281474976710661 0)).dseq = (me.dseq + 1) % 2 ^ 32 ∧ (mirrorsAndRehearsals5.quad
      0).mirrors.wf = true) ∧
    ((3, Instr.crystalSymbolError 5) ∈ [(0, Instr.linkUnitCorruption 5), (1, Instr.forcedRetrain 5 77#64), (2, Instr.residueInjection 5),
      (3, Instr.crystalSymbolError 5), (4, Instr.rehearsalCordon 5), (5, Instr.mirrorPromotion 5 cp)] ∧ ((mirrorsAndRehearsals6.bit
      Reg.KPR_REH_CTRL 0 0 && mirrorsAndRehearsals6.bit Reg.KPR_REH_ENTRY 5 3 && decide (mirrorsAndRehearsals6.fld Reg.KPR_REH_ENTRY 5 2 0
      = 3) && !mirrorsAndRehearsals6.bit Reg.KPR_REH_ENTRY 5 4 && !mirrorsAndRehearsals6.bit Reg.KPR_REH_ENTRY 5 5 &&
      mirrorsAndRehearsals6.runs (mirrorsAndRehearsals6.rehTarget 5 % 288 / 72) && decide (mirrorsAndRehearsals6.reg Reg.KPR_REH_AT 5 =
      mirrorsAndRehearsals6.reg Reg.QD_EPOCH_INDEX (mirrorsAndRehearsals6.rehTarget 5 % 288 / 72)) && (List.range 5).all fun j =>
      !(mirrorsAndRehearsals6.rehDue j && decide (mirrorsAndRehearsals6.reg Reg.KPR_REH_AT j = mirrorsAndRehearsals6.reg Reg.KPR_REH_AT
      5))) = true) ∧ mirrorsAndRehearsals6.bit Reg.QD_RECOVERY (mirrorsAndRehearsals6.rehTarget 5 % 288 / 72) 0 = false ∧
      mirrorsAndRehearsals6.bit Reg.TB_SNAP_STAT 0 7 = false ∧ (3 = 4 → (nearestSpare (mirrorsAndRehearsals6.rowOut
      (mirrorsAndRehearsals6.rehTarget 5 % 288 / 72) (mirrorsAndRehearsals6.rehTarget 5 % 288 % 72 / 9)) (mirrorsAndRehearsals6.rowFailed
      (mirrorsAndRehearsals6.rehTarget 5 % 288 / 72) (mirrorsAndRehearsals6.rehTarget 5 % 288 % 72 / 9)) (mirrorsAndRehearsals6.rehTarget 5
      % 288 % 9)).isSome = true) ∧ (3 = 5 → mirrorsAndRehearsals6.mirrorState (mirrorsAndRehearsals6.rehTarget 5 % 288 / 72)
      (mirrorsAndRehearsals6.rehArg 5 % 128) = 1) ∧ 3 = 3 ∧ (mirrorsAndRehearsals6.core (mirrorsAndRehearsals6.rehTarget 5 % 288)).sram.wf
      = true) ∧
    ((mirrorsAndRehearsals7.quad 0).mirrors.find (deltaOf (dl 3 5 281474976710661 1)).slot = some me ∧ (deltaOf (dl 3 5 281474976710661
      1)).kind < 5 ∧ (deltaOf (dl 3 5 281474976710661 1)).dseq ≠ (me.dseq + 1) % 2 ^ 32) ∧
    ((0, Instr.linkUnitCorruption 5) ∈ [(0, Instr.linkUnitCorruption 5), (1, Instr.forcedRetrain 5 77#64), (2, Instr.residueInjection 5),
      (3, Instr.crystalSymbolError 5), (4, Instr.rehearsalCordon 5), (5, Instr.mirrorPromotion 5 cp)] ∧ ((mirrorsAndRehearsals8.bit
      Reg.KPR_REH_CTRL 0 0 && mirrorsAndRehearsals8.bit Reg.KPR_REH_ENTRY 5 3 && decide (mirrorsAndRehearsals8.fld Reg.KPR_REH_ENTRY 5 2 0
      = 0) && !mirrorsAndRehearsals8.bit Reg.KPR_REH_ENTRY 5 4 && !mirrorsAndRehearsals8.bit Reg.KPR_REH_ENTRY 5 5 &&
      mirrorsAndRehearsals8.runs (portQuad (mirrorsAndRehearsals8.rehTarget 5 % 12)) && decide (mirrorsAndRehearsals8.reg Reg.KPR_REH_AT 5
      = mirrorsAndRehearsals8.reg Reg.QD_EPOCH_INDEX (portQuad (mirrorsAndRehearsals8.rehTarget 5 % 12))) && (List.range 5).all fun j =>
      !(mirrorsAndRehearsals8.rehDue j && decide (mirrorsAndRehearsals8.reg Reg.KPR_REH_AT j = mirrorsAndRehearsals8.reg Reg.KPR_REH_AT
      5))) = true) ∧ mirrorsAndRehearsals8.bit Reg.QD_RECOVERY (portQuad (mirrorsAndRehearsals8.rehTarget 5 % 12)) 0 = false ∧
      mirrorsAndRehearsals8.bit Reg.TB_SNAP_STAT 0 7 = false ∧ (0 = 4 → (nearestSpare (mirrorsAndRehearsals8.rowOut (portQuad
      (mirrorsAndRehearsals8.rehTarget 5 % 12)) (mirrorsAndRehearsals8.rehTarget 5 % 288 % 72 / 9)) (mirrorsAndRehearsals8.rowFailed
      (portQuad (mirrorsAndRehearsals8.rehTarget 5 % 12)) (mirrorsAndRehearsals8.rehTarget 5 % 288 % 72 / 9))
      (mirrorsAndRehearsals8.rehTarget 5 % 288 % 9)).isSome = true) ∧ (0 = 5 → mirrorsAndRehearsals8.mirrorState (portQuad
      (mirrorsAndRehearsals8.rehTarget 5 % 12)) (mirrorsAndRehearsals8.rehArg 5 % 128) = 1) ∧ 0 = 0) ∧
    ((1, Instr.forcedRetrain 5 77#64) ∈ [(0, Instr.linkUnitCorruption 5), (1, Instr.forcedRetrain 5 77#64), (2, Instr.residueInjection 5),
      (3, Instr.crystalSymbolError 5), (4, Instr.rehearsalCordon 5), (5, Instr.mirrorPromotion 5 cp)] ∧ ((mirrorsAndRehearsals9.bit
      Reg.KPR_REH_CTRL 0 0 && mirrorsAndRehearsals9.bit Reg.KPR_REH_ENTRY 5 3 && decide (mirrorsAndRehearsals9.fld Reg.KPR_REH_ENTRY 5 2 0
      = 1) && !mirrorsAndRehearsals9.bit Reg.KPR_REH_ENTRY 5 4 && !mirrorsAndRehearsals9.bit Reg.KPR_REH_ENTRY 5 5 &&
      mirrorsAndRehearsals9.runs (portQuad (mirrorsAndRehearsals9.rehTarget 5 % 12)) && decide (mirrorsAndRehearsals9.reg Reg.KPR_REH_AT 5
      = mirrorsAndRehearsals9.reg Reg.QD_EPOCH_INDEX (portQuad (mirrorsAndRehearsals9.rehTarget 5 % 12))) && (List.range 5).all fun j =>
      !(mirrorsAndRehearsals9.rehDue j && decide (mirrorsAndRehearsals9.reg Reg.KPR_REH_AT j = mirrorsAndRehearsals9.reg Reg.KPR_REH_AT
      5))) = true) ∧ mirrorsAndRehearsals9.bit Reg.QD_RECOVERY (portQuad (mirrorsAndRehearsals9.rehTarget 5 % 12)) 0 = false ∧
      mirrorsAndRehearsals9.bit Reg.TB_SNAP_STAT 0 7 = false ∧ (1 = 4 → (nearestSpare (mirrorsAndRehearsals9.rowOut (portQuad
      (mirrorsAndRehearsals9.rehTarget 5 % 12)) (mirrorsAndRehearsals9.rehTarget 5 % 288 % 72 / 9)) (mirrorsAndRehearsals9.rowFailed
      (portQuad (mirrorsAndRehearsals9.rehTarget 5 % 12)) (mirrorsAndRehearsals9.rehTarget 5 % 288 % 72 / 9))
      (mirrorsAndRehearsals9.rehTarget 5 % 288 % 9)).isSome = true) ∧ (1 = 5 → mirrorsAndRehearsals9.mirrorState (portQuad
      (mirrorsAndRehearsals9.rehTarget 5 % 12)) (mirrorsAndRehearsals9.rehArg 5 % 128) = 1) ∧ 1 = 1 ∧ mirrorsAndRehearsals9.linkState
      (mirrorsAndRehearsals9.rehTarget 5 % 12) = 5) ∧
    ((2, Instr.residueInjection 5) ∈ [(0, Instr.linkUnitCorruption 5), (1, Instr.forcedRetrain 5 77#64), (2, Instr.residueInjection 5), (3,
      Instr.crystalSymbolError 5), (4, Instr.rehearsalCordon 5), (5, Instr.mirrorPromotion 5 cp)] ∧ ((mirrorsAndRehearsals10.bit
      Reg.KPR_REH_CTRL 0 0 && mirrorsAndRehearsals10.bit Reg.KPR_REH_ENTRY 5 3 && decide (mirrorsAndRehearsals10.fld Reg.KPR_REH_ENTRY 5 2
      0 = 2) && !mirrorsAndRehearsals10.bit Reg.KPR_REH_ENTRY 5 4 && !mirrorsAndRehearsals10.bit Reg.KPR_REH_ENTRY 5 5 &&
      mirrorsAndRehearsals10.runs (mirrorsAndRehearsals10.rehTarget 5 % 288 / 72) && decide (mirrorsAndRehearsals10.reg Reg.KPR_REH_AT 5 =
      mirrorsAndRehearsals10.reg Reg.QD_EPOCH_INDEX (mirrorsAndRehearsals10.rehTarget 5 % 288 / 72)) && (List.range 5).all fun j =>
      !(mirrorsAndRehearsals10.rehDue j && decide (mirrorsAndRehearsals10.reg Reg.KPR_REH_AT j = mirrorsAndRehearsals10.reg Reg.KPR_REH_AT
      5))) = true) ∧ mirrorsAndRehearsals10.bit Reg.QD_RECOVERY (mirrorsAndRehearsals10.rehTarget 5 % 288 / 72) 0 = false ∧
      mirrorsAndRehearsals10.bit Reg.TB_SNAP_STAT 0 7 = false ∧ (2 = 4 → (nearestSpare (mirrorsAndRehearsals10.rowOut
      (mirrorsAndRehearsals10.rehTarget 5 % 288 / 72) (mirrorsAndRehearsals10.rehTarget 5 % 288 % 72 / 9))
      (mirrorsAndRehearsals10.rowFailed (mirrorsAndRehearsals10.rehTarget 5 % 288 / 72) (mirrorsAndRehearsals10.rehTarget 5 % 288 % 72 /
      9)) (mirrorsAndRehearsals10.rehTarget 5 % 288 % 9)).isSome = true) ∧ (2 = 5 → mirrorsAndRehearsals10.mirrorState
      (mirrorsAndRehearsals10.rehTarget 5 % 288 / 72) (mirrorsAndRehearsals10.rehArg 5 % 128) = 1) ∧ 2 = 2) ∧
    ((1, Instr.forcedRetrain 5 77#64) ∈ [(0, Instr.linkUnitCorruption 5), (1, Instr.forcedRetrain 5 77#64), (2, Instr.residueInjection 5),
      (3, Instr.crystalSymbolError 5), (4, Instr.rehearsalCordon 5), (5, Instr.mirrorPromotion 5 cp)] ∧ ((mirrorsAndRehearsals11.bit
      Reg.KPR_REH_CTRL 0 0 && mirrorsAndRehearsals11.bit Reg.KPR_REH_ENTRY 5 3 && decide (mirrorsAndRehearsals11.fld Reg.KPR_REH_ENTRY 5 2
      0 = 1) && !mirrorsAndRehearsals11.bit Reg.KPR_REH_ENTRY 5 4 && !mirrorsAndRehearsals11.bit Reg.KPR_REH_ENTRY 5 5 &&
      mirrorsAndRehearsals11.runs (portQuad (mirrorsAndRehearsals11.rehTarget 5 % 12)) && decide (mirrorsAndRehearsals11.reg Reg.KPR_REH_AT
      5 = mirrorsAndRehearsals11.reg Reg.QD_EPOCH_INDEX (portQuad (mirrorsAndRehearsals11.rehTarget 5 % 12))) && (List.range 5).all fun j
      => !(mirrorsAndRehearsals11.rehDue j && decide (mirrorsAndRehearsals11.reg Reg.KPR_REH_AT j = mirrorsAndRehearsals11.reg
      Reg.KPR_REH_AT 5))) = false)) :=
  ⟨by decide +kernel,
    by decide +kernel,
    by decide +kernel,
    by decide +kernel,
    by decide +kernel,
    by decide +kernel,
    by decide +kernel,
    by decide +kernel,
    by decide +kernel,
    by decide +kernel,
    by decide +kernel⟩

end Sys2Proof.Tests.Recovery

namespace Sys2Proof.Tests.Resets
open Sys2Proof Sys2Proof.Machine Sys2Proof.Tests

def host (l : List (Reg × Nat × U64)) : State := regs (oneCore (withRegs {} regions)) ((.HIF_CTRL, 0, 1) :: l)
def plan : Plan := { role := 0, variants := [{ epochLen := 8192, floor := 1000 }, { epochLen := 8192, floor := 1200 }] }
def sizes : List (Reg × Nat × U64) := [(.HIF_RING_SIZE, 0, 0x40000000040), (.HIF_RING_SIZE, 4, 0x40000000040)]
def offS (l : List (Reg × Nat × U64)) : State := { regs {} l with funcs := [(0, { sqCount := 4, cqCount := 5, queue := [{ kind := 1 }] })] }
def full : State := { host [(.RST_CAUSE, 0, 0xFFFF00000000), (.QD_VARIANT, 0, 8)] with
  cores := [(0, { sram := [(3, 4)] }), (77, {seq := {run := .issuing}})], quads := [(0, { plan := some plan, begun := true, hbm := [(0, 5)] })],
  funcs := [(0, { sqCount := 3 })], ports := [(0, {cordoned := true})], keeper := { window := [(0,1)], t0 := true }, pending :=
  [.deviceColdReset] }

def hostFunctions1 : State := (offS sizes)
def hostFunctions2 : State := { offS ((.KPR_BOOT, 0, 2) :: sizes) with keeper := { t0 := true } }
def hostFunctions3 : State := (offS ((.HIF_CTRL, 0, 1) :: sizes))
def hostFunctions4 : State := (offS ((.HIF_CTRL, 0, 1) :: (.QD_VARIANT, 0, 8) :: sizes))
/-- States and operands that meet the hypotheses of the clauses of HostFunctions. -/
theorem witness_HostFunctions :
    (hostFunctions1.bit Reg.HIF_CTRL 0 0 = false ∧ (ringSizeOk (hostFunctions1.sqSize 0) && ringSizeOk (hostFunctions1.cqSize 0)) = true ∧
      (hostFunctions1.funcs.wf = true) ∧ Map.wf hostFunctions1.regs = true ∧ hostFunctions1.keeper.t0 = false) ∧
    (hostFunctions2.bit Reg.HIF_CTRL 1 0 = false ∧ (ringSizeOk (hostFunctions2.sqSize 1) && ringSizeOk (hostFunctions2.cqSize 1)) = false ∧
      hostFunctions2.keeper.t0 = true ∧ 1 < pcieLinks (hostFunctions2.fld Reg.KPR_BOOT 0 3 0)) ∧
    (hostFunctions3.bit Reg.HIF_CTRL 0 0 = true ∧ (0 = 4 ∨ hostFunctions3.runs 0 = false)) ∧
    (hostFunctions4.bit Reg.HIF_CTRL 0 0 = true ∧ 0 < 4 ∧ hostFunctions4.runs 0 = true) :=
  ⟨by decide +kernel,
    by decide +kernel,
    by decide +kernel,
    by decide +kernel⟩
def sideband1 : State := { keeper := { side := { addr := some 3, causes := 0x1F, ibi := true } } }
def sideband3 : State := { keeper := { powered := false } }
/-- States and operands that meet the hypotheses of the clauses of Sideband. -/
theorem witness_Sideband :
    (sideband1.sideLive = true ∧ sideband1.keeper.side.addr.isSome = true ∧ (1#8).getLsbD 0 = true ∧ 0 + 26 ≤ 26) ∧
    ({ : State }.sideLive = true ∧ { : State }.keeper.side.addr = none ∧ 58 = { : State }.staticAddr) ∧
    (sideband3.sideLive = false ∧ Instr.entdaa 9#7 ∈ [Instr.entdaa 9#7, Instr.setdasa 58#7 9#7, Instr.rstdaa, Instr.enec 1#8, Instr.disec
      1#8, Instr.getpid, Instr.getbcr, Instr.getdcr, Instr.warmResetRequest, Instr.bootImageA, Instr.bootImageB, Instr.sidebandTransfer 0#8
      [5#8] 26#16] ∧ Instr.setdasa 58#7 9#7 ∈ [Instr.entdaa 9#7, Instr.setdasa 58#7 9#7, Instr.rstdaa, Instr.enec 1#8, Instr.disec 1#8,
      Instr.getpid, Instr.getbcr, Instr.getdcr, Instr.warmResetRequest, Instr.bootImageA, Instr.bootImageB, Instr.sidebandTransfer 0#8
      [5#8] 26#16] ∧ Instr.rstdaa ∈ [Instr.entdaa 9#7, Instr.setdasa 58#7 9#7, Instr.rstdaa, Instr.enec 1#8, Instr.disec 1#8, Instr.getpid,
      Instr.getbcr, Instr.getdcr, Instr.warmResetRequest, Instr.bootImageA, Instr.bootImageB, Instr.sidebandTransfer 0#8 [5#8] 26#16] ∧
      Instr.enec 1#8 ∈ [Instr.entdaa 9#7, Instr.setdasa 58#7 9#7, Instr.rstdaa, Instr.enec 1#8, Instr.disec 1#8, Instr.getpid,
      Instr.getbcr, Instr.getdcr, Instr.warmResetRequest, Instr.bootImageA, Instr.bootImageB, Instr.sidebandTransfer 0#8 [5#8] 26#16] ∧
      Instr.disec 1#8 ∈ [Instr.entdaa 9#7, Instr.setdasa 58#7 9#7, Instr.rstdaa, Instr.enec 1#8, Instr.disec 1#8, Instr.getpid,
      Instr.getbcr, Instr.getdcr, Instr.warmResetRequest, Instr.bootImageA, Instr.bootImageB, Instr.sidebandTransfer 0#8 [5#8] 26#16] ∧
      Instr.getpid ∈ [Instr.entdaa 9#7, Instr.setdasa 58#7 9#7, Instr.rstdaa, Instr.enec 1#8, Instr.disec 1#8, Instr.getpid, Instr.getbcr,
      Instr.getdcr, Instr.warmResetRequest, Instr.bootImageA, Instr.bootImageB, Instr.sidebandTransfer 0#8 [5#8] 26#16] ∧ Instr.getbcr ∈
      [Instr.entdaa 9#7, Instr.setdasa 58#7 9#7, Instr.rstdaa, Instr.enec 1#8, Instr.disec 1#8, Instr.getpid, Instr.getbcr, Instr.getdcr,
      Instr.warmResetRequest, Instr.bootImageA, Instr.bootImageB, Instr.sidebandTransfer 0#8 [5#8] 26#16] ∧ Instr.getdcr ∈ [Instr.entdaa
      9#7, Instr.setdasa 58#7 9#7, Instr.rstdaa, Instr.enec 1#8, Instr.disec 1#8, Instr.getpid, Instr.getbcr, Instr.getdcr,
      Instr.warmResetRequest, Instr.bootImageA, Instr.bootImageB, Instr.sidebandTransfer 0#8 [5#8] 26#16] ∧ Instr.warmResetRequest ∈
      [Instr.entdaa 9#7, Instr.setdasa 58#7 9#7, Instr.rstdaa, Instr.enec 1#8, Instr.disec 1#8, Instr.getpid, Instr.getbcr, Instr.getdcr,
      Instr.warmResetRequest, Instr.bootImageA, Instr.bootImageB, Instr.sidebandTransfer 0#8 [5#8] 26#16] ∧ Instr.bootImageA ∈
      [Instr.entdaa 9#7, Instr.setdasa 58#7 9#7, Instr.rstdaa, Instr.enec 1#8, Instr.disec 1#8, Instr.getpid, Instr.getbcr, Instr.getdcr,
      Instr.warmResetRequest, Instr.bootImageA, Instr.bootImageB, Instr.sidebandTransfer 0#8 [5#8] 26#16] ∧ Instr.bootImageB ∈
      [Instr.entdaa 9#7, Instr.setdasa 58#7 9#7, Instr.rstdaa, Instr.enec 1#8, Instr.disec 1#8, Instr.getpid, Instr.getbcr, Instr.getdcr,
      Instr.warmResetRequest, Instr.bootImageA, Instr.bootImageB, Instr.sidebandTransfer 0#8 [5#8] 26#16] ∧ Instr.sidebandTransfer 0#8
      [5#8] 26#16 ∈ [Instr.entdaa 9#7, Instr.setdasa 58#7 9#7, Instr.rstdaa, Instr.enec 1#8, Instr.disec 1#8, Instr.getpid, Instr.getbcr,
      Instr.getdcr, Instr.warmResetRequest, Instr.bootImageA, Instr.bootImageB, Instr.sidebandTransfer 0#8 [5#8] 26#16]) :=
  ⟨by decide +kernel,
    by decide +kernel,
    by decide +kernel⟩
def deviceResets2 : State := { full with keeper := { flashOp := some (.record {} 1 2) } }
/-- States and operands that meet the hypotheses of the clauses of DeviceResets. -/
theorem witness_DeviceResets :
    ((∀ (p : Nat) (e : QEntry), e ∈ ((full.core p).queue 2).ents → e.hbm = none) ∧ Map.wf full.regs = true ∧ 2000 ≤ 2000 ∧
      full.keeper.powered = true ∧ full.restarting = false ∧ full.keeper.flashOp = none ∧ (Instr.sysRstN 2000#32, 2) ∈ [(Instr.sysRstN
      2000#32, 2), (Instr.deviceColdReset, 8), (Instr.timebaseLockLoss 7000#64, 7)] ∧ (Instr.deviceColdReset, 8) ∈ [(Instr.sysRstN 2000#32,
      2), (Instr.deviceColdReset, 8), (Instr.timebaseLockLoss 7000#64, 7)] ∧ (Instr.timebaseLockLoss 7000#64, 7) ∈ [(Instr.sysRstN 2000#32,
      2), (Instr.deviceColdReset, 8), (Instr.timebaseLockLoss 7000#64, 7)] ∧ (Instr.keeperWatchdog, 5) ∈ [(Instr.keeperWatchdog, 5),
      (Instr.deviceWarmReset, 8), (Instr.warmResetRequest, 9)] ∧ (Instr.deviceWarmReset, 8) ∈ [(Instr.keeperWatchdog, 5),
      (Instr.deviceWarmReset, 8), (Instr.warmResetRequest, 9)] ∧ (Instr.warmResetRequest, 9) ∈ [(Instr.keeperWatchdog, 5),
      (Instr.deviceWarmReset, 8), (Instr.warmResetRequest, 9)] ∧ 0 < 1000 ∧ 1 < 1000 ∧ 2 < 1000 ∧ 3 < 1000 ∧ 4 < 1000 ∧ 5 < 1000 ∧ 6 < 1000
      ∧ 7 < 1000) ∧
    (Map.wf deviceResets2.regs = true ∧ 2000 ≤ 4000 ∧ deviceResets2.keeper.powered = true ∧ deviceResets2.restarting = false ∧
      deviceResets2.keeper.flashOp.isSome = true ∧ deviceResets2.keeper.held = none ∧ (Instr.sysRstN 4000#32, 2) ∈ [(Instr.sysRstN 4000#32,
      2), (Instr.deviceColdReset, 8), (Instr.timebaseLockLoss 7000#64, 7)] ∧ (Instr.deviceColdReset, 8) ∈ [(Instr.sysRstN 4000#32, 2),
      (Instr.deviceColdReset, 8), (Instr.timebaseLockLoss 7000#64, 7)] ∧ (Instr.timebaseLockLoss 7000#64, 7) ∈ [(Instr.sysRstN 4000#32, 2),
      (Instr.deviceColdReset, 8), (Instr.timebaseLockLoss 7000#64, 7)] ∧ (Instr.keeperWatchdog, 5) ∈ [(Instr.keeperWatchdog, 5),
      (Instr.deviceWarmReset, 8), (Instr.warmResetRequest, 9)] ∧ (Instr.deviceWarmReset, 8) ∈ [(Instr.keeperWatchdog, 5),
      (Instr.deviceWarmReset, 8), (Instr.warmResetRequest, 9)] ∧ (Instr.warmResetRequest, 9) ∈ [(Instr.keeperWatchdog, 5),
      (Instr.deviceWarmReset, 8), (Instr.warmResetRequest, 9)]) :=
  ⟨⟨(reads_of (by decide +kernel)), by decide +kernel⟩,
    by decide +kernel⟩

end Sys2Proof.Tests.Resets

namespace Sys2Proof.Tests.Keys
open Sys2Proof Sys2Proof.Machine Sys2Proof.Tests

def host (l : List (Reg × Nat × U64)) : State := regs (oneCore (withRegs {} regions)) ((.HIF_CTRL, 0, 1) :: l)
def plan : Plan := { role := 0, variants := [{ epochLen := 8192, floor := 1000 }, { epochLen := 8192, floor := 1200 }] }
def msg1 : List Byte := beBytes 128
  0x0500000001000000e803000000000000000000000000000000000000000000008aac1db4c5951f63215f8d4b8f60f0adcb5efbc4a63c4c6a758da16cce83df1f0cbeb7979825569755afb3b7f3197bed972b3c26dae204593333215705f25baef33208193de3c07c28052d4516c3b3356651ac8d368a06e2febb19130392d3da
def msg2 : List Byte := beBytes 128
  0x0500000002030000e803000000000000000000000000000000000000000000008aac1db4c5951f63215f8d4b8f60f0adcb5efbc4a63c4c6a758da16cce83df1f0cbeb7979825569755afb3b7f3197bed08bb1c1472c5f2e8347294d49d3a4e8e883c4934fb257e33e2c158ebc68948597f3a0ccd16cc138c06719cd53df3900e
def remS (l : List (Reg × Nat × U64)) (kp : KeeperSt) : State := { host ([(.TB_STAT, 0, 2), (.KPR_FABRIC_ID, 0, 5), (.QD_VARIANT, 0, 8), (.QD_VARIANT, 1, 8)] ++ l) with
  quads := [(0, { plan := some plan, begun := true, hbm := [(0, 5)] }), (1, { plan := some plan, begun := true, hbm := [(1, 5)] })], funcs
  := [(0, { sqCount := 3 }), (1, {sqCount := 4})], keeper := kp }
def kk : KeeperSt := { flash := { install := { c0 := some (1, { resetKey := testKey, debugKey := testKey }) } } }

def quadrantRemoteAndBlockResets1 : State := (remS [(.QD_VARIANT, 0, 0)] {kk with block := some (0, 0)})
def quadrantRemoteAndBlockResets2 : State := (remS [] kk)
def quadrantRemoteAndBlockResets3 : State := (remS [] kk)
def quadrantRemoteAndBlockResets4 : State := { (remS [(.QD_VARIANT, 0, 0)] {kk with block := some (0, 0)}) with cores := [(0, {seq := {run := .issuing}})] }
def quadrantRemoteAndBlockResets5 : State := (remS [(.QD_VARIANT, 0, 0)] kk)
/-- States and operands that meet the hypotheses of the clauses of QuadrantRemoteAndBlockResets. -/
theorem witness_QuadrantRemoteAndBlockResets :
    ((∀ (p : Nat) (e : QEntry), e ∈ ((quadrantRemoteAndBlockResets1.core p).queue 2).ents → e.hbm = none) ∧ Map.wf
      quadrantRemoteAndBlockResets1.regs = true ∧ (quadrantRemoteAndBlockResets1.funcs.wf = true) ∧ 0 = 0 ∧ 1 ∈ [1] ∧ ofLe (List.take 1
      (List.drop 4 [])) ≠ 1 ∧ ofLe (List.take 1 (List.drop 4 [])) ≠ 2 ∧ (quadrantRemoteAndBlockResets1.keeper.block.isSome = true ∨
      blockUnits 6 ≤ 3 ∨ ∃ q, blockQuad 6 3 = some q ∧ quadrantRemoteAndBlockResets1.runs q = true) ∧
      quadrantRemoteAndBlockResets1.keeper.block = some (0, 0) ∧ (((quadrantRemoteAndBlockResets1.core 0).seq.run = RunState.stopped ∨
      (quadrantRemoteAndBlockResets1.core 0).seq.run = RunState.faulted) ∧ (List.all (quadrantRemoteAndBlockResets1.core 0).queues fun q =>
      q.snd.ents.isEmpty) = true) ∧ quadrantRemoteAndBlockResets1.blockIdle 0 0 = true) ∧
    ((∀ (p : Nat) (e : QEntry), e ∈ ((quadrantRemoteAndBlockResets2.core p).queue 2).ents → e.hbm = none) ∧ Map.wf
      quadrantRemoteAndBlockResets2.regs = true ∧ (quadrantRemoteAndBlockResets2.funcs.wf = true) ∧ 15 ≠ 0 ∧ 0 ∈ maskQuads 15 ∧ 1 ∈
      maskQuads 15 ∧ 2 ∈ maskQuads 15 ∧ 3 ∈ maskQuads 15 ∧ msg1.length = 128 ∧ (ecdsaOk ((Option.map (fun x => x.resetKey)
      quadrantRemoteAndBlockResets2.keeper.flash.install.use).getD []) (List.drop 32 msg1) (sha384 (List.take 32 msg1)) = true) ∧ ofLe
      (List.take 4 (List.drop 0 msg1)) % 2 ^ 20 = quadrantRemoteAndBlockResets2.globalId ∧ quadrantRemoteAndBlockResets2.tbState = 2 ∧ ofLe
      (List.take 8 (List.drop 8 msg1)) ≤ max quadrantRemoteAndBlockResets2.now 2000 + 2 ^ 30 ∧ max quadrantRemoteAndBlockResets2.now 2000 ≤
      ofLe (List.take 8 (List.drop 8 msg1)) + 2 ^ 30 ∧ (∀ (n : Nat), quadrantRemoteAndBlockResets2.keeper.nonce = some n → n < ofLe
      (List.take 8 (List.drop 8 msg1))) ∧ ofLe (List.take 1 (List.drop 4 msg1)) = 1 ∧ quadrantRemoteAndBlockResets2.keeper.flashOp = none ∧
      quadrantRemoteAndBlockResets2.keeper.block = none) ∧
    ((∀ (p : Nat) (e : QEntry), e ∈ ((quadrantRemoteAndBlockResets3.core p).queue 2).ents → e.hbm = none) ∧ Map.wf
      quadrantRemoteAndBlockResets3.regs = true ∧ (quadrantRemoteAndBlockResets3.funcs.wf = true) ∧ msg2.length = 128 ∧ (ecdsaOk
      ((Option.map (fun x => x.resetKey) quadrantRemoteAndBlockResets3.keeper.flash.install.use).getD []) (List.drop 32 msg2) (sha384
      (List.take 32 msg2)) = true) ∧ ofLe (List.take 4 (List.drop 0 msg2)) % 2 ^ 20 = quadrantRemoteAndBlockResets3.globalId ∧
      quadrantRemoteAndBlockResets3.tbState = 2 ∧ ofLe (List.take 8 (List.drop 8 msg2)) ≤ max quadrantRemoteAndBlockResets3.now 2000 + 2 ^
      30 ∧ max quadrantRemoteAndBlockResets3.now 2000 ≤ ofLe (List.take 8 (List.drop 8 msg2)) + 2 ^ 30 ∧ (∀ (n : Nat),
      quadrantRemoteAndBlockResets3.keeper.nonce = some n → n < ofLe (List.take 8 (List.drop 8 msg2))) ∧ ofLe (List.take 1 (List.drop 4
      msg2)) = 2 ∧ ofLe (List.take 1 (List.drop 5 msg2)) % 16 ≠ 0 ∧ 0 ∈ maskQuads (ofLe (List.take 1 (List.drop 5 msg2))) ∧ 1 ∈ maskQuads
      (ofLe (List.take 1 (List.drop 5 msg2)))) ∧
    (quadrantRemoteAndBlockResets4.keeper.block = some (0, 0) ∧ (¬(((quadrantRemoteAndBlockResets4.core 0).seq.run = RunState.stopped ∨
      (quadrantRemoteAndBlockResets4.core 0).seq.run = RunState.faulted) ∧ (List.all (quadrantRemoteAndBlockResets4.core 0).queues fun q =>
      q.snd.ents.isEmpty) = true))) ∧
    ((¬(quadrantRemoteAndBlockResets5.keeper.block.isSome = true ∨ blockUnits 0 ≤ 0 ∨ ∃ q, blockQuad 0 0 = some q ∧
      quadrantRemoteAndBlockResets5.runs q = true))) :=
  ⟨⟨(reads_of (by decide +kernel)), by decide +kernel⟩,
    ⟨(reads_of (by decide +kernel)), by decide +kernel⟩,
    ⟨(reads_of (by decide +kernel)), by decide +kernel⟩,
    by decide +kernel,
    by decide +kernel⟩

end Sys2Proof.Tests.Keys

namespace Sys2Proof.Tests.Boot
open Sys2Proof Sys2Proof.Machine Sys2Proof.Tests

def host (l : List (Reg × Nat × U64)) : State := regs (oneCore (withRegs {} regions)) ((.HIF_CTRL, 0, 1) :: l)
def base (l : List (Reg × Nat × U64)) (kp : KeeperSt) : State := { host l with keeper := kp }
def stg (n : Nat) : Reg × Nat × U64 := (.KPR_BOOT, 0, BitVec.ofNat 64 (n * 1024))

def bringUp1 : State := (base [(.KPR_BOOT, 0, 0x400 + 0x3e)] { t0 := true, window := Mem.writeN [] 0 simg })
def bringUp2 : State := (base [] { image := some kimg })
def bringUp3 : State := (base [(.KPR_BOOT, 0, 0x400 + 0x3e)] { t0 := true, window := Mem.writeN [] 0 simg })
def bringUp4 : State := (base [stg 2] { image := some kimg, t0 := true, started := 36 })
def bringUp5 : State := (base [stg 2] { image := some kimg, t0 := true, warm := true, started := 0 })
def bringUp6 : State := (base [(.KPR_BOOT, 0, 0x400 + 0x2e)] { t0 := true, window := Mem.writeN [] 0 kimg })
def bringUp7 : State := (base [stg 3] { image := some kimg, t0 := true, started := 37, flash := { images := [(2, simg)] } })
def bringUp8 : State := (base [stg 3] { image := some kimg, t0 := true, started := 37 })
def bringUp9 : State := { base [] {} with power := { tripped := true } }
def bringUp10 : State := (base [stg 2] { image := some kimg, t0 := true })
/-- States and operands that meet the hypotheses of the clauses of BringUp. -/
theorem witness_BringUp :
    (bringUp1.romWaits = true ∧ bringUp1.keeper.t0 = true ∧ bringUp1.imageValid 1 (bringUp1.keeper.window.readN 0 (min (256 + ofLe
      (bringUp1.keeper.window.readN 16 4)) 4194304)) = false ∧ bringUp1.fld Reg.KPR_BOOT 0 5 4 = 3) ∧
    (bringUp2.keeper.powered = true ∧ bringUp2.keeper.t0 = false ∧ bringUp2.power.tripped = false ∧ bringUp2.keeper.image = some kimg ∧
      bringUp2.stage < 2 ∧ bringUp2.romWaits = false) ∧
    (bringUp3.romWaits = true ∧ bringUp3.keeper.t0 = true ∧ bringUp3.fld Reg.KPR_BOOT 0 5 4 = 3 ∧ bringUp3.imageValid 1 simg = false) ∧
    (bringUp4.stage = 2 ∧ domainOrder[bringUp4.keeper.started]? = some 39 ∧ bringUp4.keeper.warm = false) ∧
    (bringUp5.stage = 2 ∧ domainOrder[bringUp5.keeper.started]? = some 0 ∧ bringUp5.keeper.warm = true ∧ bringUp5.fld Reg.PWR_DOMAIN_STAT 0
      1 0 ≠ 1) ∧
    (bringUp6.romWaits = true ∧ bringUp6.keeper.t0 = true) ∧
    (bringUp7.keeper.image = some kimg ∧ bringUp7.stage = 3) ∧
    (bringUp8.keeper.image = some kimg ∧ bringUp8.stage = 3 ∧ bringUp8.findSup kimg = none) ∧
    (bringUp9.keeper.powered = true ∧ bringUp9.keeper.t0 = false ∧ bringUp9.power.tripped = true) ∧
    (bringUp10.stage = 2 ∧ domainOrder[bringUp10.keeper.started]? ≠ some 35) :=
  ⟨by decide +kernel,
    by decide +kernel,
    by decide +kernel,
    by decide +kernel,
    by decide +kernel,
    by decide +kernel,
    by decide +kernel,
    by decide +kernel,
    by decide +kernel,
    by decide +kernel⟩
theorem kimg_window : bringUp6.keeper.window.readN 0 (min (256 + ofLe (bringUp6.keeper.window.readN 16 4)) 4194304) = kimg := by
  rw [show min (256 + ofLe (bringUp6.keeper.window.readN 16 4)) 4194304 = kimg.length by decide +kernel]
  have hw : bringUp6.keeper.window = Mem.writeN [] 0 kimg := by simp only [bringUp6, base]
  rw [hw]
  exact Mem.readN_writeN rfl 0 kimg
theorem simg_found (hk : (Config.fusedKeyHash 0).toNat = sha384 testKey) (hr : Config.keyRevoked 0 = false) :
    bringUp7.findSup kimg = some (0, simg) := by
  have hv : bringUp7.imageValid 2 simg = true := by simp [State.imageValid, simg_ok hk hr bringUp7.svnFuse (by decide +kernel)]
  have hf : bringUp7.keeper.flash.image 1 0 = simg := by decide +kernel
  have hb : bringUp7.keeper.flash.boot.use = none := by decide +kernel
  have hz : bootSource (bringUp7.fld .KPR_BOOT 0 3 0) % 2 = 0 := by decide +kernel
  have hp : pairs kimg simg = true := by decide +kernel
  have hw : imgWhole simg = simg := by decide +kernel
  simp [State.findSup, hb, hz, hf, hv, hp, hw]
/-- The same under what the fuses hold: the clauses of BringUp that rest on them. -/
theorem witness_BringUp_config (hk : (Config.fusedKeyHash 0).toNat = sha384 testKey) (hr : Config.keyRevoked 0 = false) :
    bringUp1.imageValid 1 kimg = true ∧
    bringUp6.imageValid 1 (bringUp6.keeper.window.readN 0 (min (256 + ofLe (bringUp6.keeper.window.readN 16 4)) 4194304)) = true ∧
    bringUp7.findSup kimg = some (0, simg) :=
  by
  refine ⟨?_, ?_, simg_found hk hr⟩
  · simp [State.imageValid, kimg_ok hk hr bringUp1.svnFuse (by decide +kernel)]
  · rw [kimg_window]
    simp [State.imageValid, kimg_ok hk hr bringUp6.svnFuse (by decide +kernel)]

end Sys2Proof.Tests.Boot

namespace Sys2Proof.Tests.Firmware
open Sys2Proof Sys2Proof.Machine Sys2Proof.Tests

def en (op : Nat) (w1 : U64) (w2 : U64 := 0) (w3 : U64 := 0) (w4 : U64 := 0): Entry := ⟨BitVec.ofNat 64 (op + 0x2200050000), w1, w2, w3, w4, 0, 0, 0⟩
def plan : Plan := { role := 0, variants := [{ epochLen := 8192, floor := 1000 }, { epochLen := 8192, floor := 1200 }] }
def mgmt (l : List (Reg × Nat × U64)) (kp : KeeperSt) : State := { regs {} ((.HIF_CTRL, 4, 1) :: l) with keeper := kp }
def op0 : FlashOp := .record {} 1 2
def r0 : ResetReq := ⟨8, 1, 0, 0⟩
def stagedK : KeeperSt := { flash := { images := [(1, kimg), (3, simg)] }, image := some kimg, supImage := some simg }
def lv : LiveSt := { sup := true, keeper := true, cid := 1, tag := 2 }
def runq : List (Reg × Nat × U64) := [(.QD_VARIANT, 3, 8), (.QD_EPOCH_INDEX, 3, 10)]
def lk : LiveSt := { lv with sup := false }
def masterQ : List (Nat × QuadSt) := [(2, { master := true })]

def firmwareCommands1 : State := (mgmt [] {stagedK with flashOp := some op0, held := some r0})
def firmwareCommands2 : State := (mgmt [] {})
def firmwareCommands3 : State := (mgmt [] {stagedK with flashOp := some (.image 0 1 kimg 1 2)})
def firmwareCommands4 : State := (mgmt [(.KPR_FW_STAT, 0, 0xC000000)] stagedK)
def firmwareCommands5 : State := (mgmt [] {stagedK with flashOp := some op0})
def firmwareCommands6 : State := (mgmt [] {})
def firmwareCommands7 : State := (mgmt [] {})
def firmwareCommands8 : State := (mgmt [(.KPR_FW_STAT, 0, 0xC000000)] {stagedK with supImage := none})
def firmwareCommands9 : State := (mgmt [] {stagedK with flashOp := some op0})
def firmwareCommands10 : State := (mgmt [] {stagedK with flashOp := some (.image 0 1 kimg 1 2)})
/-- States and operands that meet the hypotheses of the clauses of FirmwareCommands. -/
theorem witness_FirmwareCommands :
    ((placesOf (entryWords (en 82 0#64 0#64 0#64 0#64)) = 1 ∧ 1 ≤ (firmwareCommands1.func 4).placesFree ∧ firmwareCommands1.bit
      Reg.HIF_CTRL 4 0 = true ∧ firmwareCommands1.keeper.loads.contains (4, entryWords (en 82 0#64 0#64 0#64 0#64)) = false ∧
      firmwareCommands1.restarting = false) ∧ cmdOk (entryWords (en 82 0#64 0#64 0#64 0#64)) [] = true ∧ firmwareCommands1.bit
      Reg.KPR_FW_STAT 0 22 = false ∧ firmwareCommands1.keeper.flashOp = some op0 ∧ firmwareCommands1.keeper.held = some r0 ∧ Map.wf
      firmwareCommands1.regs = true) ∧
    ((placesOf (entryWords (en 80 4096#64 512#64 0#64 0#64)) = 1 ∧ 1 ≤ (firmwareCommands2.func 4).placesFree ∧ firmwareCommands2.bit
      Reg.HIF_CTRL 4 0 = true ∧ firmwareCommands2.keeper.loads.contains (4, entryWords (en 80 4096#64 512#64 0#64 0#64)) = false ∧
      firmwareCommands2.restarting = false) ∧ firmwareCommands2.keeper.flashOp = none ∧ cmdOk (entryWords (en 80 4096#64 512#64 0#64 0#64))
      [2 ^ 64 - 4096, 2 ^ 32 - 1] = true ∧ (imgField (List.take (wf (entryWords (en 80 4096#64 512#64 0#64 0#64)) 2 31 0) kimg) 4 1 = 1 ∨
      imgField (List.take (wf (entryWords (en 80 4096#64 512#64 0#64 0#64)) 2 31 0) kimg) 4 1 = 2)) ∧
    ((∃ t, exec (Instr.flashOperationDone true) firmwareCommands3 = .next t) ∧ firmwareCommands3.keeper.held = none ∧ firmwareCommands3.bit
      Reg.HIF_CTRL 4 0 = true ∧ firmwareCommands3.keeper.flashOp = some (FlashOp.image 0 1 kimg 1 2) ∧ true = true) ∧
    ((placesOf (entryWords (en 81 3#64 0#64 0#64 0#64)) = 1 ∧ 1 ≤ (firmwareCommands4.func 4).placesFree ∧ firmwareCommands4.bit
      Reg.HIF_CTRL 4 0 = true ∧ firmwareCommands4.keeper.loads.contains (4, entryWords (en 81 3#64 0#64 0#64 0#64)) = false ∧
      firmwareCommands4.restarting = false) ∧ firmwareCommands4.keeper.flashOp = none ∧ cmdOk (entryWords (en 81 3#64 0#64 0#64 0#64)) [7]
      = true ∧ (bitAt (wordAt (entryWords (en 81 3#64 0#64 0#64 0#64)) 1) 0 = true ∨ bitAt (wordAt (entryWords (en 81 3#64 0#64 0#64 0#64))
      1) 1 = true) ∧ (bitAt (wordAt (entryWords (en 81 3#64 0#64 0#64 0#64)) 1) 0 = true → firmwareCommands4.isStaged 0 = true) ∧ (bitAt
      (wordAt (entryWords (en 81 3#64 0#64 0#64 0#64)) 1) 1 = true → firmwareCommands4.isStaged 1 = true) ∧ bitAt (wordAt (entryWords (en
      81 3#64 0#64 0#64 0#64)) 1) 2 = false ∧ pairs (firmwareCommands4.nextKeeper (bitAt (wordAt (entryWords (en 81 3#64 0#64 0#64 0#64))
      1) 0)) (firmwareCommands4.nextSup (bitAt (wordAt (entryWords (en 81 3#64 0#64 0#64 0#64)) 1) 1)) = true) ∧
    ((∃ t, exec (Instr.flashOperationDone true) firmwareCommands5 = .next t) ∧ firmwareCommands5.keeper.held = none ∧ firmwareCommands5.bit
      Reg.HIF_CTRL 4 0 = true ∧ firmwareCommands5.keeper.flashOp = some (FlashOp.record { : BootRec } 1 2) ∧ firmwareCommands5.keeperNext =
      false ∧ true = true) ∧
    ((placesOf (entryWords (en 80 4096#64 200#64 0#64 0#64)) = 1 ∧ 1 ≤ (firmwareCommands6.func 4).placesFree ∧ firmwareCommands6.bit
      Reg.HIF_CTRL 4 0 = true ∧ firmwareCommands6.keeper.loads.contains (4, entryWords (en 80 4096#64 200#64 0#64 0#64)) = false ∧
      firmwareCommands6.restarting = false) ∧ firmwareCommands6.keeper.flashOp = none ∧ cmdOk (entryWords (en 80 4096#64 200#64 0#64 0#64))
      [2 ^ 64 - 4096, 2 ^ 32 - 1] = true ∧ (imgField (List.take (wf (entryWords (en 80 4096#64 200#64 0#64 0#64)) 2 31 0) kimg) 4 1 = 1 ∨
      imgField (List.take (wf (entryWords (en 80 4096#64 200#64 0#64 0#64)) 2 31 0) kimg) 4 1 = 2) ∧ imageStatus firmwareCommands6.svnFuse
      (imgField (List.take (wf (entryWords (en 80 4096#64 200#64 0#64 0#64)) 2 31 0) kimg) 4 1) (List.take (wf (entryWords (en 80 4096#64
      200#64 0#64 0#64)) 2 31 0) kimg) ≠ 0) ∧
    ((placesOf (entryWords (en 81 1#64 0#64 0#64 0#64)) = 1 ∧ 1 ≤ (firmwareCommands7.func 4).placesFree ∧ firmwareCommands7.bit
      Reg.HIF_CTRL 4 0 = true ∧ firmwareCommands7.keeper.loads.contains (4, entryWords (en 81 1#64 0#64 0#64 0#64)) = false ∧
      firmwareCommands7.restarting = false) ∧ firmwareCommands7.keeper.flashOp = none ∧ cmdOk (entryWords (en 81 1#64 0#64 0#64 0#64)) [7]
      = true ∧ (bitAt (wordAt (entryWords (en 81 1#64 0#64 0#64 0#64)) 1) 0 = true ∨ bitAt (wordAt (entryWords (en 81 1#64 0#64 0#64 0#64))
      1) 1 = true) ∧ (bitAt (wordAt (entryWords (en 81 1#64 0#64 0#64 0#64)) 1) 0 = true ∧ firmwareCommands7.isStaged 0 = false ∨ bitAt
      (wordAt (entryWords (en 81 1#64 0#64 0#64 0#64)) 1) 1 = true ∧ firmwareCommands7.isStaged 1 = false)) ∧
    ((placesOf (entryWords (en 81 1#64 0#64 0#64 0#64)) = 1 ∧ 1 ≤ (firmwareCommands8.func 4).placesFree ∧ firmwareCommands8.bit
      Reg.HIF_CTRL 4 0 = true ∧ firmwareCommands8.keeper.loads.contains (4, entryWords (en 81 1#64 0#64 0#64 0#64)) = false ∧
      firmwareCommands8.restarting = false) ∧ firmwareCommands8.keeper.flashOp = none ∧ cmdOk (entryWords (en 81 1#64 0#64 0#64 0#64)) [7]
      = true ∧ (bitAt (wordAt (entryWords (en 81 1#64 0#64 0#64 0#64)) 1) 0 = true ∨ bitAt (wordAt (entryWords (en 81 1#64 0#64 0#64 0#64))
      1) 1 = true) ∧ (bitAt (wordAt (entryWords (en 81 1#64 0#64 0#64 0#64)) 1) 0 = true → firmwareCommands8.isStaged 0 = true) ∧ (bitAt
      (wordAt (entryWords (en 81 1#64 0#64 0#64 0#64)) 1) 1 = true → firmwareCommands8.isStaged 1 = true) ∧ bitAt (wordAt (entryWords (en
      81 1#64 0#64 0#64 0#64)) 1) 2 = false ∧ pairs (firmwareCommands8.nextKeeper (bitAt (wordAt (entryWords (en 81 1#64 0#64 0#64 0#64))
      1) 0)) (firmwareCommands8.nextSup (bitAt (wordAt (entryWords (en 81 1#64 0#64 0#64 0#64)) 1) 1)) = false) ∧
    ((∃ t, exec (Instr.flashOperationDone false) firmwareCommands9 = .next t) ∧ firmwareCommands9.keeper.held = none ∧
      firmwareCommands9.bit Reg.HIF_CTRL 4 0 = true ∧ firmwareCommands9.keeper.flashOp = some (FlashOp.record { : BootRec } 1 2) ∧
      firmwareCommands9.keeperNext = false ∧ false = false) ∧
    ((∃ t, exec (Instr.flashOperationDone false) firmwareCommands10 = .next t) ∧ firmwareCommands10.keeper.held = none ∧
      firmwareCommands10.bit Reg.HIF_CTRL 4 0 = true ∧ firmwareCommands10.keeper.flashOp = some (FlashOp.image 0 1 kimg 1 2) ∧ false =
      false) :=
  ⟨by decide +kernel,
    by decide +kernel,
    ⟨⟨_, rfl⟩, by decide +kernel⟩,
    by decide +kernel,
    ⟨⟨_, rfl⟩, by decide +kernel⟩,
    by decide +kernel,
    by decide +kernel,
    by decide +kernel,
    ⟨⟨_, rfl⟩, by decide +kernel⟩,
    ⟨⟨_, rfl⟩, by decide +kernel⟩⟩
theorem kimg_taken : List.take (wf (entryWords (en 80 4096#64 512#64 0#64 0#64)) 2 31 0) kimg = kimg := by decide +kernel
theorem fuse_low : firmwareCommands2.svnFuse ≤ imgSvn kimg := by decide +kernel
/-- The same under what the fuses hold: the clauses of FirmwareCommands that rest on them. -/
theorem witness_FirmwareCommands_config (hk : (Config.fusedKeyHash 0).toNat = sha384 testKey) (hr : Config.keyRevoked 0 = false) :
    imageStatus firmwareCommands2.svnFuse (imgField (List.take (wf (entryWords (en 80 4096#64 512#64 0#64 0#64)) 2 31 0) kimg) 4 1)
      (List.take (wf (entryWords (en 80 4096#64 512#64 0#64 0#64)) 2 31 0) kimg) = 0 :=
  by
  rw [kimg_taken]
  exact kimg_ok hk hr _ fuse_low
def liveUpdates1 : State := (mgmt [] {stagedK with live := some {lk with asked := true}})
def liveUpdates2 : State := (mgmt [] {stagedK with live := some {lk with asked := true, restart := true}})
def liveUpdates3 : State := (mgmt [] {stagedK with live := some {lv with kf := some 10, changed := [0,1,2]}})
def liveUpdates4 : State := { mgmt [] {stagedK with live := some lk} with quads := masterQ }
def liveUpdates5 : State := (mgmt runq {stagedK with live := some {lv with kf := some 10}})
def liveUpdates6 : State := { mgmt [] {stagedK with window' := 10, live := some lk} with quads := masterQ }
def liveUpdates7 : State := { mgmt [] {stagedK with live := some lk} with quads := [(1, {plan := some plan})] }
def liveUpdates8 : State := (mgmt runq {stagedK with live := some lv})
def liveUpdates9 : State := (mgmt runq {stagedK with live := some {lv with kf := some 11}})
/-- States and operands that meet the hypotheses of the clauses of LiveUpdates. -/
theorem witness_LiveUpdates :
    (liveUpdates1.keeper.live = some { sup := lk.sup, keeper := lk.keeper, cid := lk.cid, tag := lk.tag, kf := lk.kf, changed := lk.changed, asked := true, restart := lk.restart : LiveSt }
      ∧ { sup := lk.sup, keeper := lk.keeper, cid := lk.cid, tag := lk.tag, kf := lk.kf, changed := lk.changed, asked := true, restart := lk.restart : LiveSt }.asked
      = true ∧ { sup := lk.sup, keeper := lk.keeper, cid := lk.cid, tag := lk.tag, kf := lk.kf, changed := lk.changed, asked := true, restart := lk.restart : LiveSt }.restart
      = false ∧ liveUpdates1.bit Reg.HIF_CTRL 4 0 = true ∧ liveUpdates1.liveBlocked = false) ∧
    (liveUpdates2.keeper.live = some { sup := lk.sup, keeper := lk.keeper, cid := lk.cid, tag := lk.tag, kf := lk.kf, changed := lk.changed, asked := true, restart := true : LiveSt }
      ∧ { sup := lk.sup, keeper := lk.keeper, cid := lk.cid, tag := lk.tag, kf := lk.kf, changed := lk.changed, asked := true, restart := true : LiveSt }.restart
      = true ∧ liveUpdates2.keeper.due = []) ∧
    (liveUpdates3.keeper.live = some { sup := lv.sup, keeper := lv.keeper, cid := lv.cid, tag := lv.tag, kf := some 10, changed := [0, 1, 2], asked := lv.asked, restart := lv.restart : LiveSt }
      ∧ { sup := lv.sup, keeper := lv.keeper, cid := lv.cid, tag := lv.tag, kf := some 10, changed := [0, 1, 2], asked := lv.asked, restart := lv.restart : LiveSt }.sup
      = true ∧ { sup := lv.sup, keeper := lv.keeper, cid := lv.cid, tag := lv.tag, kf := some 10, changed := [0, 1, 2], asked := lv.asked, restart := lv.restart : LiveSt }.kf
      = some 10 ∧ { sup := lv.sup, keeper := lv.keeper, cid := lv.cid, tag := lv.tag, kf := some 10, changed := [0, 1, 2], asked := lv.asked, restart := lv.restart : LiveSt }.changed.contains
      3 = false ∧ (liveUpdates3.runs 3 = true → 10 ≤ liveUpdates3.epoch 3) ∧ (List.range 4).all ({ sup := lv.sup, keeper := lv.keeper, cid := lv.cid, tag := lv.tag, kf := some 10, changed := [0, 1, 2], asked := lv.asked, restart := lv.restart : LiveSt }.changed
      ++ [3]).contains = true) ∧
    (liveUpdates4.keeper.live = some lk ∧ (lk.keeper = true ∧ lk.sup = false ∧ lk.asked = false ∧ liveUpdates4.keeper.flashOp = none) ∧
      liveUpdates4.ownMaster = true ∧ (liveUpdates4.bit Reg.TB_SNAP_STAT 0 6 || !liveUpdates4.time.arrived.isEmpty ||
      liveUpdates4.time.release.isSome) = false ∧ liveUpdates4.keeper.window' ≤ 9 ∧ lk.restart = false ∧ liveUpdates4.liveBlocked = false ∧
      liveUpdates4.restarting = false ∧ (∃ k : Fin 4, (liveUpdates4.quad ↑k).master = true)) ∧
    (liveUpdates5.keeper.live = some { sup := lv.sup, keeper := lv.keeper, cid := lv.cid, tag := lv.tag, kf := some 10, changed := lv.changed, asked := lv.asked, restart := lv.restart : LiveSt }
      ∧ { sup := lv.sup, keeper := lv.keeper, cid := lv.cid, tag := lv.tag, kf := some 10, changed := lv.changed, asked := lv.asked, restart := lv.restart : LiveSt }.sup
      = true ∧ { sup := lv.sup, keeper := lv.keeper, cid := lv.cid, tag := lv.tag, kf := some 10, changed := lv.changed, asked := lv.asked, restart := lv.restart : LiveSt }.kf
      = some 10 ∧ { sup := lv.sup, keeper := lv.keeper, cid := lv.cid, tag := lv.tag, kf := some 10, changed := lv.changed, asked := lv.asked, restart := lv.restart : LiveSt }.changed.contains
      3 = false ∧ (liveUpdates5.runs 3 = true → 10 ≤ liveUpdates5.epoch 3) ∧ (List.range 4).all ({ sup := lv.sup, keeper := lv.keeper, cid := lv.cid, tag := lv.tag, kf := some 10, changed := lv.changed, asked := lv.asked, restart := lv.restart : LiveSt }.changed
      ++ [3]).contains = false) ∧
    (liveUpdates6.restarting = false ∧ (∃ k : Fin 4, (liveUpdates6.quad ↑k).master = true) ∧ ((liveUpdates6.bit Reg.TB_SNAP_STAT 0 6 ||
      !liveUpdates6.time.arrived.isEmpty || liveUpdates6.time.release.isSome) = true ∨ 9 < liveUpdates6.keeper.window')) ∧
    (liveUpdates7.keeper.live = some lk ∧ (lk.keeper = true ∧ lk.sup = false ∧ lk.asked = false ∧ liveUpdates7.keeper.flashOp = none) ∧
      liveUpdates7.ownMaster = false) ∧
    (liveUpdates8.keeper.live = some lv ∧ lv.sup = true ∧ lv.kf = none) ∧
    (liveUpdates9.keeper.live = some { sup := lv.sup, keeper := lv.keeper, cid := lv.cid, tag := lv.tag, kf := some 11, changed := lv.changed, asked := lv.asked, restart := lv.restart : LiveSt }
      ∧ { sup := lv.sup, keeper := lv.keeper, cid := lv.cid, tag := lv.tag, kf := some 11, changed := lv.changed, asked := lv.asked, restart := lv.restart : LiveSt }.kf
      = some 11 ∧ liveUpdates9.runs 3 = true ∧ liveUpdates9.epoch 3 < 11) :=
  ⟨by decide +kernel,
    by decide +kernel,
    by decide +kernel,
    by decide +kernel,
    by decide +kernel,
    by decide +kernel,
    by decide +kernel,
    by decide +kernel,
    by decide +kernel⟩

end Sys2Proof.Tests.Firmware

namespace Sys2Proof.Tests.Power
open Sys2Proof Sys2Proof.Machine Sys2Proof.Tests

def host (l : List (Reg × Nat × U64)) : State := regs (oneCore (withRegs {} regions)) ((.HIF_CTRL, 0, 1) :: l)
def plan : Plan := { role := 0, variants := [{ epochLen := 8192, floor := 1000 }, { epochLen := 8192, floor := 1200 }] }
def b0 (l : List (Reg × Nat × U64)) (kp : KeeperSt) (qs : Map QuadSt): State := { host l with keeper := kp, quads := qs, ports := [(3, {cordoned := true})], funcs := [(0, { sqCount := 3 })] }
def qs0 : Map QuadSt := [(0, { plan := some plan, begun := true, hbm := [(0, 5)] }), (1, { hbm := [(1, 5)] })]
def gv (l : List (Reg × Nat × U64)) (p : PowerSt) : State := { host l with power := p }
def allT (x : Nat) : List (Reg × Nat × U64) := (List.range 64).map (fun n => (Reg.PWR_TEMP, n, BitVec.ofNat 64 (0x100000000 + x)))
def t1 := (gv [] {}).throttleAt 0

def lowPowerAndFaults1 : State := (b0 [(.PWR_LP_STAT, 0, 15), (.LNK_CTRL, 3, 1), (.LNK_STATE, 3, 5)] {} [(0, {asleep := true}),(1, {asleep := true}),(2,
  {asleep := true}),(3, {asleep := true})])
def lowPowerAndFaults2 : State := (b0 [(.QD_VARIANT, 0, 8)] {flashOp := some (.record {} 1 2)} qs0)
def lowPowerAndFaults3 : State := (b0 [(.PWR_LP_STAT, 0, 31), (.LNK_CTRL, 3, 1), (.LNK_STATE, 3, 5)] {} [(0, {asleep := true}),(1, {asleep := true}),(2,
  {asleep := true}),(3, {asleep := true})])
def lowPowerAndFaults8 : State := (b0 [(.QD_VARIANT, 0, 8), (.LNK_CTRL, 3, 1), (.LNK_STATE, 3, 5)] {} qs0)
/-- States and operands that meet the hypotheses of the clauses of LowPowerAndFaults. -/
theorem witness_LowPowerAndFaults :
    ((lowPowerAndFaults1.quad 1).asleep = true ∧ lowPowerAndFaults1.bit Reg.PWR_LP_STAT 0 4 = false ∧ 8 * 1 + 1 ∈ sleepDomains 1 ∧ 8 * 1 +
      3 ∈ sleepDomains 1 ∧ 8 * 1 + 4 ∈ sleepDomains 1 ∧ 8 * 1 + 5 ∈ sleepDomains 1 ∧ 8 * 1 + 6 ∈ sleepDomains 1 ∧ 8 * 1 + 7 ∈ sleepDomains
      1 ∧ (∀ (k : Fin 4), (lowPowerAndFaults1.quad ↑k).asleep = true) ∧ 8 * 0 + 1 ∈ deepDomains ∧ 8 * 0 + 4 ∈ deepDomains ∧ 8 * 0 + 5 ∈
      deepDomains ∧ 8 * 0 + 6 ∈ deepDomains ∧ 8 * 0 + 7 ∈ deepDomains ∧ 8 * 1 + 1 ∈ deepDomains ∧ 8 * 1 + 4 ∈ deepDomains ∧ 8 * 1 + 5 ∈
      deepDomains ∧ 8 * 1 + 6 ∈ deepDomains ∧ 8 * 1 + 7 ∈ deepDomains ∧ 8 * 2 + 1 ∈ deepDomains ∧ 8 * 2 + 4 ∈ deepDomains ∧ (6201 < 3800 ∨
      6200 < 6201) ∧ lowPowerAndFaults1.keeper.flashOp = none ∧ Map.wf lowPowerAndFaults1.regs = true ∧ 34 = 34) ∧
    ((lowPowerAndFaults2.quad 1).asleep = false ∧ (lowPowerAndFaults2.runs 1 || lowPowerAndFaults2.bit Reg.ING_STAT 1 0) = false ∧ 8 * 1 +
      1 ∈ sleepDomains 1 ∧ 8 * 1 + 3 ∈ sleepDomains 1 ∧ 8 * 1 + 4 ∈ sleepDomains 1 ∧ 8 * 1 + 5 ∈ sleepDomains 1 ∧ 8 * 1 + 6 ∈ sleepDomains
      1 ∧ 8 * 1 + 7 ∈ sleepDomains 1 ∧ ((lowPowerAndFaults2.quad 1).asleep = false ∨ lowPowerAndFaults2.bit Reg.PWR_LP_STAT 0 4 = true) ∧
      lowPowerAndFaults2.bit Reg.PWR_LP_STAT 0 4 = false ∧ 8 < 32 ∧ lowPowerAndFaults2.restarting = false ∧ Map.wf lowPowerAndFaults2.regs
      = true ∧ 8 % 8 = 0) ∧
    (lowPowerAndFaults3.bit Reg.PWR_LP_STAT 0 4 = true ∧ 33 = 33 ∧ lowPowerAndFaults3.keeper.flashOp = none ∧ Map.wf
      lowPowerAndFaults3.regs = true) ∧
    ((3800 ≤ 6200 ∧ 6200 ≤ 6200) ∧ 35 ≤ 35 ∧ 35 ≤ 37 ∧ 3 / 4 = 35 - 35) ∧
    (38 = 38) ∧
    (39 = 39) ∧
    (32 = 32) ∧
    ((lowPowerAndFaults8.quad 0).asleep = false ∧ (lowPowerAndFaults8.runs 0 || lowPowerAndFaults8.bit Reg.ING_STAT 0 0) = true) :=
  ⟨by decide +kernel,
    by decide +kernel,
    by decide +kernel,
    by decide +kernel,
    by decide +kernel,
    by decide +kernel,
    by decide +kernel,
    by decide +kernel⟩
def currentAndCeiling1 : State := (gv [] {})
def currentAndCeiling2 : State := (gv [(.PWR_GOV_CFG, 0, 0)] {current := 400000, ballast := 5})
def currentAndCeiling3 : State := (gv [(.PWR_GOV_CFG, 0, 1)] {current := 400000, calm := 99, back := 3})
def currentAndCeiling4 : State := (gv [(.PWR_GOV_CFG, 0, 1), (.PWR_CEIL, 0, 1000)] {current := 400000, calm := 98, back := 40, ceil := 40, below := 9})
def currentAndCeiling5 : State := (gv [(.PWR_GOV_CFG, 0, 1), (.PWR_CEIL, 0, 1000)] {current := 0, calm := 98, back := 40, ceil := 40, below := 9})
/-- States and operands that meet the hypotheses of the clauses of CurrentAndCeiling. -/
theorem witness_CurrentAndCeiling :
    (currentAndCeiling1.bit Reg.PWR_GOV_CFG 0 0 = true ∧ currentAndCeiling1.power.target = 0 ∧ currentAndCeiling1.power.current +
      currentAndCeiling1.slew < 500000 ∧ 3899 < 3900 ∧ currentAndCeiling1.ceiling < 4000) ∧
    (currentAndCeiling2.bit Reg.PWR_GOV_CFG 0 0 = false ∧ ¬currentAndCeiling2.power.current + currentAndCeiling2.slew < 100 ∧
      currentAndCeiling2.power.calm + 1 ≠ 100 ∧ 6100 < 6101 ∧ 0 ≤ currentAndCeiling2.ceiling ∧ 100 * 0 < 95 * currentAndCeiling2.ceiling ∧
      currentAndCeiling2.power.below + 1 < 10) ∧
    (¬currentAndCeiling3.power.current + currentAndCeiling3.slew < 100 ∧ currentAndCeiling3.power.calm + 1 = 100) ∧
    (949 ≤ currentAndCeiling4.ceiling ∧ 100 * 949 < 95 * currentAndCeiling4.ceiling ∧ 10 ≤ currentAndCeiling4.power.below + 1) ∧
    (950 ≤ currentAndCeiling5.ceiling ∧ 95 * currentAndCeiling5.ceiling ≤ 100 * 950) :=
  ⟨by decide +kernel,
    by decide +kernel,
    by decide +kernel,
    by decide +kernel,
    by decide +kernel⟩
def thermal1 : State := (gv (allT 0x7000) {tripped := true})
def thermal2 : State := (gv [] {hot := [0]})
def thermal3 : State := (gv [(.PWR_TEMP, 60, 0x100001000), (.PWR_TEMP, 61, 0x100001000), (.PWR_TEMP, 62, 0x100001000), (.PWR_TEMP, 63,
  0x100001000)] {tripped := true})
def thermal4 : State := (gv (allT 0x1000) {tripped := true, caps := [(20, 0)]})
def thermal5 : State := (gv (allT 0x7000) {tripped := true, caps := [(20, 0)]})
def thermal6 : State := (gv (allT 0x1000) {tripped := true})
def thermal7 : State := (gv (allT ((t1.getD 0 - 1).toNat)) {tripped := true, caps := [(0, 7)]})
/-- States and operands that meet the hypotheses of the clauses of Thermal. -/
theorem witness_Thermal :
    ((20480#16).toInt < tripAt 60 ∧ (∃ d, d ∈ [60, 61, 62, 63] ∧ ¬(thermal1.bit Reg.PWR_TEMP d 32 = true ∧ thermal1.temp d < 80 * 256)) ∧
      (List.filter (fun n => thermal1.bit Reg.PWR_TEMP n 32) (scopeSensors 20) ≠ []) ∧ (((List.filter (fun n => thermal1.bit Reg.PWR_TEMP n
      32) (scopeSensors 20)).any fun n => Option.any (fun l => decide (l - 0 ≤ thermal1.temp n)) (thermal1.throttleAt n)) = true) ∧ 0 <
      thermal1.power.caps.get 20 40) ∧
    (tripAt 0 ≤ (28672#16).toInt ∧ thermal2.power.hot.contains 0 = true ∧ thermal2.keeper.flashOp = none ∧ Map.wf thermal2.regs = true ∧
      (List.filter (fun n => thermal2.bit Reg.PWR_TEMP n 32) (scopeSensors 16) = [])) ∧
    (tripAt 60 ≤ (28672#16).toInt ∧ thermal3.power.hot.contains 60 = false ∧ (∀ (d : Nat), d ∈ [60, 61, 62, 63] → thermal3.bit Reg.PWR_TEMP
      d 32 = true ∧ thermal3.temp d < 80 * 256)) ∧
    ((List.filter (fun n => thermal4.bit Reg.PWR_TEMP n 32) (scopeSensors 20) ≠ []) ∧ (((List.filter (fun n => thermal4.bit Reg.PWR_TEMP n
      32) (scopeSensors 20)).any fun n => Option.any (fun l => decide (l - 3 * 256 ≤ thermal4.temp n)) (thermal4.throttleAt n)) = false) ∧
      (((List.filter (fun n => thermal4.bit Reg.PWR_TEMP n 32) (scopeSensors 20)).any fun n => Option.any (fun l => decide (l - 0 ≤
      thermal4.temp n)) (thermal4.throttleAt n)) = false) ∧ thermal4.power.caps.get 20 40 ≠ 40) ∧
    ((List.filter (fun n => thermal5.bit Reg.PWR_TEMP n 32) (scopeSensors 20) ≠ []) ∧ (((List.filter (fun n => thermal5.bit Reg.PWR_TEMP n
      32) (scopeSensors 20)).any fun n => Option.any (fun l => decide (l - 0 ≤ thermal5.temp n)) (thermal5.throttleAt n)) = true) ∧
      thermal5.power.caps.get 20 40 = 0) ∧
    ((List.filter (fun n => thermal6.bit Reg.PWR_TEMP n 32) (scopeSensors 20) ≠ []) ∧ (((List.filter (fun n => thermal6.bit Reg.PWR_TEMP n
      32) (scopeSensors 20)).any fun n => Option.any (fun l => decide (l - 3 * 256 ≤ thermal6.temp n)) (thermal6.throttleAt n)) = false) ∧
      (((List.filter (fun n => thermal6.bit Reg.PWR_TEMP n 32) (scopeSensors 20)).any fun n => Option.any (fun l => decide (l - 0 ≤
      thermal6.temp n)) (thermal6.throttleAt n)) = false) ∧ thermal6.power.caps.get 20 40 = 40) ∧
    ((List.filter (fun n => thermal7.bit Reg.PWR_TEMP n 32) (scopeSensors 0) ≠ []) ∧ (((List.filter (fun n => thermal7.bit Reg.PWR_TEMP n
      32) (scopeSensors 0)).any fun n => Option.any (fun l => decide (l - 0 ≤ thermal7.temp n)) (thermal7.throttleAt n)) = false) ∧
      (((List.filter (fun n => thermal7.bit Reg.PWR_TEMP n 32) (scopeSensors 0)).any fun n => Option.any (fun l => decide (l - 3 * 256 ≤
      thermal7.temp n)) (thermal7.throttleAt n)) = true)) :=
  ⟨by decide +kernel,
    by decide +kernel,
    by decide +kernel,
    by decide +kernel,
    by decide +kernel,
    by decide +kernel,
    by decide +kernel⟩

end Sys2Proof.Tests.Power

namespace Sys2Proof.Tests.Trace
open Sys2Proof Sys2Proof.Machine Sys2Proof.Tests

def host (l : List (Reg × Nat × U64)) : State := regs (oneCore (withRegs {} regions)) ((.HIF_CTRL, 0, 1) :: l)
def en (op : Nat) (w1 : U64) (w2 : U64 := 0) (w3 : U64 := 0) (w4 : U64 := 0): Entry := ⟨BitVec.ofNat 64 (op + 0x2200050000), w1, w2, w3, w4, 0, 0, 0⟩
def plan : Plan := { role := 0, variants := [{ epochLen := 8192, floor := 1000 }, { epochLen := 8192, floor := 1200 }] }
def dbgBlk : List Byte := beBytes 128
  0x4d00000000000000e803000000000000020300000000000000000000000000008aac1db4c5951f63215f8d4b8f60f0adcb5efbc4a63c4c6a758da16cce83df1f0cbeb7979825569755afb3b7f3197bed89b18f217f3330f301896ad21dc0c27b9093cb5c6d2a2fcb9a1449ab4638209a56f558ecaa521b7a634a839134955e82
def tr (l : List (Reg × Nat × U64)) (x : TraceSt) : State := { host ((.HIF_CTRL, 4, 1) :: l) with trace := x }
def fullMem : TraceMem := { ents := [{ words := List.replicate (131072 * 4) 0 }] }
def ectl : U64 := 0x7F80_7FC1
def e1 : TraceEnt := { words := [0x100, 5, 6, 7] }
def g0 : TelRing := { base := 0x1000, size := 64, consAddr := 0x5000, written := 64, consumed := 3 }
def d0 : DumpSt := { fn := 0, cid := 5, tag := 0x22, quad := 0, addr := 0x2000, symbol := 3, slot := none, step := 4, stable := true }
def tens : List Byte := [0, 0, 0, 0] ++ leBytes 4 3 ++ [1, 0xFF] ++ List.replicate 22 0
def piece : List Byte := [1, 0, 4, 0] ++ leBytes 4 3 ++ leBytes 8 0x100 ++ leBytes 4 64 ++ List.replicate 12 0
def pl : Plan := { plan with symbols := [tens, piece] }
def ds (l : List (Reg × Nat × U64)) (x : TraceSt) (p : Option Plan := some pl) : State := { tr ([(.QD_VARIANT, 0, 8), (.QD_EPOCH_INDEX, 0, 4)] ++ l) x with quads := [(0, { plan := p, begun := true })] }
def h0 : HangSt := { cmd := some (1, 2), addr := 0x1000, asked := [(9, 1)] }
def dk : KeeperSt := { flash := { install := { c0 := some (1, { debugKey := testKey }) } } }
def dbS (l : List (Reg × Nat × U64)) (t : TapSt := {}): State := { tr ((.KPR_FACTORY_ID, 0, 77) :: l) {nonce := some 1000} with keeper := dk, tap := t }

def echoTrace1 : State := (tr [(.ECHO_CTRL, 0, ectl)] {})
def echoTrace2 : State := (tr [(.ECHO_CTRL, 0, ectl), (.ECHO_STAT, 0, 1)] {mems := [(1, {ents := [e1]})]})
def echoTrace3 : State := (tr [(.ECHO_CTRL, 0, ectl), (.ECHO_STAT, 0, 2), (.ECHO_TRIG_AT, 0, 50)] {mems := [(1, {ents := [e1], marked := true, drops := [(3, (1, 2))]})]})
def echoTrace4 : State := (tr [(.ECHO_CTRL, 0, ectl + 2)] {mems := [(1, fullMem)]})
def echoTrace5 : State := (tr [(.ECHO_CTRL, 0, ectl+2), (.ECHO_STAT, 0, 0)] {mems := [(1, {ents := [e1]})]})
/-- A memory whose one record fills every place takes no other in stream mode. -/
theorem placesIn_one (ws : List U64) (k : Bool) : placesIn [{ words := ws, keep := k }] = ws.length / 4 := by
  simp [placesIn, TraceEnt.places]
theorem full_used : fullMem.used = 131072 := by
  rw [show fullMem.used = placesIn [{ words := List.replicate (131072 * 4) 0, keep := false }] from rfl, placesIn_one, List.length_replicate]
theorem full_put : (echoTrace4.mem 1).put echoTrace4.streaming [putBits (7#64) 9 8 1, 100#64, 3#64, 9#64] = none := by
  have hs : echoTrace4.streaming = true := by decide +kernel
  have h : echoTrace4.mem 1 = fullMem := rfl
  have hm : fullMem.marked = false := rfl
  rw [hs, h]
  unfold TraceMem.put
  simp only [hm, full_used, TraceEnt.places, tracePlaces, if_true]
  rw [if_neg (by decide)]
/-- States and operands that meet the hypotheses of the clauses of EchoTrace. -/
theorem witness_EchoTrace :
    ((echoTrace1.captures 1 && echoTrace1.traceSelects (bitsOf (putBits (7#64) 9 8 1) 7 0) (bitsOf (putBits (7#64) 9 8 1) 17 10) &&
      !(echoTrace1.mem 1).closed && !((echoTrace1.mem 1).marked && decide (echoTrace1.traceEnd < 100))) = true ∧ 6 ≤ bitsOf (putBits (7#64)
      9 8 1) 7 0 ∧ (echoTrace1.mem 1).drops = [] ∧ echoTrace1.traceMatches (putBits (7#64) 9 8 1) 3#64 = false ∧ (echoTrace1.mem 1).put
      echoTrace1.streaming [putBits (7#64) 9 8 1, 100#64, 3#64, 9#64] = some { ents := [{ words := [263#64, 100#64, 3#64, 9#64] : TraceEnt }] : TraceMem }
      ∧ echoTrace1.bit Reg.ECHO_STAT 0 0 = false ∧ (echoTrace1.bit Reg.ECHO_STAT 0 1 = false ∨ 2000 < echoTrace1.traceEnd) ∧ echoTrace1.bit
      Reg.ECHO_CTRL 0 0 = true ∧ echoTrace1.power.lost.contains 39 = false ∧ echoTrace1.nextFrame 0 = none) ∧
    (echoTrace2.bit Reg.ECHO_STAT 0 0 = true ∧ echoTrace2.frozen 1 = false) ∧
    ((echoTrace3.captures 1 && echoTrace3.traceSelects (bitsOf (putBits (7#64) 9 8 1) 7 0) (bitsOf (putBits (7#64) 9 8 1) 17 10) &&
      !(echoTrace3.mem 1).closed && !((echoTrace3.mem 1).marked && decide (echoTrace3.traceEnd < 100))) = false ∧ echoTrace3.bit
      Reg.ECHO_STAT 0 1 = true ∧ echoTrace3.traceEnd ≤ 2000 ∧ (echoTrace3.mem 1).marked = true ∧ (echoTrace3.mem 1).closed = false ∧
      echoTrace3.streaming = false) ∧
    ((echoTrace4.mem 1).put echoTrace4.streaming [putBits (7#64) 9 8 1, 100#64, 3#64, 9#64] = none ∧ (echoTrace4.captures 1 &&
      echoTrace4.traceSelects (bitsOf (putBits (7#64) 9 8 1) 7 0) (bitsOf (putBits (7#64) 9 8 1) 17 10) && !(echoTrace4.mem 1).closed &&
      !((echoTrace4.mem 1).marked && decide (echoTrace4.traceEnd < 100))) = true ∧ (echoTrace4.mem 1).drops = [] ∧ echoTrace4.traceMatches
      (putBits (7#64) 9 8 1) 3#64 = false) ∧
    (echoTrace5.bit Reg.ECHO_CTRL 0 0 = true ∧ echoTrace5.power.lost.contains 39 = false ∧ echoTrace5.nextFrame 2 = some 1) :=
  ⟨by decide +kernel,
    by decide +kernel,
    by decide +kernel,
    ⟨full_put, by decide +kernel⟩,
    by decide +kernel⟩
def telemetryAndTraceRead1 : State := (tr [(.TEL_CFG, 0, 2)] {tel := some g0})
def telemetryAndTraceRead2 : State := (tr [(.TEL_CFG, 0, 0)] {tel := some g0})
def telemetryAndTraceRead3 : State := (tr [(.TEL_CFG, 0, 0), (.ECHO_STAT, 0, 0x3C)] {mems := [(1, {ents := [e1]})]})
/-- States and operands that meet the hypotheses of the clauses of TelemetryAndTraceRead. -/
theorem witness_TelemetryAndTraceRead :
    (telemetryAndTraceRead1.fld Reg.TEL_CFG 0 15 0 * 1024 ≠ 0 ∧ 4096 % (telemetryAndTraceRead1.fld Reg.TEL_CFG 0 15 0 * 1024) = 0 ∧
      telemetryAndTraceRead1.fld Reg.TEL_CFG 0 21 17 = 0 ∧ telemetryAndTraceRead1.bit Reg.TEL_CFG 0 16 = false ∧
      telemetryAndTraceRead1.trace.lost = 0 ∧ telemetryAndTraceRead1.trace.tel = some g0 ∧ g0.written - g0.consumed < g0.size ∧ placesOf
      (entryWords (en 96 4096#64 64#64 8#64 0#64)) = 1 ∧ (1 ≤ (telemetryAndTraceRead1.func 4).placesFree) ∧ telemetryAndTraceRead1.bit
      Reg.HIF_CTRL 4 0 = true ∧ cmdOk (entryWords (en 96 4096#64 64#64 8#64 0#64)) [2 ^ 64 - 1, 2 ^ 17 - 1, 2 ^ 64 - 1] = true ∧ ringSizeOk
      (wf (entryWords (en 96 4096#64 64#64 8#64 0#64)) 2 16 0) = true ∧ wf (entryWords (en 96 4096#64 64#64 8#64 0#64)) 1 11 0 = 0 ∧ wf
      (entryWords (en 96 4096#64 64#64 8#64 0#64)) 3 2 0 = 0) ∧
    ((telemetryAndTraceRead2.fld Reg.TEL_CFG 0 15 0 * 1024 = 0 ∨ 4097 % (telemetryAndTraceRead2.fld Reg.TEL_CFG 0 15 0 * 1024) ≠ 0) ∧
      placesOf (entryWords (en 97 1#64 4096#64 8192#64 0#64)) = 1 ∧ (1 ≤ (telemetryAndTraceRead2.func 4).placesFree) ∧
      telemetryAndTraceRead2.bit Reg.HIF_CTRL 4 0 = true ∧ cmdOk (entryWords (en 97 1#64 4096#64 8192#64 0#64)) [2 ^ 64 - 1, 2 ^ 17 - 1, 2
      ^ 64 - 1] = true ∧ (ringSizeOk (wf (entryWords (en 97 1#64 4096#64 8192#64 0#64)) 2 16 0) = false ∨ wf (entryWords (en 97 1#64
      4096#64 8192#64 0#64)) 1 11 0 ≠ 0 ∨ wf (entryWords (en 97 1#64 4096#64 8192#64 0#64)) 3 2 0 ≠ 0) ∧ cmdOk (entryWords (en 97 1#64
      4096#64 8192#64 0#64)) [3, 2 ^ 64 - 1, 2 ^ 32 - 1] = true ∧ wf (entryWords (en 97 1#64 4096#64 8192#64 0#64)) 2 11 0 = 0 ∧
      telemetryAndTraceRead2.frozen (wf (entryWords (en 97 1#64 4096#64 8192#64 0#64)) 1 1 0) = false) ∧
    (placesOf (entryWords (en 97 1#64 4096#64 8192#64 0#64)) = 1 ∧ (1 ≤ (telemetryAndTraceRead3.func 4).placesFree) ∧
      telemetryAndTraceRead3.bit Reg.HIF_CTRL 4 0 = true ∧ cmdOk (entryWords (en 97 1#64 4096#64 8192#64 0#64)) [3, 2 ^ 64 - 1, 2 ^ 32 - 1]
      = true ∧ wf (entryWords (en 97 1#64 4096#64 8192#64 0#64)) 2 11 0 = 0 ∧ telemetryAndTraceRead3.frozen (wf (entryWords (en 97 1#64
      4096#64 8192#64 0#64)) 1 1 0) = true) :=
  ⟨by decide +kernel,
    by decide +kernel,
    by decide +kernel⟩
def dumpsAndHangs1 : State := (ds [] {dump := some d0} none)
def dumpsAndHangs2 : State := (ds [] {hang := some h0})
def dumpsAndHangs3 : State := { ds [] {} with keeper := { live := some { sup := false, keeper := true, cid := 1, tag := 2, restart := true } } }
def dumpsAndHangs4 : State := (ds [] {})
def dumpsAndHangs5 : State := (ds [] {} none)
def dumpsAndHangs6 : State := (ds [] {})
def dumpsAndHangs7 : State := (ds [] {dump := some {d0 with copying := true}})
/-- States and operands that meet the hypotheses of the clauses of DumpsAndHangs. -/
theorem witness_DumpsAndHangs :
    ((placesOf (entryWords (en 38 3#64 4#64 16384#64 1000#64)) = 1 ∧ 1 ≤ (dumpsAndHangs1.func 0).placesFree ∧ dumpsAndHangs1.bit
      Reg.HIF_CTRL 0 0 = true) ∧ cmdOk (entryWords (en 38 3#64 4#64 16384#64 1000#64)) [2 ^ 42 - 1, 2 ^ 64 - 1, 2 ^ 64 - 1, 2 ^ 32 - 1] =
      true ∧ 0 < 4 ∧ wf (entryWords (en 38 3#64 4#64 16384#64 1000#64)) 1 41 40 = 0 ∧ dumpsAndHangs1.trace.dump.isSome = true ∧
      dumpsAndHangs1.trace.dump = some d0 ∧ d0.stable = true ∧ dumpsAndHangs1.bit Reg.HIF_CTRL d0.fn 0 = true ∧ (dumpsAndHangs1.quad
      d0.quad).plan = none ∧ dumpsAndHangs1.restarting = false ∧ dumpsAndHangs1.trace.hang = none) ∧
    (dumpsAndHangs2.trace.dump = none ∧ (placesOf (entryWords (en 98 4096#64 256#64 0#64 0#64)) = 1 ∧ 1 ≤ (dumpsAndHangs2.func
      4).placesFree ∧ dumpsAndHangs2.bit Reg.HIF_CTRL 4 0 = true) ∧ cmdOk (entryWords (en 98 4096#64 256#64 0#64 0#64)) [2 ^ 64 - 1, 2 ^ 25
      - 1] = true ∧ wf (entryWords (en 98 4096#64 256#64 0#64 0#64)) 1 5 0 = 0 ∧ dumpsAndHangs2.trace.hang.isSome = true ∧
      dumpsAndHangs2.trace.hang = some h0 ∧ h0.asked = [(9, 1)] ∧ h0.cmd = some (1, 2) ∧ dumpsAndHangs2.bit Reg.HIF_CTRL 4 0 = true ∧
      ((none : Option (List Byte)) = none ∨ (none : Option (List Byte)) = some [])) ∧
    ((placesOf (entryWords (en 98 4096#64 256#64 0#64 0#64)) = 1 ∧ 1 ≤ (dumpsAndHangs3.func 4).placesFree ∧ dumpsAndHangs3.bit Reg.HIF_CTRL
      4 0 = true) ∧ cmdOk (entryWords (en 98 4096#64 256#64 0#64 0#64)) [2 ^ 64 - 1, 2 ^ 25 - 1] = true ∧ wf (entryWords (en 98 4096#64
      256#64 0#64 0#64)) 1 5 0 = 0 ∧ dumpsAndHangs3.trace.hang = none ∧ bitAt (wordAt (entryWords (en 98 4096#64 256#64 0#64 0#64)) 2) 24 =
      false ∧ (∀ (x : List U64), x ∈ (dumpsAndHangs3.at' 77).hangEdges → edgeTo x % 2 ^ 20 = (dumpsAndHangs3.at' 77).globalId) ∧
      dumpsAndHangs3.restarting = true) ∧
    ((placesOf (entryWords (en 38 3#64 4#64 16384#64 1000#64)) = 1 ∧ 1 ≤ (dumpsAndHangs4.func 0).placesFree ∧ dumpsAndHangs4.bit
      Reg.HIF_CTRL 0 0 = true) ∧ cmdOk (entryWords (en 38 3#64 4#64 16384#64 1000#64)) [2 ^ 42 - 1, 2 ^ 64 - 1, 2 ^ 64 - 1, 2 ^ 32 - 1] =
      true ∧ 0 < 4 ∧ wf (entryWords (en 38 3#64 4#64 16384#64 1000#64)) 1 41 40 = 0 ∧ dumpsAndHangs4.trace.dump = none ∧ wf (entryWords (en
      38 3#64 4#64 16384#64 1000#64)) 3 11 0 = 0 ∧ (dumpsAndHangs4.quad (wf (entryWords (en 38 3#64 4#64 16384#64 1000#64)) 1 41 40)).plan
      = some pl ∧ (List.find? (fun e => isTensor e (wf (entryWords (en 38 3#64 4#64 16384#64 1000#64)) 1 31 0)) pl.symbols = some tens) ∧
      bytesAt tens 8 1 % 2 = 1 ∧ dumpsAndHangs4.runs (wf (entryWords (en 38 3#64 4#64 16384#64 1000#64)) 1 41 40) = true ∧ bitAt (wordAt
      (entryWords (en 38 3#64 4#64 16384#64 1000#64)) 1) 39 = false ∧ dumpsAndHangs4.epoch (wf (entryWords (en 38 3#64 4#64 16384#64
      1000#64)) 1 41 40) ≤ BitVec.toNat (wordAt (entryWords (en 38 3#64 4#64 16384#64 1000#64)) 2) ∧ dumpSize (pl.pieces (wf (entryWords
      (en 38 3#64 4#64 16384#64 1000#64)) 1 31 0)) ≤ wf (entryWords (en 38 3#64 4#64 16384#64 1000#64)) 4 31 0) ∧
    ((placesOf (entryWords (en 38 3#64 4#64 16384#64 1000#64)) = 1 ∧ 1 ≤ (dumpsAndHangs5.func 0).placesFree ∧ dumpsAndHangs5.bit
      Reg.HIF_CTRL 0 0 = true) ∧ cmdOk (entryWords (en 38 3#64 4#64 16384#64 1000#64)) [2 ^ 42 - 1, 2 ^ 64 - 1, 2 ^ 64 - 1, 2 ^ 32 - 1] =
      true ∧ 0 < 4 ∧ wf (entryWords (en 38 3#64 4#64 16384#64 1000#64)) 1 41 40 = 0 ∧ dumpsAndHangs5.trace.dump = none ∧ wf (entryWords (en
      38 3#64 4#64 16384#64 1000#64)) 3 11 0 = 0 ∧ (dumpsAndHangs5.quad (wf (entryWords (en 38 3#64 4#64 16384#64 1000#64)) 1 41 40)).plan
      = none) ∧
    ((placesOf (entryWords (en 98 4097#64 256#64 0#64 0#64)) = 1 ∧ 1 ≤ (dumpsAndHangs6.func 4).placesFree ∧ dumpsAndHangs6.bit Reg.HIF_CTRL
      4 0 = true) ∧ cmdOk (entryWords (en 98 4097#64 256#64 0#64 0#64)) [2 ^ 64 - 1, 2 ^ 25 - 1] = true ∧ wf (entryWords (en 98 4097#64
      256#64 0#64 0#64)) 1 5 0 ≠ 0) ∧
    (dumpsAndHangs7.trace.dump = some { fn := d0.fn, cid := d0.cid, tag := d0.tag, quad := d0.quad, addr := d0.addr, symbol := d0.symbol, slot := d0.slot, step := d0.step, stable := d0.stable, back := d0.back, copying := true : DumpSt }
      ∧ { fn := d0.fn, cid := d0.cid, tag := d0.tag, quad := d0.quad, addr := d0.addr, symbol := d0.symbol, slot := d0.slot, step := d0.step, stable := d0.stable, back := d0.back, copying := true : DumpSt }.stable
      = true ∧ dumpsAndHangs7.bit Reg.HIF_CTRL { fn := d0.fn, cid := d0.cid, tag := d0.tag, quad := d0.quad, addr := d0.addr, symbol := d0.symbol, slot := d0.slot, step := d0.step, stable := d0.stable, back := d0.back, copying := true : DumpSt }.fn
      0 = true ∧ (dumpsAndHangs7.quad { fn := d0.fn, cid := d0.cid, tag := d0.tag, quad := d0.quad, addr := d0.addr, symbol := d0.symbol, slot := d0.slot, step := d0.step, stable := d0.stable, back := d0.back, copying := true : DumpSt }.quad).plan
      = some pl ∧ { fn := d0.fn, cid := d0.cid, tag := d0.tag, quad := d0.quad, addr := d0.addr, symbol := d0.symbol, slot := d0.slot, step := d0.step, stable := d0.stable, back := d0.back, copying := true : DumpSt }.copying
      = true) :=
  ⟨by decide +kernel,
    by decide +kernel,
    by decide +kernel,
    by decide +kernel,
    by decide +kernel,
    by decide +kernel,
    by decide +kernel⟩
def debugAccess1 : State := (dbS [] {state := .shiftIr, shift := []})
def debugAccess2 : State := (dbS [])
def debugAccess3 : State := (dbS [(.SEC_DBG_STAT, 0, 2)] {state := .updateIr, shift := [true]})
def debugAccess4 : State := { dbS [] with keeper := {powered := false} }
def debugAccess5 : State := (dbS [] {state := .updateIr, shift := [true]})
/-- States and operands that meet the hypotheses of the clauses of DebugAccess. -/
theorem witness_DebugAccess :
    (placesOf (entryWords (en 100 0#64 0#64 0#64 0#64)) = 1 ∧ (1 ≤ (debugAccess1.func 4).placesFree) ∧ debugAccess1.bit Reg.HIF_CTRL 4 0 =
      true ∧ cmdOk (entryWords (en 100 0#64 0#64 0#64 0#64)) [2 ^ 64 - 1] = true ∧ (¬([1#8, 2#8].length = 128 ∧ ofLe (List.take 8
      (List.drop 0 [1#8, 2#8])) = BitVec.toNat (debugAccess1.reg Reg.KPR_FACTORY_ID 0) ∧ debugAccess1.trace.nonce = some (ofLe (List.take 8
      (List.drop 8 [1#8, 2#8]))) ∧ 1 ≤ ofLe (List.take 1 (List.drop 16 [1#8, 2#8])) ∧ ofLe (List.take 1 (List.drop 16 [1#8, 2#8])) ≤ 2 ∧
      ofLe (List.take 1 (List.drop 17 [1#8, 2#8])) < 16 ∧ List.take 14 (List.drop 18 [1#8, 2#8]) = List.replicate 14 0#8 ∧ ecdsaOk
      ((Option.map (fun x => x.debugKey) debugAccess1.keeper.flash.install.use).getD []) (List.drop 32 [1#8, 2#8]) (sha384 (List.take 32
      [1#8, 2#8])) = true)) ∧ cmdOk (entryWords (en 100 0#64 0#64 0#64 0#64)) [] = true ∧ debugAccess1.phys 0 = some 0 ∧
      debugAccess1.keeper.powered = true ∧ (debugAccess1.tap.state = TapState.shiftDr ∨ debugAccess1.tap.state = TapState.shiftIr)) ∧
    (placesOf (entryWords (en 99 4096#64 0#64 0#64 0#64)) = 1 ∧ (1 ≤ (debugAccess2.func 4).placesFree) ∧ debugAccess2.bit Reg.HIF_CTRL 4 0
      = true ∧ cmdOk (entryWords (en 99 4096#64 0#64 0#64 0#64)) [2 ^ 64 - 1] = true ∧ (dbgBlk.length = 128 ∧ ofLe (List.take 8 (List.drop
      0 dbgBlk)) = BitVec.toNat (debugAccess2.reg Reg.KPR_FACTORY_ID 0) ∧ debugAccess2.trace.nonce = some (ofLe (List.take 8 (List.drop 8
      dbgBlk))) ∧ 1 ≤ ofLe (List.take 1 (List.drop 16 dbgBlk)) ∧ ofLe (List.take 1 (List.drop 16 dbgBlk)) ≤ 2 ∧ ofLe (List.take 1
      (List.drop 17 dbgBlk)) < 16 ∧ List.take 14 (List.drop 18 dbgBlk) = List.replicate 14 0#8 ∧ ecdsaOk ((Option.map (fun x => x.debugKey)
      debugAccess2.keeper.flash.install.use).getD []) (List.drop 32 dbgBlk) (sha384 (List.take 32 dbgBlk)) = true) ∧
      debugAccess2.keeper.powered = true ∧ debugAccess2.tap.state.next true = TapState.reset ∧ debugAccess2.tap.state ≠ TapState.shiftDr ∧
      debugAccess2.tap.state ≠ TapState.shiftIr ∧ 100 ≤ 100) ∧
    ((Config.tapBoundary debugAccess3.tap.shift = true ∨ 2 ≤ debugAccess3.fld Reg.SEC_DBG_STAT 0 1 0) ∧ debugAccess3.keeper.powered = true
      ∧ debugAccess3.tap.state = TapState.updateIr) ∧
    (debugAccess4.keeper.powered = false) ∧
    (debugAccess5.keeper.powered = true ∧ debugAccess5.tap.state = TapState.updateIr ∧ debugAccess5.fld Reg.SEC_DBG_STAT 0 1 0 < 2) :=
  ⟨by decide +kernel,
    by decide +kernel,
    ⟨.inr (by decide +kernel), by decide +kernel⟩,
    by decide +kernel,
    by decide +kernel⟩
/-- The same under what the fuses hold: the clauses of DebugAccess that rest on them. -/
theorem witness_DebugAccess_config (hb : Config.tapBoundary [true] = false) :
    Config.tapBoundary debugAccess5.tap.shift = false :=
  hb

end Sys2Proof.Tests.Trace

namespace Sys2Proof.Tests.Plans
open Sys2Proof Sys2Proof.Machine Sys2Proof.Tests

def host (l : List (Reg × Nat × U64)) : State := regs (oneCore (withRegs {} regions)) ((.HIF_CTRL, 0, 1) :: l)
def plan : Plan := { role := 0, variants := [{ epochLen := 8192, floor := 1000 }, { epochLen := 8192, floor := 1200 }] }
def standbyImg : List Byte := beBytes 448
  0x55545250010108000100000002000000010101000000000005000000000000000000000000000000000000000000000000000000000000000000000000000000ab1b36a62aab8fa0ece96eec3d18c4a86e25b3caee1e88bd3be595b5e2c4fbc10001000000000000000000000000000000000000000000000000000000000000000000000000000000000000000000000000000000000000000000000000000000000000000000000000000000000000000000000000000000000000000000000000000000000000000000000000000000000000000000000000000000000000000000000000000000000000000000000000000000000000000000000000000001000000ffffffffff0000000000000040010000000000008000000049e5356300000000000000000000000000000000000000000000000000000000000000000200000020000000000000000000000000000000000000000000000000000000000000000000000000000000000000000000000000000000000000000000000000000001010f000000000000000000000000000000000000000000000000000000000000020f0000000000000000000000000000000000000000000000000000
def en5 (op : Nat) (w1 w2 w3 w4 w5: U64) : Entry := ⟨BitVec.ofNat 64 (op + 0x2200050000), w1, w2, w3, w4, w5, 0, 0⟩
def fab : List (Reg × Nat × U64) := [(.KPR_FABRIC_ID, 0, 0x100005)]
def ls (l : List (Reg × Nat × U64)) (qs : Map QuadSt) : State := { host (fab ++ l) with quads := qs }
def sp := match (ls [] []).judgeLoad 0 standbyImg 1 [5] 0 with | .inl x => x.1 | .inr _ => plan
def ld : Entry := en5 0x40 0x1000 1000 0x40 1 0x2000
def x0 : StartSt := { quad := 0, fn := 0, cid := 1, tag := 2, report := 0x40, since := 100 }
def mp : Plan := { plan with roles := [{ pos := 0, quad := 0, master := true, standby := false, mirrored := false, parent := 15, children := 0, partner := 0 }] }
def lsD : State := { ls [] [(0, {plan := some mp})] with cores := [(0, (withRegs {} regions).setReg .SEQ_CTRL 0 2)] }

def planCommands1 : State := { ls [(.TB_SNAP_STAT, 0, 64)] [(0, {plan := some mp})] with keeper := { start := some x0 } }
def planCommands2 : State := (ls [] [(0, {plan := some mp, slots := [(9, {state := 2})]})])
def planCommands3 : State := (ls [] [])
def planCommands4 : State := (ls [] [(0, {plan := some mp, slots := []})])
def planCommands6 : State := (ls [] [])
def planCommands7 : State := (ls [(.QD_VARIANT, 0, 8)] [(0, {plan := some mp, slots := [(9, {state := 2})]})])
def planCommands8 : State := { ls [] [(0, {plan := some mp})] with keeper := { start := some x0 } }
/-- States and operands that meet the hypotheses of the clauses of PlanCommands. -/
theorem witness_PlanCommands :
    (((∀ (k : Fin 4), ¬∃ y m, (planCommands1.quad ↑k).plan = some y ∧ y.me = some m ∧ m.master = true ∧ y.standby = false ∧
      planCommands1.runs ↑k = false) ∨ planCommands1.keeper.start.isSome = true) ∧ placesOf (entryWords (en5 65 0#64 0#64 64#64 0#64 0#64))
      = 1 ∧ (1 ≤ (planCommands1.func 0).placesFree) ∧ planCommands1.bit Reg.HIF_CTRL 0 0 = true ∧ planCommands1.keeper.loads.contains (0,
      entryWords (en5 65 0#64 0#64 64#64 0#64 0#64)) = false ∧ cmdOk (entryWords (en5 65 0#64 0#64 64#64 0#64 0#64)) [2 ^ 64 - 4096, 2 ^ 40
      - 1, 2 ^ 64 - 64, 2 ^ 34 - 1, 2 ^ 64 - 1] = true ∧ (0 < 4 → wf (entryWords (en5 65 0#64 0#64 64#64 0#64 0#64)) 4 33 32 = 0) ∧
      (planCommands1.quad (wf (entryWords (en5 65 0#64 0#64 64#64 0#64 0#64)) 4 33 32)).mustCheck = false ∧ (planCommands1.quad (wf
      (entryWords (en5 65 0#64 0#64 64#64 0#64 0#64)) 4 33 32)).plan.isSome = true ∧ cmdOk (entryWords (en5 65 0#64 0#64 64#64 0#64 0#64))
      [0, 0, 2 ^ 64 - 64] = true ∧ planCommands1.keeper.start = some x0 ∧ x0.released = false ∧ x0.since + 10000000000 ≤ 10000000100 ∧
      planCommands1.bit Reg.HIF_CTRL x0.fn 0 = true ∧ (∀ (k : Fin 4), (planCommands1.quad ↑k).master = false)) ∧
    ((∃ y m, (planCommands2.quad 0).plan = some y ∧ y.me = some m ∧ m.master = true ∧ y.standby = false ∧ planCommands2.runs 0 = false) ∧
      placesOf (entryWords (en5 66 0#64 0#64 0#64 0#64 0#64)) = 1 ∧ (1 ≤ (planCommands2.func 0).placesFree) ∧ planCommands2.bit
      Reg.HIF_CTRL 0 0 = true ∧ cmdOk (entryWords (en5 66 0#64 0#64 0#64 0#64 0#64)) [0, 0, 2 ^ 64 - 64] = true ∧ 0 < 4 ∧
      planCommands2.keeper.start = none ∧ planCommands2.diagOf 0 = none ∧ cmdOk (entryWords (en5 66 0#64 0#64 0#64 0#64 0#64)) [1, 0, 0, 3
      * 2 ^ 32] = true ∧ (0 < 4 → wf (entryWords (en5 66 0#64 0#64 0#64 0#64 0#64)) 4 33 32 = 0) ∧ (planCommands2.quad (wf (entryWords (en5
      66 0#64 0#64 0#64 0#64 0#64)) 4 33 32)).plan.isSome = true ∧ (planCommands2.quad (wf (entryWords (en5 66 0#64 0#64 0#64 0#64 0#64)) 4
      33 32)).unload = none ∧ ¬wf (entryWords (en5 66 0#64 0#64 0#64 0#64 0#64)) 1 0 0 = 1 ∧ (∃ n : Fin 128, ((planCommands2.quad (wf
      (entryWords (en5 66 0#64 0#64 0#64 0#64 0#64)) 4 33 32)).slot ↑n).state ≠ 0)) ∧
    (placesOf (entryWords ld) = 1 ∧ (1 ≤ (planCommands3.func 0).placesFree) ∧ planCommands3.bit Reg.HIF_CTRL 0 0 = true ∧
      planCommands3.keeper.loads.contains (0, entryWords ld) = false ∧ cmdOk (entryWords ld) [2 ^ 64 - 4096, 2 ^ 40 - 1, 2 ^ 64 - 64, 2 ^
      34 - 1, 2 ^ 64 - 1] = true ∧ (0 < 4 → wf (entryWords ld) 4 33 32 = 0) ∧ (planCommands3.quad (wf (entryWords ld) 4 33 32)).mustCheck =
      false ∧ (planCommands3.quad (wf (entryWords ld) 4 33 32)).plan = none ∧ planCommands3.runs (wf (entryWords ld) 4 33 32) = false ∧
      planCommands3.tagClash (BitVec.ofNat 64 (bytesAt (List.take (wf (entryWords ld) 2 39 0) standbyImg) 24 8)) = false ∧
      ((planCommands3.reserve 0 1).judgeLoad (wf (entryWords ld) 4 33 32) (List.take (wf (entryWords ld) 2 39 0) standbyImg) (wf
      (entryWords ld) 4 31 0) (List.map (fun w => w.toNat % 2 ^ 20) [5#32]) 0 = Sum.inl (sp, [])) ∧ sp.standby = true) ∧
    (placesOf (entryWords (en5 66 1#64 0#64 0#64 0#64 0#64)) = 1 ∧ (1 ≤ (planCommands4.func 0).placesFree) ∧ planCommands4.bit Reg.HIF_CTRL
      0 0 = true ∧ cmdOk (entryWords (en5 66 1#64 0#64 0#64 0#64 0#64)) [1, 0, 0, 3 * 2 ^ 32] = true ∧ (0 < 4 → wf (entryWords (en5 66 1#64
      0#64 0#64 0#64 0#64)) 4 33 32 = 0) ∧ (planCommands4.quad (wf (entryWords (en5 66 1#64 0#64 0#64 0#64 0#64)) 4 33 32)).plan.isSome =
      true ∧ (planCommands4.quad (wf (entryWords (en5 66 1#64 0#64 0#64 0#64 0#64)) 4 33 32)).unload = none ∧ planCommands4.keeper.start =
      none ∧ (¬∃ n : Fin 128, ((planCommands4.quad (wf (entryWords (en5 66 1#64 0#64 0#64 0#64 0#64)) 4 33 32)).slot ↑n).state ≠ 0) ∧
      (planCommands4.quad (wf (entryWords (en5 66 1#64 0#64 0#64 0#64 0#64)) 4 33 32)).adm = [] ∧ planCommands4.runs (wf (entryWords (en5
      66 1#64 0#64 0#64 0#64 0#64)) 4 33 32) = false) ∧
    ((∃ y m, (lsD.quad 0).plan = some y ∧ y.me = some m ∧ m.master = true ∧ y.standby = false ∧ lsD.runs 0 = false) ∧ placesOf (entryWords
      (en5 65 0#64 0#64 64#64 0#64 0#64)) = 1 ∧ (1 ≤ (lsD.func 0).placesFree) ∧ lsD.bit Reg.HIF_CTRL 0 0 = true ∧ cmdOk (entryWords (en5 65
      0#64 0#64 64#64 0#64 0#64)) [0, 0, 2 ^ 64 - 64] = true ∧ 0 < 4 ∧ lsD.keeper.start = none ∧ lsD.diagOf 0 = some (mp.role, diagFail (64
      * 0))) ∧
    (placesOf (entryWords (en5 66 0#64 0#64 0#64 0#64 0#64)) = 1 ∧ (1 ≤ (planCommands6.func 0).placesFree) ∧ planCommands6.bit Reg.HIF_CTRL
      0 0 = true ∧ cmdOk (entryWords (en5 66 0#64 0#64 0#64 0#64 0#64)) [1, 0, 0, 3 * 2 ^ 32] = true ∧ (0 < 4 → wf (entryWords (en5 66 0#64
      0#64 0#64 0#64 0#64)) 4 33 32 = 0) ∧ (planCommands6.quad (wf (entryWords (en5 66 0#64 0#64 0#64 0#64 0#64)) 4 33 32)).plan = none) ∧
    (placesOf (entryWords (en5 66 1#64 0#64 0#64 0#64 0#64)) = 1 ∧ (1 ≤ (planCommands7.func 0).placesFree) ∧ planCommands7.bit Reg.HIF_CTRL
      0 0 = true ∧ cmdOk (entryWords (en5 66 1#64 0#64 0#64 0#64 0#64)) [1, 0, 0, 3 * 2 ^ 32] = true ∧ (0 < 4 → wf (entryWords (en5 66 1#64
      0#64 0#64 0#64 0#64)) 4 33 32 = 0) ∧ (planCommands7.quad (wf (entryWords (en5 66 1#64 0#64 0#64 0#64 0#64)) 4 33 32)).plan.isSome =
      true ∧ (planCommands7.quad (wf (entryWords (en5 66 1#64 0#64 0#64 0#64 0#64)) 4 33 32)).unload = none ∧ planCommands7.keeper.start =
      none ∧ (wf (entryWords (en5 66 1#64 0#64 0#64 0#64 0#64)) 1 0 0 = 1 ∨ ¬∃ n : Fin 128, ((planCommands7.quad (wf (entryWords (en5 66
      1#64 0#64 0#64 0#64 0#64)) 4 33 32)).slot ↑n).state ≠ 0) ∧ planCommands7.runs (wf (entryWords (en5 66 1#64 0#64 0#64 0#64 0#64)) 4 33
      32) = true) ∧
    (planCommands8.keeper.start = some x0 ∧ (x0.released = true ∨ 5 < x0.since + 10000000000)) :=
  ⟨⟨.inr (by decide +kernel), by decide +kernel⟩,
    ⟨⟨_, _, rfl, rfl, rfl, rfl, by decide +kernel⟩, by decide +kernel⟩,
    by decide +kernel,
    by decide +kernel,
    ⟨⟨_, _, rfl, rfl, rfl, rfl, by decide +kernel⟩, by decide +kernel⟩,
    by decide +kernel,
    by decide +kernel,
    by decide +kernel⟩

end Sys2Proof.Tests.Plans

namespace Sys2Proof.Tests.Writes
open Sys2Proof Sys2Proof.Machine Sys2Proof.Tests

def host (l : List (Reg × Nat × U64)) : State := regs (oneCore (withRegs {} regions)) ((.HIF_CTRL, 0, 1) :: l)
def ready (l : List (Reg × Nat × U64)) : State := host ([(.KPR_BOOT, 0, 0x1000)] ++ l)
def offOf (r : Reg) (q k : Nat) : BitVec 32 := BitVec.ofNat 32 (r.info.offset + 8 * k + q)

def registerWrites1 : State := (ready [])
def registerWrites2 : State := (ready [(.KPR_LOCK, 0, 1)])
def registerWrites3 : State := (host [(.KPR_BOOT, 0, 0)])
def registerWrites4 : State := (regs (oneCore {seq := {run := .stopped}}) [(.KPR_BOOT, 0, 0x1000)])
/-- States and operands that meet the hypotheses of the clauses of RegisterWrites. -/
theorem witness_RegisterWrites :
    ((7 ≠ 8 ∨ (offOf Reg.PWR_CEIL 0 0).toNat % 8 ≠ 0) ∧ (offOf Reg.PWR_CEIL 0 0).toNat % 8 = 0 ∧ registerWrites1.keeper.powered = true ∧
      ((offOf Reg.PWR_CEIL 0 0).toNat < 4096 ∨ 5120 ≤ (offOf Reg.PWR_CEIL 0 0).toNat) ∧ ((offOf Reg.PWR_CEIL 0 0).toNat < 134217728 ∨
      138412032 ≤ (offOf Reg.PWR_CEIL 0 0).toNat) ∧ regPlace 4 (offOf Reg.PWR_CEIL 0 0).toNat = some (Reg.PWR_CEIL, 0) ∧ 0 < 1048576 ∧
      (registerWrites1.at' 77).reached Reg.PWR_CEIL 0 = true ∧ Reg.PWR_CEIL ∈ [Reg.ING_TARGET_ADDR, Reg.ING_TARGET_CFG, Reg.ING_PORT_IP,
      Reg.ING_PORT_MAC, Reg.PWR_CEIL, Reg.PWR_GOV_CFG, Reg.TEL_CFG, Reg.ECHO_TRIG, Reg.LNK_ERR_CFG, Reg.KPR_FABRIC_ID, Reg.KPR_CORDON_STAT,
      Reg.PWR_LP_STAT, Reg.HIF_STAT, Reg.ING_CTRL, Reg.ADM_STATUS_ADDR] ∧ 0 < 64 ∧ 1 < 64 ∧ 2 < 64) ∧
    ((offOf Reg.KPR_FABRIC_ID 0 0).toNat % 8 = 0 ∧ registerWrites2.keeper.powered = true ∧ ((offOf Reg.KPR_FABRIC_ID 0 0).toNat < 4096 ∨
      5120 ≤ (offOf Reg.KPR_FABRIC_ID 0 0).toNat) ∧ ((offOf Reg.KPR_FABRIC_ID 0 0).toNat < 134217728 ∨ 138412032 ≤ (offOf Reg.KPR_FABRIC_ID
      0 0).toNat) ∧ regPlace 4 (offOf Reg.KPR_FABRIC_ID 0 0).toNat = some (Reg.KPR_FABRIC_ID, 0) ∧ 0 < 1048576 ∧ (registerWrites2.at'
      77).reached Reg.KPR_FABRIC_ID 0 = true ∧ Reg.KPR_FABRIC_ID = Reg.KPR_FABRIC_ID ∧ registerWrites2.bit Reg.KPR_LOCK 0 0 = true) ∧
    ((offOf Reg.PWR_CEIL 0 0).toNat % 8 = 0 ∧ registerWrites3.keeper.powered = true ∧ ((offOf Reg.PWR_CEIL 0 0).toNat < 4096 ∨ 5120 ≤
      (offOf Reg.PWR_CEIL 0 0).toNat) ∧ ((offOf Reg.PWR_CEIL 0 0).toNat < 134217728 ∨ 138412032 ≤ (offOf Reg.PWR_CEIL 0 0).toNat) ∧
      regPlace 4 (offOf Reg.PWR_CEIL 0 0).toNat = some (Reg.PWR_CEIL, 0) ∧ 0 < 1048576 ∧ (registerWrites3.at' 77).reached Reg.PWR_CEIL 0 =
      false) ∧
    (1116672 % 8 = 0 ∧ registerWrites4.keeper.powered = true ∧ 0 < 4 ∧ 1048576 ≤ 1116672 ∧ 1116672 < 134217728 ∧ regPlace 0 1116672 = some
      (Reg.SEQ_ENTRY, 0) ∧ (registerWrites4.at' 77).reached Reg.SEQ_ENTRY 0 = true ∧ registerWrites4.phys 0 = some 0) :=
  ⟨by decide +kernel,
    by decide +kernel,
    by decide +kernel,
    by decide +kernel⟩

end Sys2Proof.Tests.Writes

namespace Sys2Proof.Tests
open Sys2Proof Sys2Proof.Machine

/-! ### Well-formedness: an ill-formed term for each check, and a well-formed one beside it -/

def e0 : Entry := ⟨0, 0, 0, 0, 0, 0, 0, 0⟩
/-- A packet of one byte: no whole granule. -/
def badPacket : Packet := ⟨0, 0, 0, 0, [1]⟩
/-- A poll that names a ring twice. -/
def badPoll : HostPoll := ⟨0, 0, [(1, 0), (1, 0)], 0⟩
def goodPoll : HostPoll := ⟨0, 0, [(1, 0), (255, 0)], 0⟩
/-- A copy that passes the end of the 48-bit map. -/
def badCopy : RangeCopy := ⟨0, 0xFFFFFFFFFFFF, [1, 2]⟩

theorem test_wf_engines :
    (Instr.slowIn 0 0 ⟨[5, 5], 0, 0⟩).wf = false ∧ (Instr.slowIn 0 0 ⟨[25769803776], 0, 0⟩).wf = false ∧
    (Instr.slowIn 0 0 ⟨[25769803775], 1, 2⟩).wf = true ∧ (Instr.slowOut 0 0 [7, 6]).wf = false ∧ (Instr.slowOut 0 0 [6, 7]).wf = true ∧
    (Instr.recrystallisationDone 0 ⟨[5, 5], 0, 0⟩).wf = false ∧ (Instr.ingestStreamDone 0 ⟨[25769803776], 0, 0⟩).wf = false ∧
    (Instr.recheckDone 0 0 ⟨[7, 6], 0, 0⟩).wf = false ∧ (Instr.recheckDone 0 0 ⟨[6, 7], 0, 0⟩).wf = true ∧
    (Instr.plannedDataArrival 0 0 [1] []).wf = false ∧ (Instr.plannedDataArrival 0 0 (List.replicate 64 0) [1, 2]).wf = false ∧
    (Instr.plannedDataArrival 0 0 (List.replicate 64 0) [0]).wf = true ∧
    (Instr.patrolScrub 0 0 0 [7, 6]).wf = false ∧ (Instr.patrolScrub 0 0 0 [6, 7]).wf = true := by decide +kernel

theorem test_wf_host :
    (Instr.load 0 e0 (some [1])).wf = false ∧ (Instr.load 0 e0 none).wf = true ∧ (Instr.admitSequence 0 e0 (some [])).wf = false ∧
    (Instr.admitSequence 0 e0 (some (List.replicate 128 0))).wf = true ∧ (Instr.debugUnlock e0 (some [])).wf = false ∧
    (Instr.bar2Write 0 0xFFFFFFFF [1, 2]).wf = false ∧ (Instr.bar2Write 0 0xFFFFFFFF [1]).wf = true ∧
    (Instr.bar2Read 0 0xFFFFFFFF 2 ⟨[], 0, 0⟩).wf = false ∧ (Instr.bar2Read 0 0xFFFFFFFF 1 ⟨[1, 1], 0, 0⟩).wf = false ∧ (Instr.boundarySnapshot 0 badPoll []).wf = false ∧
    (Instr.boundarySnapshot 0 goodPoll [3, 2]).wf = false ∧ (Instr.boundarySnapshot 0 goodPoll [2, 3]).wf = true ∧
    (Instr.idlePoll 0 badPoll 0).wf = false ∧ (Instr.idlePoll 0 ⟨0, 0, [(256, 0)], 0⟩ 0).wf = false ∧
    (Instr.promptChunkWrite 0 0 0 [1, 2, 3]).wf = false ∧ (Instr.loadReport 0 0 [1]).wf = false ∧
    (Instr.sidebandTransfer 0 [1] 1).wf = false ∧ (Instr.sidebandTransfer 0 [] 1).wf = true := by decide +kernel

theorem test_wf_inputFrame :
    (Instr.inputFrame 0 0 e0 (List.replicate 262141 0)).wf = false ∧ (Instr.inputFrame 0 0 e0 (List.replicate 262140 0)).wf = true := by
  simp only [Instr.wf, List.length_replicate]; decide

theorem test_wf_fabric :
    (Instr.meshFlitArrival 0 0 0 ⟨0, []⟩ false .other 0).wf = false ∧
    (Instr.meshFlitArrival 0 0 0 ⟨0, List.replicate 64 0⟩ false .other 0).wf = false ∧
    (Instr.meshFlitArrival 0 0 0 ⟨0x4000, List.replicate 64 0⟩ false .signal 0).wf = true ∧
    (Instr.linkUnitReceive 0 [⟨0, [1]⟩] 0).wf = false ∧ (Instr.linkUnitReceive 0 [⟨0, List.replicate 544 0⟩] 0).wf = true ∧ (Instr.elasticPacketReceive 0 badPacket).wf = false ∧
    (Instr.elasticTargetArrival 0 badPacket 0).wf = false ∧ (Instr.elasticResponse 0 badPacket 0).wf = false ∧
    (Instr.elasticResponse 0 ⟨0, 0, 0, 0, List.replicate 64 0⟩ 0).wf = true ∧
    (Instr.timeMessage 0 (List.replicate 129 0) 0).wf = false := by decide +kernel

theorem test_wf_recovery :
    (Instr.standbyRestoreDone 0 0 0 0 0 [] [badCopy] 0 0).wf = false ∧ (Instr.flowCopyDone 0 [badCopy] true).wf = false ∧
    (Instr.mirrorDelta 0 (List.replicate 56 0)).wf = false ∧ (Instr.mirrorDelta 0 (List.replicate 64 0)).wf = true ∧
    (Instr.remoteReset [] 0).wf = false := by decide +kernel

theorem test_wf_standbySlots (a : MirrorCopy) : (Instr.standbyRestoreDone 0 0 0 0 0 [a, a] [] 0 0).wf = false := by
  simp [Instr.wf, rising]

theorem test_wf_images : (Instr.networkBootRetry (some (List.replicate 4194305 0)) none).wf = false ∧
    (Instr.networkBootRetry none none).wf = true ∧ (Instr.fwStage e0 (some (List.replicate 4194305 0))).wf = false := by
  simp only [Instr.wf, atMost, List.length_replicate]; decide

theorem test_wf_readings : (Instr.governorSample 0 []).wf = false ∧ (Instr.telemetrySample 0 [] []).wf = false ∧
    (Instr.telemetrySample 0 (List.replicate 40 0) (List.replicate 14 ([], []))).wf = false ∧
    (Instr.telemetrySample 0 (List.replicate 40 0) (List.replicate 14 (List.replicate 8 0, List.replicate 8 0))).wf = true := by decide +kernel

/-! ### Words of the program memory, put together by hand from R56's forms, R57's opcodes and R79's -/

/-- T3, IM, UP, BR and JP: s3 ← s1 + s2; MULHU; ADDI with −1; LUI; BEQ two back; JAL. -/
theorem test_words_alu :
    seqDecode 0 9 false 0x00041181 = some (.add 0 3 1 2) ∧ seqDecode 0 9 false 0x034C5201 = some (.mulhu 0 4 5 6) ∧
    seqDecode 0 9 false 0xFFFE2082 = some (.addi 0 1 2 0x7FFF) ∧ seqDecode 0 9 false 0xABCDE08A = some (.lui 0 1 0xABCDE) ∧
    seqDecode 0 9 false 0xFFFC2090 = some (.beq 0 1 2 0x7FFE) ∧ seqDecode 0 9 false 0x00005F96 = some (.jal 0 31 5) := by decide +kernel
/-- AD, LI and LP: ASET, LIC, LOOP and LIDX. -/
theorem test_words_address :
    seqDecode 0 9 false 0x000521A0 = some (.aset 0 3 4 5) ∧ seqDecode 0 9 false 0x00007130 = some (.lic 0 2 7) ∧
    seqDecode 0 9 false 0x000090B3 = some (.loop 0 1 9) ∧ seqDecode 0 9 false 0x000030B4 = some (.lidx 0 1 6) := by decide +kernel
/-- QU, PT and WT: TLD of the last entry, PATCH of an address register with post-increment, PUSH, WAITDRIP form 1 and WAITQ. -/
theorem test_words_queues :
    seqDecode 0 9 false 0x0007FF40 = some (.tld 0 2 1023) ∧ seqDecode 0 9 false 0x6718A6C1 = some (.patch 0 1 3 10 6 7 true true) ∧
    seqDecode 0 9 false 0x000006C2 = some (.push 0 1 3) ∧ seqDecode 0 9 false 0xFFFFE3D0 = some (.waitdripForm1 0 3 0x7FFFF) ∧
    seqDecode 0 9 false 0x00004451 = some (.waitq 0 2 8) ∧ seqDecode 0 9 false 0x00000053 = some (.epochend 0 9) := by decide +kernel
/-- Opcodes 0x60 to 0x6F inside address-stream mode and outside it. -/
theorem test_words_streams :
    seqDecode 0 9 false 0x60 = some (.ason 0) ∧ seqDecode 0 9 true 0xAE0 = some (.spush 0 5 1) ∧ seqDecode 0 9 false 0xAE0 = none ∧
    seqDecode 0 9 true 0x6F = some (.asoff 0) ∧ seqDecode 0 9 false 0x6F = none ∧ seqDecode 0 9 true 0x63 = none := by decide +kernel
/-- Illegal encodings: the zeroed word, an fn and an opcode not listed, and reserved bits that are not 0. -/
theorem test_words_illegal :
    seqDecode 0 9 false 0 = none ∧ seqDecode 0 9 false 0x03800001 = none ∧ seqDecode 0 9 false 0x0D = none ∧
    seqDecode 0 9 false 0x230 = none ∧ seqDecode 0 9 false 0x842 = none ∧ seqDecode 0 9 false 0xFE = none := by decide +kernel

/-! ### Published vectors and values worked out by hand -/

/-- The characters of a string as bytes. -/
def ascii (s : String) : List Byte := s.toList.map (fun c => BitVec.ofNat 8 c.toNat)

/-- The lowest two coefficients and the highest of the RS(544,514) generator, as the IEEE 802.3 table has them (R359). -/
theorem test_rs_generator : (rs544Generator.getD 29 0, rs544Generator.getD 28 0, rs544Generator.getD 0 0) = (523, 834, 575) := by decide +kernel
/-- R360, by the recurrence of x^31 + x^28 + 1 from all ones: 28 bits 0, then three bits 1. -/
theorem test_prbs31 : (scramble (List.replicate 4 0) (prbsSeed 0)).1 = [0, 0, 0, 0x70] := by decide +kernel
/-- The published check value of the CRC-32 of IEEE 802.3. -/
theorem test_crc32 : crc32 (ascii "123456789") = 0xCBF43926 := by decide +kernel
/-- The published check value of the CRC-16 with initial value 0xFFFF, not reflected. -/
theorem test_crc16 : crc16 (ascii "123456789") = 0x29B1 := by decide +kernel
/-- FIPS 180-4: the digest of "abc". -/
theorem test_sha256 : ofBe (sha256 (ascii "abc")) = 0xba7816bf8f01cfea414140de5dae2223b00361a396177a9cb410ff61f20015ad := by decide +kernel
/-- FIPS 180-4: the digest of "abc". -/
theorem test_sha384 : sha384 (ascii "abc") =
    0xcb00753f45a35e8bb5a03d699ac65007272c32ab0eded1631a8b605a43ff5bed8086072ba1e7cc2358baeca134c825a7 := by decide +kernel

/-- 04_matrix_arithmetic.md: 129 × 2^102 − 1 at 2^-104 rounds to these bits in BF16, FP32, E4M3 and to 32 as an integer. -/
theorem test_round_once :
    let x : Exact := ⟨false, 129 * 2 ^ 102 - 1, -104, false⟩
    (roundTo fmtBf16 0 false x).1 = 0x4201 ∧ (roundTo fmtF32 0 false x).1 = 0x42010000 ∧ (roundTo fmtE4m3 0 false x).1 = 0x60 ∧
    roundToInt x 0 = 32 := by decide +kernel

/-- Correctly rounded binary32 values of the square root of 2, of 2^0.5, of 1/3 and of log2 10. -/
theorem test_elementary :
    (roundTo fmtF32 0 false (exactSqrt 2 0)).1 = 0x3FB504F3 ∧ (roundTo fmtF32 0 false (exactExp2 false 1 (-1))).1 = 0x3FB504F3 ∧
    (roundTo fmtF32 0 false (exactDiv false 1 0 3 0)).1 = 0x3EAAAAAB ∧ (roundTo fmtF32 0 false (exactLog2 10 0)).1 = 0x40549A78 := by
  decide +kernel

/-- 03_descriptors_and_scoreboard.md: the matrix descriptor of push 9. -/
def push9 : Desc := ⟨0x0100000037331200, 0x40000, 0x8100000, 0x62000, 0x4000F0F0F, 0x50000, 0x8400000, 0x1792D4EE5A4E5⟩
/-- Its five claims. -/
theorem test_push9_claims : push9.claims =
    [⟨false, 0x40000, 8192⟩, ⟨false, 0x8100000, 131072⟩, ⟨true, 0x62000, 8192⟩, ⟨false, 0x50000, 2048⟩, ⟨false, 0x8400000, 131072⟩] := by
  decide +kernel
/-- 02_core_and_sequencer.md: at push 9 the offset of a1 steps from 57,344 by 8,192 and the wrap of 65,536 folds it to 0; W runs on. -/
theorem test_step :
    AddrReg.step ⟨0x40000, 57344, 8192, 65536⟩ 8192 = ⟨0x40000, 0, 8192, 65536⟩ ∧
    (AddrReg.step ⟨0x8000000, 14 * 131072, 131072, 0⟩ 131072).ea = 0x81E0000 := by decide +kernel
/-- 01_plan_and_time.md: with L0 = 5,000,000 and epochs of 65,536 drips, the launch counts of epochs 40 and 41. -/
theorem test_launches :
    let s : State := { quads := [(0, { plan := some { role := 0, variants := [{ epochLen := 65536, floor := 1450 }] }, rule := ⟨0, 5000000, 0⟩ })] }
    (s.nextValues 0 40).1 = 7621440 ∧ (s.nextValues 0 41).1 = 7686976 := by decide +kernel

/-- 09_sampler_and_commit.md: the draw of the worked example. The logits of its five tokens, numbered 0 to 4 in the order of their
token numbers 9, 77, 200, 1,042 and 5,310. -/
def drawParams : Sampler := ⟨0x3F800000, 0x3F666666, 0x3E99999A, 0x3FA00000, 0x3E000000, 0x3E800000, 3, 0⟩
/-- The penalised score of token 1,042, and the scores no penalty changes. -/
theorem test_penalty : scoreOf drawParams 8 0x3F000000 = 0xBFDCCCCD ∧ scoreOf drawParams 0 0xBF317218 = 0xBF317218 := by decide +kernel
/-- The value 0xC3A5_0000_0000_0000 chooses token 5,310; the largest value that chooses token 77, and the next one. -/
theorem test_draw :
    let go := fun u => drawToken drawParams [(3, 8)] [0xBFB17218, 0, 0xBFB17218, 0x3F000000, 0xBF317218] u
    go 0xC3A5000000000000 = ⟨4, false, false⟩ ∧ (go 0xAAAAAAAAAAAAAAAA).id = 1 ∧ (go 0xAAAAAAAAAAAAAAAB).id = 4 := by decide +kernel

/-- 15_host_interface.md: the four words of the admission completion; the entry of its second pass has phase 0. -/
theorem test_completion :
    Completion.words { kind := 2, cid := 0x47, tag := 0x2B1D, arg0 := 0x30009, arg1 := 102 } 61865984 (phaseOf 70 64) =
      [0x00002B1D00470002, 0x30009, 0x66, 0x3B00000] := by decide +kernel

/-- 20_register_index.md: the three instances of the worked example, by management BAR0 and by quadrant-function BAR0. -/
theorem test_places :
    regPlace 4 0x0A0192A8 = some (.CORE_REGION, 1621) ∧ regPlace 1 0x001192A8 = some (.CORE_REGION, 1621) ∧
    regPlace 4 0x091300C8 = some (.MSH_SLOT, 24601) ∧ regPlace 0 0x002E40C8 = some (.MSH_SLOT, 393241) := by decide +kernel

/-! ### Statements without a witness above -/

/-- A state in the form every step keeps, with a command that waits, and a step of it. -/
def waiting : State := { regs (oneCore { withRegs {} regions with sram := [(3, 1)] }) [(.HIF_CTRL, 0, 1)] with pending := [.waitdrip 0] }
theorem witness_StepKeepsForm : waiting.Good ∧ ∃ t, step waiting = .next t :=
  ⟨⟨by decide +kernel, by decide +kernel, by decide +kernel⟩, _, rfl⟩
/-- A command that stores nothing and answers a next state; one that stores is named. -/
theorem witness_MemoryFrame : writesMemory (.waitdrip 0) = false ∧ (∃ t, exec (.waitdrip 0) waiting = .next t) ∧ writesMemory (.drawComplete 0) = true :=
  ⟨rfl, ⟨_, rfl⟩, rfl⟩
/-- A loop entered with count 0 inside another body that ends later (LoopCountsAndLoops). -/
def inLoop : State := seqState { run := .issuing, pc := 4, loops := [⟨3, 0, 2, 9⟩] }
theorem witness_LoopCountsAndLoops_skip :
    inLoop.Issues 0 0 ∧ (inLoop.core 0).seq.Plain ∧ ¬ ((3 : BitVec 12) = 0 ∨ (inLoop.core 0).seq.loops.length < 4 ∧
      ∃ l, (inLoop.core 0).seq.loops.head? = some l ∧ l.last < (inLoop.core 0).seq.pc + 3) ∧
    (inLoop.core 0).seq.loops.length < 4 ∧ (∀ l, (inLoop.core 0).seq.loops.head? = some l → l.last ≠ (inLoop.core 0).seq.pc + 3) ∧
    ((inLoop.core 0).seq.creg 0).toNat = 0 ∧ (inLoop.core 0).seq.pc + 3 + 1 < (inLoop.core 0).seq.limit :=
  ⟨by decide +kernel, plain_of (by decide +kernel) (by decide +kernel), by decide +kernel, by decide +kernel, all_of (by decide +kernel),
    by decide +kernel, by decide +kernel⟩
theorem witness_StepRunsFront : waiting.pending = Instr.waitdrip 0 :: [] := rfl

end Sys2Proof.Tests

namespace Sys2Proof.Tests.Recovery
open Sys2Proof Sys2Proof.Machine

/-- A standby quadrant, the plan it takes over and what that plan is at its place. -/
def standbyPlan : Plan := { role := 0, variants := [{ epochLen := 8192, floor := 1000 }, { epochLen := 8192, floor := 1200 }], standby := true }
def standbyState : State := { regs {} [(.KPR_QUAD_STAT, 0, 4)] with quads := [(0, { plan := some standbyPlan })] }
def standbyBase : Plan :=
  { planOf standbyPlan.image 0 0 (setNth standbyPlan.placement 0 standbyState.globalId) with standby := false, loadFn := 4, reportAt := 0 }
/-- The hypotheses of the last clause of RestartsAndReplacement. -/
theorem witness_RestartsAndReplacement_standby :
    standbyState.bit .KPR_QUAD_STAT 0 2 = true ∧ (standbyState.quad 0).plan = some standbyPlan ∧
    ((standbyPlan.roles[0]?).map (·.pos)).getD 0 = 0 ∧ standbyState.relocate 0 standbyBase.reloc 0 standbyBase = .inl standbyBase ∧
    standbyBase.meshTable (fun r => standbyState.rowOut 0 r) = some [] := by
  have h1 : standbyBase.reloc = [] := by decide +kernel
  have h2 : standbyBase.meshHops (fun r => standbyState.rowOut 0 r) = [] := by decide +kernel
  refine ⟨by decide +kernel, by decide +kernel, rfl, ?_, ?_⟩
  · rw [h1]; rfl
  · rw [Plan.meshTable, h2]; rfl

end Sys2Proof.Tests.Recovery
end

section
/-! The model's spellings of R58 in the statements' terms, and the step of an instruction that changes one sequencer register. -/
namespace Sys2Proof.Machine

theorem low32_eq_setWidth (x : U64) : low32 x = x.setWidth 32 := BitVec.ofNat_toNat 32 x

theorem AddrReg.ea_eq_setWidth (r : AddrReg) : r.ea = r.base + r.off.setWidth 48 :=
  congrArg (r.base + ·) (BitVec.ofNat_toNat 48 r.off)

theorem State.Issues.run_eq {s : State} {v p : Nat} (h : s.Issues v p) : (s.core p).seq.run = .issuing := h.2.2

/-- An instruction that writes a scalar register and does nothing else completes. -/
theorem issueOn_wr {s : State} {v p : Nat} (h : s.Issues v p) (hp : (s.core p).seq.Plain) {f : SeqSt → SeqRes} {n : Nat} {x : U64}
    (hf : f (s.core p).seq = .ok ((s.core p).seq.wr n x)) : issueOn s v f = s.ran p ((s.core p).seq.wr n x) :=
  issueOn_ok h hp hf (SeqSt.wr_loops ..) (SeqSt.wr_codeLen ..) ((SeqSt.wr_run ..).trans h.run_eq)

/-- An instruction that replaces an address register and does nothing else completes. -/
theorem issueOn_setAreg {s : State} {v p : Nat} (h : s.Issues v p) (hp : (s.core p).seq.Plain) {f : SeqSt → SeqRes} {n : Nat}
    {y : AddrReg} (hf : f (s.core p).seq = .ok ((s.core p).seq.setAreg n y)) :
    issueOn s v f = s.ran p ((s.core p).seq.setAreg n y) := issueOn_ok h hp hf rfl rfl h.run_eq

/-- An instruction that replaces a loop count and does nothing else completes. -/
theorem issueOn_setCreg {s : State} {v p : Nat} (h : s.Issues v p) (hp : (s.core p).seq.Plain) {f : SeqSt → SeqRes} {n : Nat}
    {x : BitVec 32} (hf : f (s.core p).seq = .ok ((s.core p).seq.setCreg n x)) :
    issueOn s v f = s.ran p ((s.core p).seq.setCreg n x) := issueOn_ok h hp hf rfl rfl h.run_eq

end Sys2Proof.Machine
end

section
/-! Data memory and the address registers (R57 to R59). -/
namespace Sys2Proof.Machine

theorem dataAddr_of_aligned {q : SeqSt} {rs1 : Nat} {imm : BitVec 15}
    (ha : (q.rd rs1 + imm.signExtend 64).toNat % 8 = 0 ∧ (q.rd rs1 + imm.signExtend 64).toNat < 65536) :
    dataAddr q rs1 imm = some ((q.rd rs1 + imm.signExtend 64).toNat / 8) := if_pos ha

theorem dataAddr_of_not_aligned {q : SeqSt} {rs1 : Nat} {imm : BitVec 15}
    (ha : ¬ ((q.rd rs1 + imm.signExtend 64).toNat % 8 = 0 ∧ (q.rd rs1 + imm.signExtend 64).toNat < 65536)) :
    dataAddr q rs1 imm = none := if_neg ha

section
variable {s : State} {v : Fin 256} {p : Nat}

theorem execLd_of_some (h : s.Issues v p) (hp : (s.core p).seq.Plain) {r rs1 : Fin 32} {imm : BitVec 15} {k : Nat}
    (hk : dataAddr (s.core p).seq rs1 imm = some k) :
    execLd v r rs1 imm s = .next (s.ran p ((s.core p).seq.wr r (Map.get (α := U64) (s.core p).seq.data k 0))) :=
  congrArg Host.Outcome.next (issueOn_wr h hp (by simp only [hk]))

theorem execSt_of_some (h : s.Issues v p) (hp : (s.core p).seq.Plain) {r rs1 : Fin 32} {imm : BitVec 15} {k : Nat}
    (hk : dataAddr (s.core p).seq rs1 imm = some k) :
    execSt v r rs1 imm s = .next (s.ran p { (s.core p).seq with
      data := Map.set (α := U64) (s.core p).seq.data k ((s.core p).seq.rd r) }) :=
  congrArg Host.Outcome.next (issueOn_ok h hp (by simp only [hk]) rfl rfl h.run_eq)

theorem execLd_of_none (h : s.Issues v p) {r rs1 : Fin 32} {imm : BitVec 15} (hk : dataAddr (s.core p).seq rs1 imm = none) :
    execLd v r rs1 imm s = .next (s.raised p 0x03) := congrArg Host.Outcome.next (issueOn_exc h (by simp only [hk]))

theorem execSt_of_none (h : s.Issues v p) {r rs1 : Fin 32} {imm : BitVec 15} (hk : dataAddr (s.core p).seq rs1 imm = none) :
    execSt v r rs1 imm s = .next (s.raised p 0x03) := congrArg Host.Outcome.next (issueOn_exc h (by simp only [hk]))

/-- A command over an address register replaces that register by what it forms from s + imm16. -/
theorem issueOn_addrOp (h : s.Issues v p) (hp : (s.core p).seq.Plain) (f : AddrReg → U64 → AddrReg) (a : Fin 16) (sr : Fin 32)
    (imm : BitVec 16) {y : AddrReg} (hy : f ((s.core p).seq.areg a) ((s.core p).seq.rd sr + imm.signExtend 64) = y) :
    issueOn s v (addrOp f a sr imm) = s.ran p ((s.core p).seq.setAreg a y) :=
  issueOn_setAreg h hp (by rw [addrOp, hy])

theorem execAset_ran (h : s.Issues v p) (hp : (s.core p).seq.Plain) (a : Fin 16) (sr : Fin 32) (imm : BitVec 16) :
    execAset v a sr imm s = .next (s.ran p ((s.core p).seq.setAreg a { (s.core p).seq.areg a with
      base := ((s.core p).seq.rd sr + imm.signExtend 64).setWidth 48, off := 0 })) :=
  congrArg Host.Outcome.next (issueOn_addrOp h hp _ a sr imm (by simp only [BitVec.ofNat_toNat]))

theorem execAstr_ran (h : s.Issues v p) (hp : (s.core p).seq.Plain) (a : Fin 16) (sr : Fin 32) (imm : BitVec 16) :
    execAstr v a sr imm s = .next (s.ran p ((s.core p).seq.setAreg a { (s.core p).seq.areg a with
      stride := ((s.core p).seq.rd sr + imm.signExtend 64).setWidth 32 })) :=
  congrArg Host.Outcome.next (issueOn_addrOp h hp _ a sr imm (by simp only [low32_eq_setWidth]))

theorem execAwrp_ran (h : s.Issues v p) (hp : (s.core p).seq.Plain) (a : Fin 16) (sr : Fin 32) (imm : BitVec 16) :
    execAwrp v a sr imm s = .next (s.ran p ((s.core p).seq.setAreg a { (s.core p).seq.areg a with
      wrap := ((s.core p).seq.rd sr + imm.signExtend 64).setWidth 32 })) :=
  congrArg Host.Outcome.next (issueOn_addrOp h hp _ a sr imm (by simp only [low32_eq_setWidth]))

theorem execAoff_ran (h : s.Issues v p) (hp : (s.core p).seq.Plain) (a : Fin 16) (sr : Fin 32) (imm : BitVec 16) :
    execAoff v a sr imm s = .next (s.ran p ((s.core p).seq.setAreg a { (s.core p).seq.areg a with
      off := ((s.core p).seq.rd sr + imm.signExtend 64).setWidth 32 })) :=
  congrArg Host.Outcome.next (issueOn_addrOp h hp _ a sr imm (by simp only [low32_eq_setWidth]))

theorem execAstep_ran (h : s.Issues v p) (hp : (s.core p).seq.Plain) (a : Fin 16) (sr : Fin 32) (imm : BitVec 16) :
    execAstep v a sr imm s = .next (s.ran p ((s.core p).seq.setAreg a
      (((s.core p).seq.areg a).step ((s.core p).seq.rd sr + imm.signExtend 64).toInt))) :=
  congrArg Host.Outcome.next (issueOn_addrOp h hp _ a sr imm rfl)

theorem execAinc_ran (h : s.Issues v p) (hp : (s.core p).seq.Plain) (a : Fin 16) {sr : Fin 32} {imm : BitVec 16}
    (hz : sr.val = 0 ∧ imm = 0) :
    execAinc v a sr imm s = .next (s.ran p ((s.core p).seq.setAreg a
      (((s.core p).seq.areg a).step ((s.core p).seq.areg a).stride.toInt))) :=
  congrArg Host.Outcome.next (issueOn_setAreg h hp (if_neg (by simp [hz])))

theorem execAinc_raised (h : s.Issues v p) (a : Fin 16) {sr : Fin 32} {imm : BitVec 16} (hz : ¬ (sr.val = 0 ∧ imm = 0)) :
    execAinc v a sr imm s = .next (s.raised p 0x01) :=
  congrArg Host.Outcome.next (issueOn_exc h (if_pos (Decidable.not_and_iff_not_or_not.1 hz)))

theorem execArd_ran (h : s.Issues v p) (hp : (s.core p).seq.Plain) (a : Fin 16) (sr : Fin 32) (imm : BitVec 16) :
    execArd v a sr imm s = .next (s.ran p ((s.core p).seq.wr sr
      ((((s.core p).seq.areg a).base + ((s.core p).seq.areg a).off.setWidth 48 + imm.signExtend 48).setWidth 64))) :=
  congrArg Host.Outcome.next (issueOn_wr h hp (by rw [AddrReg.ea_eq_setWidth]))

end

/-- Settles O7: LD and ST by the case of the address check, the address register commands one by one. -/
theorem dataMemoryAndAddressRegisters : Obligations.DataMemoryAndAddressRegisters := by
  unfold Obligations.DataMemoryAndAddressRegisters
  constructor
  · intro s v p r rs1 imm h hp
    constructor
    · intro ha
      have hk := dataAddr_of_aligned ha
      exact ⟨execLd_of_some h hp hk, execSt_of_some h hp hk⟩
    · intro ha
      have hk := dataAddr_of_not_aligned ha
      exact ⟨execLd_of_none h hk, execSt_of_none h hk⟩
  · intro s v p a sr imm h hp
    exact ⟨execAset_ran h hp a sr imm, execAstr_ran h hp a sr imm, execAwrp_ran h hp a sr imm, execAoff_ran h hp a sr imm,
      execAstep_ran h hp a sr imm, execAinc_ran h hp a, execAinc_raised h a, execArd_ran h hp a sr imm⟩

end Sys2Proof.Machine
end

section
/-! Loop counts and hardware loops (R64 to R67). -/
namespace Sys2Proof.Machine

/-! ### What entering a loop gives, branch by branch -/

theorem enterLoop_zero (q : SeqSt) (n : Nat) : enterLoop q n 0 = .exc 0x06 := rfl

theorem enterLoop_deep {q : SeqSt} {len : Nat} (n : Nat) (h0 : len ≠ 0) (hd : 4 ≤ q.loops.length) :
    enterLoop q n len = .exc 0x05 := by
  simp [enterLoop, h0, hd]

theorem enterLoop_beyond {q : SeqSt} {len : Nat} (n : Nat) (hd : q.loops.length < 4)
    (hb : ∃ l, q.loops.head? = some l ∧ l.last < q.pc + len) : enterLoop q n len = .exc 0x06 := by
  obtain ⟨l, hl, hlt⟩ := hb
  simp [enterLoop, Nat.not_le.2 hd, hl, hlt]

/-- A loop of length above 0, at a depth that is free, that ends inside the body around it: only its count is left to judge. -/
def SeqSt.LoopFits (q : SeqSt) (len : Nat) : Prop :=
  len ≠ 0 ∧ q.loops.length < 4 ∧ ∀ l, q.loops.head? = some l → q.pc + len ≤ l.last

/-- The sequencer with one more loop active, its body the len instructions that follow. -/
def SeqSt.entered (q : SeqSt) (n len : Nat) : SeqSt := { q with loops := ⟨n, 0, q.pc + 1, q.pc + len⟩ :: q.loops }

/-- A body of length above 0 does not end at the LOOP that entered it. -/
theorem SeqSt.entered_last_ne (q : SeqSt) (n : Nat) {len : Nat} (h0 : len ≠ 0) :
    ∀ l, (q.entered n len).loops.head? = some l → l.last ≠ q.pc := by
  rintro l ⟨rfl⟩
  exact Nat.ne_of_gt (Nat.lt_add_of_pos_right (Nat.pos_of_ne_zero h0))

theorem enterLoop_of_fits {q : SeqSt} {len : Nat} (n : Nat) (hf : q.LoopFits len) :
    enterLoop q n len = if 16777215 < n then .exc 0x04 else if n = 0 then .skip q (q.pc + len)
      else .ok (q.entered n len) := by
  obtain ⟨h0, hd, hb⟩ := hf
  have hin : ¬ q.loops.head?.any (fun l => decide (l.last < q.pc + len)) = true := by
    simpa [Option.any_eq_true] using hb
  simp only [enterLoop, if_neg h0, if_neg (Nat.not_le.2 hd), if_neg hin, gt_iff_lt, SeqSt.entered]

section
variable {s : State} {v p : Nat} {f : SeqSt → SeqRes} {n : Nat}

/-- A loop entered: its first instruction is the next one, for no body ends at LOOP itself. -/
theorem issueOn_enterLoop_ran (h : s.Issues v p) (hp : (s.core p).seq.Plain) {len : Nat}
    (hf : f (s.core p).seq = enterLoop (s.core p).seq n len) (hfit : (s.core p).seq.LoopFits len) (hn : 0 < n ∧ n ≤ 16777215) :
    issueOn s v f = s.ran p ((s.core p).seq.entered n len) := by
  have hok := hf.trans (enterLoop_of_fits n hfit)
  rw [if_neg (by omega), if_neg (by omega)] at hok
  have hne := (s.core p).seq.entered_last_ne n hfit.1
  rw [issueOn_of h, hok, seqFinish, CoreSt.occur_seq, seqAdvance_plain _ ((s.core p).seq.entered n len) _ hne hp.2]
  simp [State.ran, State.issued, SeqSt.entered, h.run_eq]

/-- A loop of count 0 skips its body. -/
theorem issueOn_enterLoop_skip (h : s.Issues v p) {len : Nat} (hf : f (s.core p).seq = enterLoop (s.core p).seq n len)
    (hfit : (s.core p).seq.LoopFits len)
    (he : ∀ l, (s.core p).seq.loops.head? = some l → l.last ≠ (s.core p).seq.pc + len) (hn : n = 0)
    (hl : (s.core p).seq.pc + len + 1 < (s.core p).seq.limit) :
    issueOn s v f = s.issued p { (s.core p).seq with pc := (s.core p).seq.pc + len + 1 } := by
  have hskip := hf.trans (enterLoop_of_fits n hfit)
  rw [if_neg (by omega), if_pos hn] at hskip
  rw [issueOn_of h, hskip, seqFinish, seqAdvance_plain _ _ _ he hl]
  simp [State.issued, h.run_eq]

end

/-- What LOOP and SLOOP of a length do with a count, each outcome under its condition: the faults of R60, a loop entered, a body
skipped. -/
def State.LoopOutcome (s : State) (p : Nat) (len : BitVec 12) (o : Host.Outcome State Fault Refusal) (n : Nat) : Prop :=
  let q := (s.core p).seq
  let last := q.pc + len.toNat
  let bad : Prop := len = 0 ∨ (q.loops.length < 4 ∧ ∃ l, q.loops.head? = some l ∧ l.last < last)
  (bad → o = .next (s.raised p 0x06)) ∧
  (len ≠ 0 → 4 ≤ q.loops.length → o = .next (s.raised p 0x05)) ∧
  (¬ bad → q.loops.length < 4 → 16777215 < n → o = .next (s.raised p 0x04)) ∧
  (¬ bad → q.loops.length < 4 → 0 < n ∧ n ≤ 16777215 →
    o = .next (s.ran p { q with loops := ⟨n, 0, q.pc + 1, last⟩ :: q.loops })) ∧
  (¬ bad → q.loops.length < 4 → (∀ l, q.loops.head? = some l → l.last ≠ last) → n = 0 → last + 1 < q.limit →
    o = .next (s.issued p { q with pc := last + 1 }))

/-- LOOP and SLOOP share this: an instruction that enters a loop has the outcomes of R64 and R60. -/
theorem issueOn_enterLoop {s : State} {v p : Nat} (h : s.Issues v p) (hp : (s.core p).seq.Plain) {f : SeqSt → SeqRes} {n : Nat}
    {len : BitVec 12} (hf : f (s.core p).seq = enterLoop (s.core p).seq n len.toNat) :
    s.LoopOutcome p len (.next (issueOn s v f)) n := by
  have hlen : len ≠ 0 → len.toNat ≠ 0 := fun h0 hz => h0 (BitVec.eq_of_toNat_eq hz)
  have hfits : ¬ (len = 0 ∨ ((s.core p).seq.loops.length < 4 ∧
      ∃ l, (s.core p).seq.loops.head? = some l ∧ l.last < (s.core p).seq.pc + len.toNat)) →
      (s.core p).seq.loops.length < 4 → (s.core p).seq.LoopFits len.toNat := by
    intro hb hd
    obtain ⟨h0, hin⟩ := not_or.1 hb
    exact ⟨hlen h0, hd, fun l hl => Nat.not_lt.1 fun hlt => hin ⟨hd, l, hl, hlt⟩⟩
  refine ⟨?_, ?_, ?_, ?_, ?_⟩
  · rintro (rfl | ⟨hd, hb⟩)
    · exact congrArg Host.Outcome.next (issueOn_exc h (hf.trans (enterLoop_zero _ n)))
    · exact congrArg Host.Outcome.next (issueOn_exc h (hf.trans (enterLoop_beyond n hd hb)))
  · exact fun h0 hd => congrArg Host.Outcome.next (issueOn_exc h (hf.trans (enterLoop_deep n (hlen h0) hd)))
  · exact fun hb hd hn => congrArg Host.Outcome.next (issueOn_exc h (hf.trans ((enterLoop_of_fits n (hfits hb hd)).trans (if_pos hn))))
  · exact fun hb hd hn => congrArg Host.Outcome.next (issueOn_enterLoop_ran h hp hf (hfits hb hd) hn)
  · exact fun hb hd he hn hl => congrArg Host.Outcome.next (issueOn_enterLoop_skip h hf (hfits hb hd) he hn hl)

/-! ### The commands -/

section
variable {s : State} {v : Fin 256} {p : Nat}

theorem execLic_ran (h : s.Issues v p) (hp : (s.core p).seq.Plain) (c : Fin 4) (imm : BitVec 20) :
    execLic v c imm s = .next (s.ran p ((s.core p).seq.setCreg c (imm.setWidth 32))) :=
  congrArg Host.Outcome.next (issueOn_setCreg h hp rfl)

theorem execMvc_ran (h : s.Issues v p) (hp : (s.core p).seq.Plain) (c : Fin 4) (sr : Fin 32) {imm : BitVec 16} (hi : imm = 0) :
    execMvc v c sr imm s = .next (s.ran p ((s.core p).seq.setCreg c (((s.core p).seq.rd sr).setWidth 32))) :=
  congrArg Host.Outcome.next (issueOn_setCreg h hp ((if_neg (not_not_intro hi)).trans (by rw [low32_eq_setWidth])))

theorem execMvc_raised (h : s.Issues v p) (c : Fin 4) (sr : Fin 32) {imm : BitVec 16} (hi : imm ≠ 0) :
    execMvc v c sr imm s = .next (s.raised p 0x01) := congrArg Host.Outcome.next (issueOn_exc h (if_pos hi))

theorem execRdc_ran (h : s.Issues v p) (hp : (s.core p).seq.Plain) (c : Fin 4) (sr : Fin 32) :
    execRdc v c sr s = .next (s.ran p ((s.core p).seq.wr sr (((s.core p).seq.creg c).setWidth 64))) :=
  congrArg Host.Outcome.next (issueOn_wr h hp rfl)

theorem execLidx_ran (h : s.Issues v p) (hp : (s.core p).seq.Plain) {level : Fin 4} (sr : Fin 32) {l : LoopLevel}
    (hl : (s.core p).seq.loops[level.val]? = some l) :
    execLidx v level sr s = .next (s.ran p ((s.core p).seq.wr sr (BitVec.ofNat 64 l.index))) :=
  congrArg Host.Outcome.next (issueOn_wr h hp (by simp only [hl]))

theorem execLidx_raised (h : s.Issues v p) {level : Fin 4} (sr : Fin 32) (hl : (s.core p).seq.loops[level.val]? = none) :
    execLidx v level sr s = .next (s.raised p 0x01) := congrArg Host.Outcome.next (issueOn_exc h (by simp only [hl]))

theorem execLoop_outcome (h : s.Issues v p) (hp : (s.core p).seq.Plain) (c : Fin 4) (len : BitVec 12) :
    s.LoopOutcome p len (execLoop v c len s) ((s.core p).seq.creg c).toNat := issueOn_enterLoop h hp rfl

theorem execSloop_outcome (h : s.Issues v p) (hp : (s.core p).seq.Plain) (c : Fin 4) (len : BitVec 12)
    (ha : (s.core p).seq.asActive = true) :
    s.LoopOutcome p len (execSloop v c len s) (((s.core p).seq.creg c).toNat % 65536) := issueOn_enterLoop h hp (if_pos ha)

theorem execSloop_raised (h : s.Issues v p) (c : Fin 4) (len : BitVec 12) (ha : (s.core p).seq.asActive = false) :
    execSloop v c len s = .next (s.raised p 0x01) := congrArg Host.Outcome.next (issueOn_exc h (if_neg (by simp [ha])))

end

/-- Settles O9: the count commands one by one; LOOP and SLOOP by what entering a loop gives. -/
theorem loopCountsAndLoops : Obligations.LoopCountsAndLoops := by
  unfold Obligations.LoopCountsAndLoops
  intro s v p c sr level imm20 imm len h hp
  exact ⟨execLic_ran h hp c imm20, execMvc_ran h hp c sr, execMvc_raised h c sr, execRdc_ran h hp c sr,
    fun l hl => execLidx_ran h hp sr hl, execLidx_raised h sr, execLoop_outcome h hp c len, execSloop_outcome h hp c len,
    execSloop_raised h c len⟩

end Sys2Proof.Machine
end

section
/-! Templates, PATCH and PUSH (R68 to R70, R95, R99). -/
namespace Sys2Proof.Machine

/-! ### TLD and PATCH -/

/-- A field of PATCH that R60 refuses: beyond the word, stepped with a scalar source, or of an address register that is none. -/
def PatchBad (lsb w src : Nat) (kind post : Bool) : Prop :=
  64 < lsb + w ∨ (post = true ∧ kind = false) ∨ (kind = true ∧ 16 ≤ src)

/-- The sequencer with w bits of a staging word, from bit lsb, replaced by an effective address or a scalar register (R68). -/
def SeqSt.patched (q : SeqSt) (b word lsb w src : Nat) (kind : Bool) : SeqSt :=
  q.setStg b ((q.stg b).setWord word
    (putBits ((q.stg b).word word) (lsb + w - 1) lsb (if kind then (q.areg src).ea.toNat else (q.rd src).toNat)))

theorem patchOp_bad {lsb width w src : Nat} {kind post : Bool} (b word : Nat) (q : SeqSt)
    (hw : (if width = 0 then 64 else width) = w) (hb : PatchBad lsb w src kind post) :
    patchOp b word lsb width src kind post q = .exc 0x09 := by
  subst hw
  exact if_pos (by simpa [PatchBad] using hb)

theorem patchOp_ok {lsb width w src : Nat} {kind post : Bool} (b word : Nat) (q : SeqSt)
    (hw : (if width = 0 then 64 else width) = w) (hb : ¬ PatchBad lsb w src kind post) :
    patchOp b word lsb width src kind post q = .ok (if post then
      (q.patched b word lsb w src kind).setAreg src ((q.areg src).step (q.areg src).stride.toInt)
      else q.patched b word lsb w src kind) := by
  subst hw
  exact if_neg (by simpa [PatchBad] using hb)

/-- A width field of 0 means 64, whether read as bits or as a number. -/
theorem patchWidth_toNat (width : BitVec 6) :
    (if width.toNat = 0 then 64 else width.toNat) = if width = 0 then 64 else width.toNat := by
  simp [BitVec.toNat_eq]

section
variable {s : State} {v : Fin 256} {p : Nat}

theorem execTld_ran (h : s.Issues v p) (hp : (s.core p).seq.Plain) (b : Fin 4) {idx : Fin 1024}
    (hi : idx.val < (s.core p).seq.tmplLimit) :
    execTld v b idx s = .next (s.ran p { (s.core p).seq.setStg b (Map.get (α := Desc) (s.core p).seq.tmpl idx {}) with
      tTpl := Map.set (α := Nat) (s.core p).seq.tTpl b idx }) :=
  congrArg Host.Outcome.next (issueOn_ok h hp (if_neg (Nat.not_le.2 hi)) rfl rfl h.run_eq)

theorem execTld_raised (h : s.Issues v p) (b : Fin 4) {idx : Fin 1024} (hi : (s.core p).seq.tmplLimit ≤ idx.val) :
    execTld v b idx s = .next (s.raised p 0x08) := congrArg Host.Outcome.next (issueOn_exc h (if_pos hi))

theorem execPatch_raised (h : s.Issues v p) (b : Fin 4) (word : Fin 8) {lsb width : BitVec 6} {src : Fin 32} {kind post : Bool}
    (hb : PatchBad lsb.toNat (if width = 0 then 64 else width.toNat) src kind post) :
    execPatch v b word lsb width src kind post s = .next (s.raised p 0x09) :=
  congrArg Host.Outcome.next (issueOn_exc h (patchOp_bad b word _ (patchWidth_toNat width) hb))

theorem execPatch_ran (h : s.Issues v p) (hp : (s.core p).seq.Plain) (b : Fin 4) (word : Fin 8) {lsb width : BitVec 6}
    {src : Fin 32} {kind post : Bool} {x : SeqSt}
    (hx : (s.core p).seq.patched b word lsb.toNat (if width = 0 then 64 else width.toNat) src kind = x)
    (hb : ¬ PatchBad lsb.toNat (if width = 0 then 64 else width.toNat) src kind post) :
    execPatch v b word lsb width src kind post s = .next (s.ran p (if post then
      x.setAreg src (((s.core p).seq.areg src).step ((s.core p).seq.areg src).stride.toInt) else x)) := by
  subst hx
  have hok := patchOp_ok b word (s.core p).seq (patchWidth_toNat width) hb
  cases post with
  | false => exact congrArg Host.Outcome.next (issueOn_ok h hp hok rfl rfl h.run_eq)
  | true => exact congrArg Host.Outcome.next (issueOn_ok h hp hok rfl rfl h.run_eq)

end

/-! ### What a push does with its core, outcome by outcome -/

theorem pushOp_closed {c : CoreSt} (q : SeqSt) (r : PushReq) (hf : c.seq.frameOpen = false) :
    pushOp c q r = raiseSeq (c.occur 0x03) 0x0A := if_pos (by simp [hf])

theorem pushOp_open {c : CoreSt} (q : SeqSt) (r : PushReq) (hf : c.seq.frameOpen = true) :
    pushOp c q r = doPush c q r 0 := if_neg (by simp [hf])

theorem doPush_full {c : CoreSt} {r : PushReq} (q : SeqSt) (n : Nat) (h : pushOutcome c r = .full) :
    doPush c q r n = ({ c with seq := { q with run := .waiting (.pushFull r) } }, []) := by simp only [doPush, h]

theorem doPush_noClaims {c : CoreSt} {r : PushReq} (q : SeqSt) (n : Nat) (h : pushOutcome c r = .noClaims) :
    doPush c q r n = ({ c with seq := { q with run := .waiting (.pushClaims r) } }, []) := by simp only [doPush, h]

/-- A push made without a stall adds its entry to its own queue and leaves every other queue. -/
theorem pushMade_queue (c : CoreSt) (r : PushReq) (j : Nat) :
    ((enqueue (addStall c 0) r).occur 0x03).queue j =
      if j = r.queue then { c.queue j with ents := (c.queue j).ents ++ [pushedEntry (addStall c 0) r] } else c.queue j := by
  rw [CoreSt.occur_queue, enqueue_queue, addStall_queue]

/-- A refused push raises a record; its core waits and has changed nothing else but a register. -/
theorem doPush_refused {c : CoreSt} {r : PushReq} {d : Nat} (q : SeqSt) (n : Nat) (h : pushOutcome c r = .refused d) :
    ∃ x, doPush c q r n =
      ({ c with seq := { q with run := .waiting (.pushRefused r) } }.setFld .SB_STATUS 0 16 16 1, [.record x]) :=
  ⟨_, by simp only [doPush, h]; rfl⟩

/-- A core operation that sets off one record leaves the core it names as the operation does, but for registers. -/
theorem State.runCore_record_core (s : State) (p : Nat) (c : CoreSt) (x : FaultRec) :
    ∃ f, (s.runCore p (c, [.record x])).core p = { c with regs := f } := by
  obtain ⟨f, hf⟩ := (s.setCore p c).coreEvent_record_core p x
  exact ⟨f, hf.trans (by rw [State.core_setCore])⟩

/-! ### PUSH -/

/-- The push PUSH b, k makes: the staging buffer as it stands, with the template it came from (R69). -/
def SeqSt.pushReq (q : SeqSt) (b k : Nat) : PushReq :=
  { queue := k, desc := q.stg b, stage := b, tpl := Map.get (α := Nat) q.tTpl b 0 }

section
variable {s : State} {v : Fin 256} {p : Nat}

theorem execPush_of (h : s.Issues v p) (b k : Fin 4) :
    execPush v b k s = .next (s.runCore p (pushOp (s.core p) (s.core p).seq ((s.core p).seq.pushReq b k))) := by
  unfold execPush
  rw [State.onCore_of s h.1, if_pos h.issuing]
  rfl

theorem execPush_closed (h : s.Issues v p) (b k : Fin 4) (hf : (s.core p).seq.frameOpen = false) :
    execPush v b k s = .next (s.raised p 0x0A) := by
  rw [execPush_of h, pushOp_closed _ _ hf]
  rfl

theorem execPush_open (h : s.Issues v p) (b k : Fin 4) (hf : (s.core p).seq.frameOpen = true) :
    execPush v b k s = .next (s.runCore p (doPush (s.core p) (s.core p).seq ((s.core p).seq.pushReq b k) 0)) := by
  rw [execPush_of h, pushOp_open _ _ hf]

/-- A push with room: the descriptor joins its queue with its claims, the other queues stay, the next instruction follows. -/
theorem execPush_room (h : s.Issues v p) (hp : (s.core p).seq.Plain) {b k : Fin 4} (hf : (s.core p).seq.frameOpen = true)
    (ho : pushOutcome (s.core p) ((s.core p).seq.pushReq b k) = .room) :
    ∃ t e, execPush v b k s = .next t ∧
      ((t.core p).queue k).ents = ((s.core p).queue k).ents ++ [e] ∧ e.desc = (s.core p).seq.stg b ∧
      e.claims = ((s.core p).seq.stg b).claims ∧ e.st = .waiting ∧
      (∀ j, j ≠ k.val → (t.core p).queue j = (s.core p).queue j) ∧
      (t.core p).seq = { (s.core p).seq with pc := (s.core p).seq.pc + 1 } := by
  have hq := pushMade_queue (s.core p) ((s.core p).seq.pushReq b k)
  have hx := execPush_open h b k hf
  rw [doPush_room 0 ho hp rfl, State.runCore_nil] at hx
  refine ⟨_, pushedEntry (addStall (s.core p) 0) ((s.core p).seq.pushReq b k), hx, ?_, rfl, rfl, rfl, fun j hj => ?_, ?_⟩
  · rw [State.core_setCore]
    exact congrArg QueueSt.ents ((hq k).trans (if_pos rfl))
  · rw [State.core_setCore]
    exact (hq j).trans (if_neg hj)
  · rw [State.core_setCore]
    simp only [h.run_eq]

/-- A push that meets a full queue waits for a place in it. -/
theorem execPush_full (h : s.Issues v p) {b k : Fin 4} (hf : (s.core p).seq.frameOpen = true)
    (ho : pushOutcome (s.core p) ((s.core p).seq.pushReq b k) = .full) :
    execPush v b k s = .next (s.setCore p { s.core p with
      seq := { (s.core p).seq with run := .waiting (.pushFull ((s.core p).seq.pushReq b k)) } }) := by
  rw [execPush_open h b k hf, doPush_full _ _ ho, State.runCore_nil]

/-- A push that meets a full claim table waits for room in it. -/
theorem execPush_noClaims (h : s.Issues v p) {b k : Fin 4} (hf : (s.core p).seq.frameOpen = true)
    (ho : pushOutcome (s.core p) ((s.core p).seq.pushReq b k) = .noClaims) :
    execPush v b k s = .next (s.setCore p { s.core p with
      seq := { (s.core p).seq with run := .waiting (.pushClaims ((s.core p).seq.pushReq b k)) } }) := by
  rw [execPush_open h b k hf, doPush_noClaims _ _ ho, State.runCore_nil]

/-- A push with an impossible claim waits, and every queue is as it was. -/
theorem execPush_refused (h : s.Issues v p) {b k : Fin 4} {d : Nat} (hf : (s.core p).seq.frameOpen = true)
    (ho : pushOutcome (s.core p) ((s.core p).seq.pushReq b k) = .refused d) :
    ∃ t, execPush v b k s = .next t ∧
      (t.core p).seq = { (s.core p).seq with run := .waiting (.pushRefused ((s.core p).seq.pushReq b k)) } ∧
      ∀ j, (t.core p).queue j = (s.core p).queue j := by
  obtain ⟨x, hx⟩ := doPush_refused (s.core p).seq 0 ho
  obtain ⟨f, hcore⟩ := State.runCore_record_core s p _ x
  refine ⟨_, (execPush_open h b k hf).trans (by rw [hx]), ?_, fun j => ?_⟩
  · rw [hcore]
    rfl
  · rw [hcore]
    rfl

end

/-- Settles O11: TLD by its template, PATCH by its field, PUSH by the frame and by what the push meets. -/
theorem templatesAndPushes : Obligations.TemplatesAndPushes := by
  unfold Obligations.TemplatesAndPushes
  intro s v p b k idx word lsb width src kind post h hp
  exact ⟨execTld_ran h hp b, execTld_raised h b, execPatch_raised h b word, execPatch_ran h hp b word rfl,
    execPush_closed h b k, fun hf => ⟨execPush_room h hp hf, execPush_full h hf, execPush_noClaims h hf,
      fun _ => execPush_refused h hf⟩⟩

end Sys2Proof.Machine
end
